-- ==== Sys2Proof/Word.lean ====
section
/-! DEFINITION. The one word type of the BS64: the byte of its serial lines (R165, R20).
Every other quantity of the manual is a number in a range, held as `Nat` or `Int`. -/

namespace Sys2Proof

/-- One byte of a port frame (R165), a dock-bus frame (R20) or a journal record (R157). -/
abbrev Byte := BitVec 8

end Sys2Proof
end

