-- ==== Sys2Proof/Config.lean ====
section
/-! DEFINITION. What is fixed for every BS64: the sizes of its tables and queues, the largest values of its
counters, and the one value the manual leaves open. -/

namespace Sys2Proof.Config

/-- Dock records of the Dock Table (R1). -/
abbrev docks : Nat := 64
/-- Group entries of the Attribute Table (R10). -/
abbrev groups : Nat := 16
/-- Entries of the Policy Table (R68). -/
abbrev policies : Nat := 8
/-- Entries of the Tariff Table (R90). -/
abbrev tariffs : Nat := 4
/-- Places of the Dock Command Queue (R27). -/
abbrev queuePlaces : Nat := 16
/-- Entries of the Card Table (R63). -/
abbrev cardPlaces : Nat := 512
/-- Entries of the Auth Queue (R76). -/
abbrev authPlaces : Nat := 8
/-- Records of the Hire Register (R83). -/
abbrev hirePlaces : Nat := 96
/-- Entries of the Bike Fault Table (R132). -/
abbrev bikeFaultPlaces : Nat := 32
/-- Records of the Station Journal (R153). -/
abbrev journalPlaces : Nat := 256
/-- The largest station minute (R183). -/
abbrev lastMinute : Nat := 4294967295
/-- The number of values of the sequence counter (R155). -/
abbrev sequenceNumbers : Nat := 4294967296
/-- The largest lost count (R160). -/
abbrev lostTop : Nat := 65535
/-- The top of every fault count (R124, R125). -/
abbrev faultTop : Nat := 15
/-- The lower and upper end of a card balance in cents (R63). -/
abbrev balanceLow : Int := -99999
abbrev balanceHigh : Int := 999999
/-- The largest charge in cents (R92, step 7). -/
abbrev chargeTop : Nat := 999999
/-- Response timeout in seconds of a dock-addressed command and of an EVENT_POLL (R35). -/
abbrev commandTimeout : Nat := 2
abbrev pollTimeout : Nat := 1
/-- Ticks after which the sense timer expires: the 11th (R151). -/
abbrev senseTicks : Nat := 11

/-- FREE VALUE (assumption log 8). The two-byte value by which the DOCK_READ reply shows the batch as release owner. R17
names the field "none, a hire number, or the batch"; R170 gives the bytes of an absent value and of a hire number, and
no rule gives the value that stands for the batch. -/
opaque batchOwner : BitVec 16

end Sys2Proof.Config
end

