-- ==== Sys2Proof/Syntax.lean ====
section
/-! DEFINITION. The commands of the BS64: one constructor for each row of spec/opcode_table.json, with the operands
that the row's event brings into the part. Operands that arrive on a wire are the bytes of the frame (R20, R165, R170);
a dock named by one of the part's own timers is its number. -/

namespace Sys2Proof

/-- The three ports (R164). -/
inductive Port where
  | terminal | uplink | service
  deriving DecidableEq, Repr

/-- The commands. A request carries the port it came in on, its frame's tag byte and its field bytes (R165); its code
is the constructor's. `attentionLow` is the level of the dock attention wire at the moment of the command. -/
inductive Instr where
  /-- POWER_ON (R186) -/
  | powerOn (attentionLow : Bool)
  /-- RESET_PIN_LOW (R187): the pin has been low for 1 millisecond -/
  | resetPinLow
  /-- RESET_PIN_HIGH (R187) -/
  | resetPinHigh (attentionLow : Bool)
  /-- SECOND_TICK (R183) -/
  | secondTick
  /-- STATION_MINUTE_INCREASE (R96, R183) -/
  | stationMinuteIncrease
  /-- RELEASE_WINDOW_EXPIRY (R47) -/
  | releaseWindowExpiry (dock : Nat)
  /-- EJECT_WINDOW_EXPIRY (R57) -/
  | ejectWindowExpiry (dock : Nat)
  /-- AUTH_TIMEOUT (R78): the oldest entry whose countdown has run out -/
  | authTimeout
  /-- BATCH_IDLE_EXPIRY (R118) -/
  | batchIdleExpiry
  /-- SENSE_TIMER_EXPIRY (R151) -/
  | senseTimerExpiry (dock : Nat)
  /-- PATROL_INTERVAL_EXPIRY (R139) -/
  | patrolIntervalExpiry
  /-- PATROL_POSTSCALER_EXPIRY (R140) -/
  | patrolPostscalerExpiry
  /-- LEAK (R127) -/
  | leak
  /-- POLL_HOLDOFF_CLEAR (R25) -/
  | pollHoldoffClear (attentionLow : Bool)
  /-- IDENT_REREAD_RETRY (R59) -/
  | identRereadRetry
  /-- AUDIT_PASS (R145) -/
  | auditPass
  /-- DOCK_ATTENTION_LOW (R25) -/
  | dockAttentionLow
  /-- DOCK_COMMAND_SENT (R35) -/
  | dockCommandSent
  /-- DOCK_RESPONSE_TIMEOUT (R37) -/
  | dockResponseTimeout
  /-- DOCK_FRAME_IGNORED (R21): the bytes of the complete frame -/
  | dockFrameIgnored (bytes : List Byte) (attentionLow : Bool)
  /-- OPENED (R46): the dock byte of the frame -/
  | opened (dock : Byte)
  /-- LOCKED_WITH (R49): dock, tag and bike kind byte -/
  | lockedWith (dock : Byte) (tag : BitVec 24) (kind : Byte)
  /-- LOCKED_EMPTY (R49) -/
  | lockedEmpty (dock : Byte)
  /-- STATUS_IS (R141): dock, tag and status flags byte -/
  | statusIs (dock : Byte) (tag : BitVec 24) (flags : Byte)
  /-- SENSE_STARTED (R151) -/
  | senseStarted (dock : Byte)
  /-- NO_EVENT (R25): its dock byte is 0xFF in a good frame -/
  | noEvent (dock : Byte)
  /-- EVENT_IS INSERTED (R54): dock, tag and bike kind byte -/
  | inserted (dock : Byte) (tag : BitVec 24) (kind : Byte) (attentionLow : Bool)
  /-- EVENT_IS REMOVED (R62) -/
  | removed (dock : Byte) (attentionLow : Bool)
  /-- EVENT_IS LOCK_FAULT (R62) -/
  | lockFault (dock : Byte) (attentionLow : Bool)
  /-- EVENT_IS SENSE_DONE (R151): dock and level byte -/
  | senseDone (dock : Byte) (level : Byte) (attentionLow : Bool)
  /-- REQUEST_FRAME_BAD_CHECK (R166): the bytes of the frame after its 0x7E -/
  | requestFrameBadCheck (port : Port) (bytes : List Byte)
  /-- INTER_BYTE_TIMEOUT (R166) -/
  | interByteTimeout (port : Port)
  /-- FRAMING_ERROR (R166) -/
  | framingError (port : Port)
  /-- PORT_RESET (R167) -/
  | portReset (port : Port)
  /-- REQUEST_FRAME_WAITING (R168): a frame of any code completes while a reply is sent -/
  | requestFrameWaiting (port : Port) (code : Byte) (tag : Byte) (fields : List Byte)
  /-- REPLY_SENT (R168) -/
  | replySent (port : Port)
  /-- UNKNOWN_REQUEST (R169): a frame whose code is none of the table's -/
  | unknownRequest (port : Port) (code : Byte) (tag : Byte) (fields : List Byte)
  /-- TAKE_NOTICE (R175) -/
  | takeNotice (port : Port) (tag : Byte) (fields : List Byte)
  /-- PEEK_NOTICE (R175) -/
  | peekNotice (port : Port) (tag : Byte) (fields : List Byte)
  /-- END_NOTICE (R176) -/
  | endNotice (port : Port) (tag : Byte) (fields : List Byte)
  /-- SET_NOTICE_MASK (R177) -/
  | setNoticeMask (port : Port) (tag : Byte) (fields : List Byte)
  /-- DOCK_READ (R17) -/
  | dockRead (port : Port) (tag : Byte) (fields : List Byte)
  /-- CONFIG_READ (R182) -/
  | configRead (port : Port) (tag : Byte) (fields : List Byte)
  /-- HIRE_START (R40) -/
  | hireStart (port : Port) (tag : Byte) (fields : List Byte)
  /-- HIRE_QUERY (R97) -/
  | hireQuery (port : Port) (tag : Byte) (fields : List Byte)
  /-- REPORT_FAULT (R122) -/
  | reportFault (port : Port) (tag : Byte) (fields : List Byte)
  /-- DOCK_LIST (R18) -/
  | dockList (port : Port) (tag : Byte) (fields : List Byte)
  /-- CARD_SET (R64) -/
  | cardSet (port : Port) (tag : Byte) (fields : List Byte)
  /-- CARD_REMOVE (R66) -/
  | cardRemove (port : Port) (tag : Byte) (fields : List Byte)
  /-- CARD_READ (R67) -/
  | cardRead (port : Port) (tag : Byte) (fields : List Byte)
  /-- AUTH_LIST (R82) -/
  | authList (port : Port) (tag : Byte) (fields : List Byte)
  /-- AUTH_GRANT (R79) -/
  | authGrant (port : Port) (tag : Byte) (fields : List Byte)
  /-- AUTH_DENY (R80) -/
  | authDeny (port : Port) (tag : Byte) (fields : List Byte)
  /-- LINK_STATE (R81) -/
  | linkState (port : Port) (tag : Byte) (fields : List Byte)
  /-- POLICY_SET (R69) -/
  | policySet (port : Port) (tag : Byte) (fields : List Byte)
  /-- TARIFF_SET (R91) -/
  | tariffSet (port : Port) (tag : Byte) (fields : List Byte)
  /-- ATTR_SET (R13) -/
  | attrSet (port : Port) (tag : Byte) (fields : List Byte)
  /-- HIRE_CLOSE_REMOTE (R99) -/
  | hireCloseRemote (port : Port) (tag : Byte) (fields : List Byte)
  /-- HIRE_RESTORE (R100) -/
  | hireRestore (port : Port) (tag : Byte) (fields : List Byte)
  /-- HIRE_READ (R98) -/
  | hireRead (port : Port) (tag : Byte) (fields : List Byte)
  /-- JOURNAL_PEEK (R161) -/
  | journalPeek (port : Port) (tag : Byte) (fields : List Byte)
  /-- JOURNAL_RELEASE (R162) -/
  | journalRelease (port : Port) (tag : Byte) (fields : List Byte)
  /-- CONFIG_SET (R181) -/
  | configSet (port : Port) (tag : Byte) (fields : List Byte)
  /-- TIME_SET (R184) -/
  | timeSet (port : Port) (tag : Byte) (fields : List Byte)
  /-- STATION_RESET (R187) -/
  | stationReset (port : Port) (tag : Byte) (fields : List Byte)
  /-- FULL_AUDIT (R144) -/
  | fullAudit (port : Port) (tag : Byte) (fields : List Byte)
  /-- BATCH_OPEN (R104) -/
  | batchOpen (port : Port) (tag : Byte) (fields : List Byte)
  /-- BATCH_TAKE (R112) -/
  | batchTake (port : Port) (tag : Byte) (fields : List Byte)
  /-- BATCH_CLOSE (R116) -/
  | batchClose (port : Port) (tag : Byte) (fields : List Byte)
  /-- BATCH_READ (R120) -/
  | batchRead (port : Port) (tag : Byte) (fields : List Byte)
  /-- DOCK_RESTORE (R131) -/
  | dockRestore (port : Port) (tag : Byte) (fields : List Byte)
  /-- BIKE_CLEAR (R136) -/
  | bikeClear (port : Port) (tag : Byte) (fields : List Byte)
  /-- FRAME_ATTEMPT_ENDED (R166): the length byte that ends the attempt -/
  | frameAttemptEnded (port : Port) (length : Byte)
  /-- DOCK_FRAME_KIND_DISCARDED (R21): the dock and kind bytes after the 0xA5 -/
  | dockFrameKindDiscarded (dock : Byte) (kind : Byte)
  /-- LINE_RETURNS_TO_MARKING (R167) -/
  | lineReturnsToMarking (port : Port)
  deriving DecidableEq, Repr

end Sys2Proof
end

