-- ==== Sys2Proof/Decode.lean ====
section
/-! DEFINITION. The command that a word spells by the table's bits. No row of spec/opcode_table.json gives bits: the
part's commands are events and frames, whose bytes are the operands of the commands themselves. So no word spells one. -/

namespace Sys2Proof

/-- No row of the table gives bits, so every word is answered with none. -/
def decodeTableWord (_nbits _w : Nat) : Option Instr := none

end Sys2Proof
end

