-- ==== Sys2Proof/Machine/Bytes.lean ====
section
/-! DEFINITION. Numbers in bytes, most significant byte first (R165, R157, R20), and the two check sums: the CRC of a
port frame (R165) and the sum of a dock-bus frame (R20). -/

namespace Sys2Proof.Machine

/-- The number `v` in `width` bytes, most significant byte first (R165). -/
def beBytes : Nat → Nat → List Byte
  | 0, _ => []
  | w + 1, v => BitVec.ofNat 8 (v / 256 ^ w) :: beBytes w v

/-- The number that bytes spell, most significant byte first (R165). -/
def beNat (bytes : List Byte) : Nat :=
  bytes.foldl (fun acc b => acc * 256 + b.toNat) 0

/-- The number in the field of `width` bytes that begins `at_` bytes into `bytes` (R170). -/
def numAt (bytes : List Byte) (at_ width : Nat) : Nat :=
  beNat ((bytes.drop at_).take width)

/-- A number of `width` bytes read as two's complement (R165). -/
def signed (width n : Nat) : Int :=
  if n < 256 ^ width / 2 then (n : Int) else (n : Int) - (256 ^ width : Nat)

/-- An integer as the two's complement number of `bits` bits (R157, R158, R165). -/
def twos (bits : Nat) (v : Int) : Nat :=
  (v % ((2 ^ bits : Nat) : Int)).toNat

/-- One bit step of the CRC of polynomial 0x1021 (R165). -/
def crcShift (c : BitVec 16) : BitVec 16 :=
  if c.msb then (c <<< 1) ^^^ 0x1021#16 else c <<< 1

/-- The CRC after one more byte, its most significant bit first (R165). -/
def crcByte (c : BitVec 16) (b : Byte) : BitVec 16 :=
  let x := c ^^^ (b.setWidth 16 <<< 8)
  crcShift (crcShift (crcShift (crcShift (crcShift (crcShift (crcShift (crcShift x)))))))

/-- The check of a port frame over its bytes from the length to the last field byte (R165). -/
def crc16 (bytes : List Byte) : BitVec 16 :=
  bytes.foldl crcByte 0xFFFF#16

/-- The check byte of a dock-bus frame: the sum of the bytes from the dock number on, modulo 256 (R20). -/
def sumCheck (bytes : List Byte) : Byte :=
  bytes.foldl (· + ·) 0#8

end Sys2Proof.Machine
end

