-- ==== Sys2Proof/Machine/State.lean ====
section
/-! DEFINITION. The state of the BS64 as plain data: every table, record, queue, timer, mark and pin level that the
manual gives the part, and `State.reset`, the state at power-on before anything has happened. -/

namespace Sys2Proof.Machine

/-! ## Named values -/

/-- The kind of a bike (R3). -/
inductive BikeKind where
  | standard | electric
  deriving DecidableEq, Repr

/-- The custody state of a dock, in the order of R2. -/
inductive DockState where
  | vacant | reserved | latching | held | claimed | releasing | ejecting | retired | unverified
  deriving DecidableEq, Repr

/-- The class of an attribute group (R10). -/
inductive DockClass where
  | standard | charging | vanOnly | closed
  deriving DecidableEq, Repr

/-- The answer of the hireable predicate, in the order of R17. -/
inductive Verdict where
  | hireable | vanHold | notPermitted | lowCharge | notReady
  deriving DecidableEq, Repr

/-- The station states (R185). -/
inductive StationState where
  | starting | ready
  deriving DecidableEq, Repr

/-- The link states (R81). -/
inductive Link where
  | offline | online
  deriving DecidableEq, Repr

/-- The standing of a card (R63). -/
inductive Standing where
  | good | blocked
  deriving DecidableEq, Repr

/-- The states of a hire, in the order of R83. -/
inductive HireState where
  | starting | out | overdue
  deriving DecidableEq, Repr

/-- Where a hire record came from (R83). -/
inductive Origin where
  | home | restored
  deriving DecidableEq, Repr

/-- The kind of a batch (R102). -/
inductive BatchKind where
  | collect | deliver
  deriving DecidableEq, Repr

/-- How a batch ended (R116, R118, R119). -/
inductive BatchOutcome where
  | closed | timedOut | reset
  deriving DecidableEq, Repr

/-- The fault categories, in the order of their codes (R121). -/
inductive Category where
  | lockFault | dockSilent | tagUnreadable | auditMismatch | riderDock | crewDock | riderBrakes | riderTyre
  | riderOther | crewBike | batteryPoor
  deriving DecidableEq, Repr

/-- The result codes (R171). -/
inductive Result where
  | ok | pending | unknownRequest | badLength | notHere | starting | refusedRange | refusedFixed | noDock
  | dockNotReady | dockHeldVan | notPermitted | noBike | lowCharge | groupBusy | busBusy | cardBlocked | cardLimit
  | electricNotAllowed | funds | offline | authBusy | cardInUse | authTimeout | registerFull | journalHeld
  | hireNotOut | bikeDocked | notFound | batchOpen | noBatch | batchInFlight | notRecorded
  deriving DecidableEq, Repr

/-! ## The Dock Table -/

/-- A stored charge level with its level minute (R3, R150): the two are present or absent together. -/
structure Charge where
  level  : Nat
  minute : Nat
  deriving DecidableEq, Repr

/-- A bike record (R3). `id` is none while the bike is unidentified. `sense` is the sense timer in second ticks,
present exactly while sense in progress is yes (R150, R151). -/
structure Bike where
  id          : Option Nat
  kind        : BikeKind
  dockedSince : Nat
  charge      : Option Charge
  sense       : Option Nat
  deriving DecidableEq, Repr

/-- The release owner of a RELEASING dock (R2). -/
inductive Owner where
  | hire (number : Nat)
  | batch
  deriving DecidableEq, Repr

/-- The release and eject phases (R45). -/
inductive Phase where
  | unlatching | opened | locking | rejecting | ejectOpen | ejectLocking
  deriving DecidableEq, Repr

/-- A running window timer: the window in seconds as read when it started, and the ticks since (R45). -/
structure Window where
  limit : Nat
  ticks : Nat
  deriving DecidableEq, Repr

/-- The dock-addressed commands (R27). -/
inductive CmdKind where
  | unlatch | lock | reject | status | senseStart
  deriving DecidableEq, Repr

/-- The placing units (R27). -/
inductive PlacingUnit where
  | release | patrol
  deriving DecidableEq, Repr

/-- An owed LOCK or REJECT (R27). `live`: the operation that owes it is still in progress (assumption log 6). -/
structure Owed where
  kind  : CmdKind
  owner : PlacingUnit
  live  : Bool
  deriving DecidableEq, Repr

/-- A dock record (R2), with the phase and window timer the Release and Return Unit holds beside it (R45). The lock
due flag is `owed.isSome`. `rereadAgain` is the model's own mark of a DROPPED re-read (assumption log 7). -/
structure Dock where
  state         : DockState
  bike          : Option Bike
  owner         : Option Owner
  reserved      : Bool
  vanHold       : Bool
  faultCount    : Nat
  retirePending : Bool
  owed          : Option Owed
  identRetries  : Nat
  phase         : Option Phase
  window        : Option Window
  rereadAgain   : Bool
  deriving DecidableEq, Repr

/-- A dock record at power-on (R7). -/
def Dock.powerOn : Dock where
  state := .unverified
  bike := none
  owner := none
  reserved := false
  vanHold := false
  faultCount := 0
  retirePending := false
  owed := none
  identRetries := 0
  phase := none
  window := none
  rereadAgain := false

/-- A group entry of the Attribute Table (R10), also the form of effective attributes (R11). -/
structure Attributes where
  releasePermitted : Bool
  returnPermitted  : Bool
  cls              : DockClass
  deriving DecidableEq, Repr

/-- The power-on value of a group entry (R10), which is also the default attributes of R11. -/
def Attributes.open : Attributes where
  releasePermitted := true
  returnPermitted := true
  cls := .standard

/-! ## The dock bus -/

/-- A queued command (R27). `live`: the operation that placed it is still in progress (assumption log 6). -/
structure Cmd where
  kind  : CmdKind
  dock  : Nat
  owner : PlacingUnit
  live  : Bool
  deriving DecidableEq, Repr

/-- What is on the bus: an EVENT_POLL, or a dock-addressed command (R27). -/
inductive OnBus where
  | poll
  | command (c : Cmd)
  deriving DecidableEq, Repr

/-- The command in flight and its response timer: the second ticks since its last byte was sent, none until then, while
the part drives the bus (R19, R35). -/
structure InFlight where
  what  : OnBus
  ticks : Option Nat
  deriving DecidableEq, Repr

/-- The Dock Bus Controller (R25, R27, R21). `queue` is in order of age, oldest first. `handing` is the model's own
mark: an outcome is being handed over (assumption log 5). -/
structure Bus where
  queue        : List Cmd
  pollSlot     : Bool
  holdoff      : Bool
  inFlight     : Option InFlight
  attentionLow : Bool
  partialFrame : List Byte
  handing      : Bool
  deriving DecidableEq, Repr

/-! ## Cards, authorizations and hires -/

/-- A Card Table entry (R63). -/
structure Card where
  id         : Nat
  subscriber : Bool
  concession : Bool
  deposit    : Bool
  standing   : Standing
  balance    : Int
  held       : Nat
  openCount  : Nat
  lastUse    : Nat
  deriving DecidableEq, Repr

/-- A Policy Table entry (R68). -/
structure Policy where
  tariff            : Nat
  holdAmount        : Nat
  maxHires          : Nat
  electricPermitted : Bool
  discount          : Nat
  maxDuration       : Nat
  deriving DecidableEq, Repr

/-- A policy entry at power-on (R68). -/
def Policy.powerOn : Policy where
  tariff := 0
  holdAmount := 3000
  maxHires := 1
  electricPermitted := false
  discount := 0
  maxDuration := 1440

/-- A Tariff Table entry (R90). -/
structure Tariff where
  a : Nat
  b : Nat
  p : Nat
  q : Nat
  c : Nat
  deriving DecidableEq, Repr

/-- A tariff entry at power-on (R90). -/
def Tariff.powerOn : Tariff where
  a := 30
  b := 30
  p := 100
  q := 50
  c := 1500

/-- An Auth Queue entry (R76). `timedOut` is the model's own mark: a second tick found its remaining seconds at 0
(assumption log 1). -/
structure AuthEntry where
  tag       : Nat
  card      : Nat
  dock      : Nat
  wanted    : BikeKind
  remaining : Nat
  timedOut  : Bool
  deriving DecidableEq, Repr

/-- The frozen terms of a hire (R83): A, B, P, Q, C, d and max duration. -/
structure Terms where
  a           : Nat
  b           : Nat
  p           : Nat
  q           : Nat
  c           : Nat
  discount    : Nat
  maxDuration : Nat
  deriving DecidableEq, Repr

/-- A hire record (R83). -/
structure Hire where
  number      : Nat
  state       : HireState
  card        : Nat
  policyIndex : Nat
  bike        : Nat
  kind        : BikeKind
  dockFrom    : Option Nat
  start       : Option Nat
  holdAmount  : Nat
  origin      : Origin
  terms       : Terms
  deriving DecidableEq, Repr

/-! ## Batch, faults, patrol and audit -/

/-- A manifest entry (R102): `done` is the mark DONE, else PENDING. -/
structure ManifestEntry where
  bike : Nat
  done : Bool
  deriving DecidableEq, Repr

/-- The Batch Record (R102). -/
structure Batch where
  kind          : BatchKind
  crew          : Nat
  opened        : Nat
  manifest      : List ManifestEntry
  target        : Nat
  done          : Nat
  idle          : Nat
  expiryWaiting : Bool
  deriving DecidableEq, Repr

/-- A Bike Fault Table entry (R132). -/
structure BikeFault where
  bike        : Nat
  count       : Nat
  quarantined : Bool
  lastReport  : Nat
  deriving DecidableEq, Repr

/-- The patrol state (R138). -/
structure Patrol where
  cursor     : Nat
  interval   : Nat
  cycles     : Nat
  postscaler : Nat
  deriving DecidableEq, Repr

/-- The audit field with the asking port, which is present only for FULL (R144). -/
inductive AuditKind where
  | idle
  | full (asking : Port)
  | startUp
  deriving DecidableEq, Repr

/-- The audit state (R144). The sets are lists of dock numbers, `toDo` in increasing order. -/
structure Audit where
  kind        : AuditKind
  toDo        : List Nat
  outstanding : List Nat
  mismatches  : Nat
  counted     : List Nat
  deriving DecidableEq, Repr

/-! ## The Station Journal -/

/-- The place of a close (R94): a dock of this station or a remote station. -/
inductive Place where
  | dock (d : Nat)
  | remote (station : Nat)
  deriving DecidableEq, Repr

/-- The sixteen record kinds with their fields (R156). A bike id is 0 for an unidentified bike where the producing
rule says so; optional fields are options. -/
inductive Entry where
  | hireStart (hire card bike dock : Nat)
  | hireClose (hire card bike : Nat) (place : Place) (duration charge : Nat) (balance : Int)
  | hireOverdue (hire card bike : Nat)
  | returnForeign (bike dock : Nat)
  | returnUnidentified (dock : Nat)
  | bikeMissing (bike dock : Nat)
  | auditMismatch (dock : Nat) (expected found : Option Nat)
  | dockFault (dock : Nat) (category : Category) (count : Nat)
  | bikeFault (bike : Nat) (category : Category) (count : Nat)
  | dockRetired (dock : Nat) (stranded : Option Nat)
  | bikeQuarantined (bike : Nat)
  | cardBlocked (card : Nat) (balance : Int)
  | bikeCollected (bike dock crew : Nat)
  | bikeDelivered (bike dock crew : Nat)
  | batchClosed (crew : Nat) (kind : BatchKind) (outcome : BatchOutcome) (done pending : Nat)
  | overrun (lost : Nat)
  deriving DecidableEq, Repr

/-- A journal record (R153). -/
structure Record where
  seq     : Nat
  station : Nat
  minute  : Nat
  entry   : Entry
  deriving DecidableEq, Repr

/-- The Station Journal (R153, R155, R159, R160), records oldest first. -/
structure Journal where
  records : List Record
  nextSeq : Nat
  lost    : Nat
  held    : Bool
  overrun : Bool
  deriving DecidableEq, Repr

/-! ## Ports and notices -/

/-- The notices with their parameters (R178). -/
inductive Notice where
  | authDone (tag : Nat) (result : Result)
  | hireDockOpen (dock hire : Nat)
  | releaseLapsed (dock hire : Nat)
  | bikeTaken (dock hire : Nat)
  | returnRefused (dock : Nat)
  | returnDone (dock hire charge : Nat)
  | authNeeded (entries : Nat)
  | journalHigh (depth : Nat)
  | hireOverdue (hire : Nat)
  | journalData (depth : Nat)
  | startDone
  | uplinkAuditDone (mismatches : Nat)
  | batchEnded (outcome : BatchOutcome)
  | batchDockOpen (dock : Nat)
  | batchProgress (done : Nat)
  | dockRetired (dock : Nat)
  | bikeQuarantined (bike : Nat)
  | serviceAuditDone (mismatches : Nat)
  | patrolDone (cycles : Nat)
  deriving DecidableEq, Repr

/-- The notice kinds of the three ports, in the order of R178. -/
inductive NoticeKind where
  | authDone | hireDockOpen | releaseLapsed | bikeTaken | returnRefused | returnDone
  | authNeeded | journalHigh | hireOverdue | journalData | startDone | uplinkAuditDone
  | batchEnded | batchDockOpen | batchProgress | dockRetired | bikeQuarantined | serviceAuditDone | patrolDone
  deriving DecidableEq, Repr

/-- A complete, checked request frame (R165): code, tag and field bytes. -/
structure Frame where
  code   : Byte
  tag    : Byte
  fields : List Byte
  deriving DecidableEq, Repr

/-- One field of a reply (R170): a number in its width in bytes, or an area of bytes (a journal record, a notice
parameter). -/
inductive ReplyField where
  | num (width value : Nat)
  | area (bytes : List Byte)
  deriving DecidableEq, Repr

/-- A reply frame (R165): code, tag, result and fields. -/
structure Reply where
  code   : Byte
  tag    : Byte
  result : Result
  fields : List ReplyField
  deriving DecidableEq, Repr

/-- A Port Interface (R164) with its notice controller (R173). `atSpacing`: the line is still at the spacing level
since a BREAK (R167). -/
structure PortState where
  partialFrame : List Byte
  waiting      : Option Frame
  reply        : Option Reply
  pending      : List Notice
  inService    : List NoticeKind
  mask         : Nat
  atSpacing    : Bool
  deriving DecidableEq, Repr

/-- A Port Interface at power-on (R172). -/
def PortState.powerOn : PortState where
  partialFrame := []
  waiting := none
  reply := none
  pending := []
  inService := []
  mask := 7
  atSpacing := false

/-! ## Clock and configuration -/

/-- The station minute counter and its seconds sub-count (R183). -/
structure Clock where
  minute : Nat
  second : Nat
  deriving DecidableEq, Repr

/-- The settings of the Station Configuration record, fields 1 to 19 in order (R180). -/
structure Settings where
  docksNext        : Nat
  releaseWindow    : Nat
  authTimeout      : Nat
  batchIdle        : Nat
  minKeep          : Nat
  dockThreshold    : Nat
  bikeThreshold    : Nat
  leakPeriod       : Nat
  categoryMask     : Nat
  patrolEnable     : Nat
  patrolInterval   : Nat
  patrolPostscaler : Nat
  senseAge         : Nat
  minCharge        : Nat
  batteryFloor     : Nat
  upperWatermark   : Nat
  lowerWatermark   : Nat
  attributeEnable  : Nat
  stationNumber    : Nat
  deriving DecidableEq, Repr

/-- The settings at power-on (R180). -/
def Settings.powerOn : Settings where
  docksNext := 64
  releaseWindow := 30
  authTimeout := 20
  batchIdle := 20
  minKeep := 4
  dockThreshold := 3
  bikeThreshold := 2
  leakPeriod := 24
  categoryMask := 0x0100
  patrolEnable := 1
  patrolInterval := 4
  patrolPostscaler := 1
  senseAge := 30
  minCharge := 25
  batteryFloor := 10
  upperWatermark := 224
  lowerWatermark := 160
  attributeEnable := 0
  stationNumber := 0

/-- The model's own marks for the second tick (assumption log 1). `minuteTaken`: STATION_MINUTE_INCREASE has been taken
for the tick to come, which has nothing left to do at the clock. The others: a periodic expiry that a second tick has
reached and whose command has not been taken yet. -/
structure Due where
  minuteTaken : Bool
  idle        : Bool
  patrol      : Bool
  postscaler  : Bool
  leak        : Bool
  holdoff     : Bool
  reread      : Bool
  auditPass   : Bool
  deriving DecidableEq, Repr

/-- No expiry is due, and no part of the coming tick has been taken. -/
def Due.nothing : Due where
  minuteTaken := false
  idle := false
  patrol := false
  postscaler := false
  leak := false
  holdoff := false
  reread := false
  auditPass := false

/-! ## The state -/

/-- The whole state of the BS64, and the queue of the commands that wait for it. -/
structure State where
  pending    : List Instr
  clock      : Clock
  due        : Due
  station    : StationState
  pinLow     : Bool
  settings   : Settings
  installed  : Nat
  docks      : Vector Dock Config.docks
  attrs      : Vector Attributes Config.groups
  bus        : Bus
  cards      : List Card
  policies   : Vector Policy Config.policies
  authQueue  : List AuthEntry
  lastTag    : Nat
  link       : Link
  hires      : List Hire
  lastHire   : Nat
  tariffs    : Vector Tariff Config.tariffs
  batch      : Option Batch
  bikeFaults : List BikeFault
  leakTimer  : Nat
  patrol     : Patrol
  audit      : Audit
  journal    : Journal
  terminal   : PortState
  uplink     : PortState
  service    : PortState
  deriving DecidableEq, Repr

/-- No command of this block stops it: no rule of the manual gives the part a stop, and every command has an effect
(assumption log 4). So there is no fault. -/
inductive Fault where
  deriving DecidableEq, Repr

/-- Reasons to refuse a command. -/
inductive Refusal where
  /-- Raised by `exec` alone, for a row that has no meaning yet; safe: nothing can be proved of it. No arm uses it. -/
  | notModelled (mnemonic : String)
  deriving DecidableEq, Repr

/-- The state at power-on (R186 and the tables it names), before the start-up audit's first pass: POWER_ON runs that
(assumption log 3). -/
def State.reset : State where
  pending := []
  clock := { minute := 0, second := 0 }
  due := Due.nothing
  station := .starting
  pinLow := false
  settings := Settings.powerOn
  installed := 64
  docks := Vector.replicate Config.docks Dock.powerOn
  attrs := Vector.replicate Config.groups Attributes.open
  bus := { queue := [], pollSlot := false, holdoff := false, inFlight := none, attentionLow := false,
           partialFrame := [], handing := false }
  cards := []
  policies := Vector.replicate Config.policies Policy.powerOn
  authQueue := []
  lastTag := 0
  link := .offline
  hires := []
  lastHire := 0
  tariffs := Vector.replicate Config.tariffs Tariff.powerOn
  batch := none
  bikeFaults := []
  leakTimer := 0
  patrol := { cursor := 0, interval := 0, cycles := 0, postscaler := 0 }
  audit := { kind := .startUp, toDo := List.range 64, outstanding := [], mismatches := 0, counted := [] }
  journal := { records := [], nextSeq := 1, lost := 0, held := false, overrun := false }
  terminal := PortState.powerOn
  uplink := PortState.powerOn
  service := PortState.powerOn

end Sys2Proof.Machine
end

