-- ==== Sys2Proof/Machine/Frames.lean ====
section
/-! DEFINITION. The two frames of the part at the level of bytes: how a port takes a request frame in and resumes its
search after a discard (R165, R166), and the dock-bus frame with its kinds, lengths and fields (R20, R21). -/

namespace Sys2Proof.Machine

/-! ## Port frames -/

/-- The start byte of a port frame (R165). -/
def portStart : Byte := 0x7E#8

/-- A length byte that a frame may carry: 2 to 250 (R166). -/
def goodLength (length : Byte) : Bool :=
  2 ≤ length.toNat && length.toNat ≤ 250

/-- The bytes of the request frame of code `code`, tag `tag` and fields `fields`, its check included (R165). -/
def requestBytes (code tag : Byte) (fields : List Byte) : List Byte :=
  let body := BitVec.ofNat 8 (fields.length + 2) :: code :: tag :: fields
  portStart :: (body ++ beBytes 2 (crc16 body).toNat)

/-- The bytes after a 0x7E are a complete frame: a good length, that many bytes, and two check bytes (R166). -/
def frameComplete (rest : List Byte) : Bool :=
  match rest with
  | [] => false
  | length :: more => goodLength length && length.toNat + 2 ≤ more.length

/-- The check a complete frame carries agrees with the check computed (R166). -/
def frameChecks (rest : List Byte) : Bool :=
  match rest with
  | [] => false
  | length :: more =>
    beNat ((more.drop length.toNat).take 2) == (crc16 (length :: more.take length.toNat)).toNat

/-- The request frame that stands in the bytes after the length byte `length` (R165). -/
def frameOf (length : Byte) (more : List Byte) : Frame where
  code := more.headD 0#8
  tag := (more.drop 1).headD 0#8
  fields := (more.take length.toNat).drop 2

/-- The search for 0x7E over bytes already received: the first request frame it completes with the bytes after that
frame, or none with the bytes of the attempt it comes to stand in, its 0x7E first, empty where it stands in none. A
length out of range and a complete frame of a wrong check are passed over as R166 gives. The first argument bounds the
number of bytes looked at. -/
def search : Nat → List Byte → Option Frame × List Byte
  | 0, _ => (none, [])
  | _, [] => (none, [])
  | n + 1, b :: rest =>
    if b = portStart then
      match rest with
      | [] => (none, [b])
      | length :: more =>
        if goodLength length then
          if frameComplete rest then
            if frameChecks rest then (some (frameOf length more), more.drop (length.toNat + 2)) else search n rest
          else (none, b :: rest)
        else search n more
    else search n rest

/-! ## Dock-bus frames -/

/-- The start marker of a dock-bus frame (R20). -/
def dockStart : Byte := 0xA5#8

/-- The length of the reply frame of a kind, none for a byte that is no reply kind (R20). -/
def replyFrameLength (kind : Byte) : Option Nat :=
  if kind = 0x81#8 ∨ kind = 0x83#8 ∨ kind = 0x85#8 ∨ kind = 0x86#8 ∨ kind = 0x89#8 ∨ kind = 0x8A#8 then some 4
  else if kind = 0x8B#8 then some 5
  else if kind = 0x82#8 ∨ kind = 0x84#8 ∨ kind = 0x88#8 then some 8
  else none

/-- The bytes of a dock-bus frame whose bytes from the dock number to the one before the check are `body` (R20). -/
def dockFrame (body : List Byte) : List Byte := dockStart :: (body ++ [sumCheck body])

/-- The reply kinds of R20 with the fields each carries: the tag, and the level byte, which is a bike kind, the status
flags or a charge level. -/
inductive DockReply where
  | opened
  | lockedWith (tag : BitVec 24) (kind : Byte)
  | lockedEmpty
  | statusIs (tag : BitVec 24) (flags : Byte)
  | senseStarted
  | noEvent
  | inserted (tag : BitVec 24) (kind : Byte)
  | removed
  | lockFault
  | senseDone (level : Byte)
  deriving DecidableEq, Repr

/-- The kind code of a reply (R20). -/
def DockReply.code : DockReply → Byte
  | .opened => 0x81#8
  | .lockedWith .. => 0x82#8
  | .lockedEmpty => 0x83#8
  | .statusIs .. => 0x84#8
  | .senseStarted => 0x85#8
  | .noEvent => 0x86#8
  | .inserted .. => 0x88#8
  | .removed => 0x89#8
  | .lockFault => 0x8A#8
  | .senseDone _ => 0x8B#8

/-- The bytes of a reply between its kind and its check: the tag in bytes 3 to 5, most significant first, then the level
byte, each where the kind carries it (R20). -/
def DockReply.fieldBytes : DockReply → List Byte
  | .lockedWith tag kind => beBytes 3 tag.toNat ++ [kind]
  | .statusIs tag flags => beBytes 3 tag.toNat ++ [flags]
  | .inserted tag kind => beBytes 3 tag.toNat ++ [kind]
  | .senseDone level => [level]
  | .opened | .lockedEmpty | .senseStarted | .noEvent | .removed | .lockFault => []

/-- The bytes of the reply frame of a dock unit (R20). -/
def replyBytes (dock : Byte) (r : DockReply) : List Byte := dockFrame (dock :: r.code :: r.fieldBytes)

/-- The reply of a kind code and the bytes between it and the check, none where the table of R20 has no such reply. -/
def replyOf (code : Byte) (fields : List Byte) : Option DockReply :=
  match fields with
  | [] =>
    if code = 0x81#8 then some .opened
    else if code = 0x83#8 then some .lockedEmpty
    else if code = 0x85#8 then some .senseStarted
    else if code = 0x86#8 then some .noEvent
    else if code = 0x89#8 then some .removed
    else if code = 0x8A#8 then some .lockFault
    else none
  | [level] => if code = 0x8B#8 then some (.senseDone level) else none
  | [a, b, c, level] =>
    let tag := BitVec.ofNat 24 (beNat [a, b, c])
    if code = 0x82#8 then some (.lockedWith tag level)
    else if code = 0x84#8 then some (.statusIs tag level)
    else if code = 0x88#8 then some (.inserted tag level)
    else none
  | _ => none

/-- The dock number and reply that a complete frame carries: its start marker, its length and its check are right (R20,
R21). -/
def readReply (bytes : List Byte) : Option (Byte × DockReply) :=
  match bytes with
  | start :: dock :: code :: rest =>
    if start = dockStart ∧ replyFrameLength code = some bytes.length ∧
        sumCheck (dock :: code :: rest.dropLast) = rest.getLastD 0#8 then
      (replyOf code rest.dropLast).map fun r => (dock, r)
    else none
  | _ => none

/-- The partial frame after a frame was discarded at its kind byte: the search for 0xA5 resumes at the byte after the
discarded marker, so over the dock number byte and the kind byte (R21). -/
def afterKindDiscarded (dock kind : Byte) : List Byte :=
  if dock = dockStart then [dock, kind]
  else if kind = dockStart then [kind]
  else []

/-- The bike kind that a bike kind byte means: 1 is ELECTRIC (R20). `true` is ELECTRIC. -/
def kindByteElectric (kind : Byte) : Bool := kind == 1#8

end Sys2Proof.Machine
end

