-- ==== Sys2Proof/Machine/Operands.lean ====
section
/-! DEFINITION. The operands of requests: the request table of R169, the field layouts of R170, and the values a
request's bytes stand for. -/

namespace Sys2Proof.Machine

/-! ## The request table -/

/-- The size a request's fields must have (R170): fixed, or that of the fields before the entries and one entry's
width for every entry that the count byte at `countAt` names. -/
inductive FieldSize where
  | fixed (size : Nat)
  | counted (base each countAt : Nat)
  deriving DecidableEq, Repr

/-- A row of the request table (R169) with its size (R170). -/
structure RequestRow where
  code     : Byte
  terminal : Bool
  uplink   : Bool
  service  : Bool
  starting : Bool
  size     : FieldSize
  deriving DecidableEq, Repr

/-- The requests of R169 in the table's order, with the sizes of R170; a request R170 does not list has no fields. -/
def requestTable : List RequestRow := [
  ⟨0x01#8, true, true, true, true, .fixed 0⟩,
  ⟨0x02#8, true, true, true, true, .fixed 0⟩,
  ⟨0x03#8, true, true, true, true, .fixed 1⟩,
  ⟨0x04#8, true, true, true, true, .fixed 1⟩,
  ⟨0x08#8, true, true, true, true, .fixed 1⟩,
  ⟨0x09#8, true, true, true, true, .fixed 0⟩,
  ⟨0x10#8, true, false, false, false, .fixed 9⟩,
  ⟨0x11#8, true, true, false, false, .fixed 2⟩,
  ⟨0x12#8, true, false, true, false, .fixed 4⟩,
  ⟨0x13#8, true, false, true, false, .fixed 0⟩,
  ⟨0x20#8, false, true, false, true, .counted 1 15 0⟩,
  ⟨0x21#8, false, true, false, false, .fixed 7⟩,
  ⟨0x22#8, false, true, false, false, .fixed 7⟩,
  ⟨0x23#8, false, true, false, false, .fixed 0⟩,
  ⟨0x24#8, false, true, false, false, .fixed 9⟩,
  ⟨0x25#8, false, true, false, false, .fixed 1⟩,
  ⟨0x26#8, false, true, false, true, .fixed 1⟩,
  ⟨0x28#8, false, true, false, true, .fixed 9⟩,
  ⟨0x29#8, false, true, false, true, .fixed 9⟩,
  ⟨0x2A#8, false, true, false, false, .fixed 4⟩,
  ⟨0x2C#8, false, true, false, false, .fixed 8⟩,
  ⟨0x2D#8, false, true, false, true, .fixed 30⟩,
  ⟨0x2E#8, false, true, false, false, .fixed 2⟩,
  ⟨0x30#8, false, true, false, true, .fixed 1⟩,
  ⟨0x31#8, false, true, false, true, .fixed 2⟩,
  ⟨0x34#8, false, true, false, true, .counted 1 5 0⟩,
  ⟨0x35#8, false, true, false, true, .fixed 4⟩,
  ⟨0x36#8, false, true, false, false, .fixed 0⟩,
  ⟨0x37#8, false, true, true, false, .fixed 0⟩,
  ⟨0x40#8, false, false, true, false, .counted 5 3 4⟩,
  ⟨0x41#8, false, false, true, false, .fixed 1⟩,
  ⟨0x42#8, false, false, true, false, .fixed 0⟩,
  ⟨0x43#8, false, false, true, false, .fixed 0⟩,
  ⟨0x44#8, false, false, true, false, .fixed 1⟩,
  ⟨0x45#8, false, false, true, false, .fixed 3⟩]

/-- The row of a request code (R169, step 1). -/
def requestRow (code : Byte) : Option RequestRow :=
  requestTable.find? (fun r => r.code == code)

/-- The row takes the request on this port (R169, step 2). -/
def RequestRow.takenOn (r : RequestRow) : Port → Bool
  | .terminal => r.terminal
  | .uplink => r.uplink
  | .service => r.service

/-- The size of the fields agrees with the request's fields (R169, step 3; R170). -/
def FieldSize.agrees (z : FieldSize) (fields : List Byte) : Bool :=
  match z with
  | .fixed n => fields.length == n
  | .counted base each countAt => fields.length == base + each * numAt fields countAt 1

/-- The checks of R169 in order: none when the frame passes all four, else the result of the first that fails. -/
def portChecks (code : Byte) (port : Port) (fields : List Byte) (station : StationState) : Option Result :=
  match requestRow code with
  | none => some .unknownRequest
  | some r =>
    if !r.takenOn port then some .notHere
    else if !r.size.agrees fields then some .badLength
    else if station = .starting ∧ r.starting = false then some .starting
    else none

/-! ## Values of fields -/

/-- The bike kind a wanted-kind or kind field means: 0 STANDARD, 1 ELECTRIC (R40, R100). -/
def fieldKind (n : Nat) : BikeKind := if n = 1 then .electric else .standard

/-- A yes or no field: 1 for yes (R170). -/
def fieldBool (n : Nat) : Bool := n == 1

/-- A standing field: 0 GOOD, 1 BLOCKED (R64). -/
def fieldStanding (n : Nat) : Standing := if n = 1 then .blocked else .good

/-- A class field: 0 STANDARD, 1 CHARGING, 2 VAN_ONLY, 3 CLOSED (R10). -/
def fieldClass (n : Nat) : DockClass :=
  match n with
  | 0 => .standard
  | 1 => .charging
  | 2 => .vanOnly
  | _ => .closed

/-- A bike kind of a dock-bus frame (R20, R26). -/
def byteKind (kind : Byte) : BikeKind := if kindByteElectric kind then .electric else .standard

/-- What a dock reports of its bike: the tag (0 if unread), the kind, and whether the lock is closed (R141). -/
structure Found where
  tag    : Nat
  kind   : BikeKind
  closed : Bool
  deriving DecidableEq, Repr

/-- The status flags of STATUS_IS: bit 0 a bike, bit 1 ELECTRIC, bit 2 the lock closed; with bit 0 clear the tag and
bit 1 are disregarded (R20). -/
def statusFound (tag : BitVec 24) (flags : Byte) : Option Found :=
  if flags.getLsbD 0 then
    some { tag := tag.toNat, kind := if flags.getLsbD 1 then .electric else .standard, closed := flags.getLsbD 2 }
  else none

/-- One setting of CARD_SET, or the card of an AUTH_GRANT (R64, R79): the flags, standing and balance as carried. -/
structure CardSetting where
  card       : Nat
  subscriber : Nat
  concession : Nat
  deposit    : Nat
  standing   : Nat
  balance    : Int
  deriving DecidableEq, Repr

/-- The flags and standing are each 0 or 1 (R64, R79). -/
def CardSetting.flagsGood (c : CardSetting) : Bool :=
  c.subscriber ≤ 1 && c.concession ≤ 1 && c.deposit ≤ 1 && c.standing ≤ 1

/-- The card settings that `fields` carries from its second byte on, 15 bytes each (R170). -/
def cardSettings (fields : List Byte) : List CardSetting :=
  (List.range (numAt fields 0 1)).map fun i =>
    let o := 1 + 15 * i
    { card := numAt fields o 7, subscriber := numAt fields (o + 7) 1, concession := numAt fields (o + 8) 1,
      deposit := numAt fields (o + 9) 1, standing := numAt fields (o + 10) 1,
      balance := signed 4 (numAt fields (o + 11) 4) }

/-- One setting of CONFIG_SET: field number and value (R181). -/
structure ConfigSetting where
  field : Nat
  value : Nat
  deriving DecidableEq, Repr

/-- The settings that CONFIG_SET carries, 5 bytes each (R170). -/
def configSettings (fields : List Byte) : List ConfigSetting :=
  (List.range (numAt fields 0 1)).map fun i =>
    { field := numAt fields (1 + 5 * i) 1, value := numAt fields (2 + 5 * i) 4 }

/-- The bike ids that BATCH_OPEN carries, 3 bytes each (R170). -/
def batchBikes (fields : List Byte) : List Nat :=
  (List.range (numAt fields 4 1)).map fun i => numAt fields (5 + 3 * i) 3

/-- The frozen terms that HIRE_RESTORE carries from byte 19 on (R170). -/
def restoreTerms (fields : List Byte) : Terms where
  a := numAt fields 19 1
  b := numAt fields 20 1
  p := numAt fields 21 2
  q := numAt fields 23 2
  c := numAt fields 25 2
  discount := numAt fields 27 1
  maxDuration := numAt fields 28 2

/-- The first number of a list whose check fails, counted from 0 (the "first bad field" of R69, R91 and R100). -/
def firstBad (checks : List Bool) : Option Nat :=
  checks.findIdx? (fun ok => !ok)

end Sys2Proof.Machine
end

