-- ==== Sys2Proof/Machine/Ops.lean ====
section
/-! DEFINITION. The operations every block uses: reading and writing a dock record, a port, a table entry; raising a
notice (R173); entering a journal record (R154, R159, R160). -/

namespace Sys2Proof.Machine

/-! ## Docks, tables and ports -/

/-- The record of dock `d`; a number above 63 has none and reads as a record at power-on. -/
def State.dock (s : State) (d : Nat) : Dock := (s.docks[d]?).getD Dock.powerOn

/-- `s` with the record of dock `d` replaced. -/
def setDock (d : Nat) (k : Dock) (s : State) : State := { s with docks := s.docks.setIfInBounds d k }

/-- `s` with the record of dock `d` changed by `f`. -/
def modDock (d : Nat) (f : Dock → Dock) (s : State) : State := setDock d (f (s.dock d)) s

/-- The installed docks, 0 to N−1 (R1). -/
def State.installedDocks (s : State) : List Nat := List.range s.installed

/-- The Port Interface of a port (R164). -/
def State.port (s : State) : Port → PortState
  | .terminal => s.terminal
  | .uplink => s.uplink
  | .service => s.service

/-- `s` with a Port Interface replaced. -/
def setPort (p : Port) (x : PortState) (s : State) : State :=
  match p with
  | .terminal => { s with terminal := x }
  | .uplink => { s with uplink := x }
  | .service => { s with service := x }

/-- `s` with a Port Interface changed by `f`. -/
def modPort (p : Port) (f : PortState → PortState) (s : State) : State := setPort p (f (s.port p)) s

/-- Policy Table entry `i` (R68). -/
def State.policy (s : State) (i : Nat) : Policy := (s.policies[i]?).getD Policy.powerOn

/-- Tariff Table entry `i` (R90). -/
def State.tariff (s : State) (i : Nat) : Tariff := (s.tariffs[i]?).getD Tariff.powerOn

/-- Attribute Table entry of group `g` (R10). -/
def State.group (s : State) (g : Nat) : Attributes := (s.attrs[g]?).getD Attributes.open

/-- The current station minute (R183). -/
def State.now (s : State) : Nat := s.clock.minute

/-! ## Notices -/

/-- The kind of a notice (R178). -/
def Notice.kind : Notice → NoticeKind
  | .authDone _ _ => .authDone
  | .hireDockOpen _ _ => .hireDockOpen
  | .releaseLapsed _ _ => .releaseLapsed
  | .bikeTaken _ _ => .bikeTaken
  | .returnRefused _ => .returnRefused
  | .returnDone _ _ _ => .returnDone
  | .authNeeded _ => .authNeeded
  | .journalHigh _ => .journalHigh
  | .hireOverdue _ => .hireOverdue
  | .journalData _ => .journalData
  | .startDone => .startDone
  | .uplinkAuditDone _ => .uplinkAuditDone
  | .batchEnded _ => .batchEnded
  | .batchDockOpen _ => .batchDockOpen
  | .batchProgress _ => .batchProgress
  | .dockRetired _ => .dockRetired
  | .bikeQuarantined _ => .bikeQuarantined
  | .serviceAuditDone _ => .serviceAuditDone
  | .patrolDone _ => .patrolDone

/-- The port, code and priority of a notice kind (R178). -/
def NoticeKind.row : NoticeKind → Port × Nat × Nat
  | .authDone => (.terminal, 1, 0)
  | .hireDockOpen => (.terminal, 2, 1)
  | .releaseLapsed => (.terminal, 3, 1)
  | .bikeTaken => (.terminal, 4, 2)
  | .returnRefused => (.terminal, 5, 2)
  | .returnDone => (.terminal, 6, 3)
  | .authNeeded => (.uplink, 1, 0)
  | .journalHigh => (.uplink, 2, 1)
  | .hireOverdue => (.uplink, 3, 2)
  | .journalData => (.uplink, 4, 3)
  | .startDone => (.uplink, 5, 4)
  | .uplinkAuditDone => (.uplink, 6, 5)
  | .batchEnded => (.service, 1, 1)
  | .batchDockOpen => (.service, 2, 2)
  | .batchProgress => (.service, 3, 2)
  | .dockRetired => (.service, 4, 3)
  | .bikeQuarantined => (.service, 5, 3)
  | .serviceAuditDone => (.service, 6, 4)
  | .patrolDone => (.service, 7, 5)

/-- The port whose controller takes the kind (R178). -/
def NoticeKind.port (k : NoticeKind) : Port := k.row.1

/-- The code of the kind on its port (R178). -/
def NoticeKind.code (k : NoticeKind) : Nat := k.row.2.1

/-- The priority of the kind, 0 the highest (R178). -/
def NoticeKind.priority (k : NoticeKind) : Nat := k.row.2.2

/-- The pending list after a raise: a kind already there has its parameter replaced and keeps its place, another is
appended at the end (R173). -/
def raiseIn (n : Notice) (pending : List Notice) : List Notice :=
  if pending.any (fun m => m.kind == n.kind) then pending.map (fun m => if m.kind == n.kind then n else m)
  else pending ++ [n]

/-- Raise a notice at the controller of its port (R173). -/
def raise (n : Notice) (s : State) : State :=
  modPort n.kind.port (fun x => { x with pending := raiseIn n x.pending }) s

/-! ## The Station Journal -/

/-- The journal depth (R153). -/
def State.depth (s : State) : Nat := s.journal.records.length

/-- Evaluate the HELD mark against the watermarks, raising JOURNAL_HIGH when it is set (R159). -/
def evalHeld (s : State) : State :=
  if s.journal.held then
    if s.depth ≤ s.settings.lowerWatermark then { s with journal := { s.journal with held := false } } else s
  else if s.settings.upperWatermark ≤ s.depth then
    raise (.journalHigh s.depth) { s with journal := { s.journal with held := true } }
  else s

/-- Steps 2 to 6 of an entry: at depth 256 the record is lost and counted (R160), else it takes its number and its
stamps and is appended, JOURNAL_DATA is raised at a rise from 0, and the HELD mark is evaluated (R154, R155). -/
def appendRecord (e : Entry) (s : State) : State :=
  let j := s.journal
  if Config.journalPlaces ≤ j.records.length then
    { s with journal := { j with lost := min (j.lost + 1) Config.lostTop, overrun := true } }
  else
    let r : Record := { seq := j.nextSeq, station := s.settings.stationNumber, minute := s.clock.minute, entry := e }
    let s1 := { s with journal := { j with records := j.records ++ [r],
                                           nextSeq := (j.nextSeq + 1) % Config.sequenceNumbers } }
    evalHeld (if j.records.isEmpty then raise (.journalData 1) s1 else s1)

/-- The OVERRUN record that fronts the next entry with space: it carries the lost count, which returns to 0 with the
mark clear (R154 step 1, R160). -/
def frontOverrun (s : State) : State :=
  if s.journal.overrun ∧ s.journal.records.length < Config.journalPlaces then
    let s1 := appendRecord (.overrun s.journal.lost) s
    { s1 with journal := { s1.journal with lost := 0, overrun := false } }
  else s

/-- A record handed to the journal (R154). -/
def enterRecord (e : Entry) (s : State) : State := appendRecord e (frontOverrun s)

end Sys2Proof.Machine
end

