-- ==== Sys2Proof/Machine/Flags.lean ====
section
/-! DEFINITION. The values the part computes and does not store: effective attributes (R11), quarantine (R3), the
hireable verdict (R15), the return permission check (R16), the takeable test (R112), the sense test (R150), the category
mask (R123), the ATTN level (R174) and the driver enable of the dock bus (R19). -/

namespace Sys2Proof.Machine

/-- The effective attributes of dock `d` (R11). -/
def effective (d : Nat) (s : State) : Attributes :=
  if s.settings.attributeEnable = 0 then Attributes.open else s.group (d / 4)

/-- The Bike Fault Table entry of a bike id (R132). -/
def findBikeFault (b : Nat) (s : State) : Option BikeFault := s.bikeFaults.find? (fun f => f.bike == b)

/-- The bike id has an entry with its quarantined flag set (R3). -/
def quarantinedId (b : Nat) (s : State) : Bool :=
  match findBikeFault b s with
  | some f => f.quarantined
  | none => false

/-- A docked bike is quarantined; an unidentified one is not (R3). -/
def quarantined (k : Dock) (s : State) : Bool :=
  match k.bike with
  | some b => match b.id with
    | some i => quarantinedId i s
    | none => false
  | none => false

/-- The class allows rider hire and return: STANDARD or CHARGING (R12, R15, R16). -/
def riderClass (c : DockClass) : Bool := c == .standard || c == .charging

/-- The charge level is present and at least min charge (R15). -/
def charged (b : Bike) (s : State) : Bool :=
  match b.charge with
  | some c => s.settings.minCharge ≤ c.level
  | none => false

/-- The hireable verdict of dock `d`: the order of the table of R15, and HIREABLE when nothing fails. -/
def verdict (d : Nat) (s : State) : Verdict :=
  let k := s.dock d
  let a := effective d s
  if k.vanHold then .vanHold
  else if !riderClass a.cls || !a.releasePermitted then .notPermitted
  else
    match k.bike with
    | none => .notReady
    | some b =>
      if k.state = .held ∧ k.retirePending = false ∧ b.id.isSome ∧ quarantined k s = false then
        if b.kind = .electric ∧ a.cls = .charging ∧ charged b s = false then .lowCharge else .hireable
      else .notReady

/-- The return permission check of dock `d` (R16). -/
def returnAllowed (d : Nat) (s : State) : Bool :=
  riderClass (effective d s).cls && (effective d s).returnPermitted

/-- The dock may be taken by BATCH_TAKE: HELD with a van hold, or RETIRED with a stranded bike and not CLOSED
(R112, step 4). -/
def takeable (d : Nat) (s : State) : Bool :=
  let k := s.dock d
  (k.state == .held && k.vanHold) || (k.state == .retired && k.bike.isSome && (effective d s).cls != .closed)

/-- The charge level is absent or older than the sense age (R150). -/
def chargeStale (b : Bike) (s : State) : Bool :=
  match b.charge with
  | some c => s.settings.senseAge < s.now - c.minute
  | none => true

/-- The dock needs a sense (R150). -/
def needsSense (d : Nat) (s : State) : Bool :=
  let k := s.dock d
  match k.bike with
  | some b =>
    k.state == .held && (effective d s).cls == .charging && b.kind == .electric && b.sense.isNone && chargeStale b s
  | none => false

/-- The states of an operation in flight (R2, section 1.2). -/
def inFlightState : DockState → Bool
  | .latching | .claimed | .releasing | .ejecting => true
  | .vacant | .reserved | .held | .retired | .unverified => false

/-- The code of a category (R121). -/
def Category.code : Category → Nat
  | .lockFault => 0
  | .dockSilent => 1
  | .tagUnreadable => 2
  | .auditMismatch => 3
  | .riderDock => 4
  | .crewDock => 5
  | .riderBrakes => 6
  | .riderTyre => 7
  | .riderOther => 8
  | .crewBike => 9
  | .batteryPoor => 10

/-- The category is masked: its bit of the category mask is set (R123, R180). -/
def masked (c : Category) (s : State) : Bool := s.settings.categoryMask.testBit c.code

/-- The level of a port's ATTN line: a pending kind within the mask whose priority is numerically lower than that of
every kind in service (R174). -/
def attn (p : Port) (s : State) : Bool :=
  let x := s.port p
  x.pending.any fun n =>
    n.kind.priority ≤ x.mask && x.inService.all fun k => n.kind.priority < k.priority

/-- The driver enable of the dock bus, asserted for the length of each command frame: a command is in flight and its last
byte has not been sent. The part listens to the bus at all other times (R19). -/
def driverEnable (s : State) : Bool :=
  match s.bus.inFlight with
  | some f => f.ticks.isNone
  | none => false

end Sys2Proof.Machine
end

