-- ==== Sys2Proof/Machine/Cards.lean ====
section
/-! DEFINITION. The Card Table: holds, settlement and blocking (R72 to R75), writing an entry and eviction (R64, R65),
the card step for a card in the table (R70). -/

namespace Sys2Proof.Machine

/-- The Card Table entry of a card id (R63). -/
def findCard (id : Nat) (s : State) : Option Card := s.cards.find? (fun c => c.id == id)

/-- `s` with the entry of a card id changed by `f`. -/
def modCard (id : Nat) (f : Card → Card) (s : State) : State :=
  { s with cards := s.cards.map fun c => if c.id == id then f c else c }

/-- Balance − held (R63). -/
def Card.available (c : Card) : Int := c.balance - c.held

/-- 4 × subscriber + 2 × concession + deposit on file (R63). -/
def Card.policyIndex (c : Card) : Nat := 4 * c.subscriber.toNat + 2 * c.concession.toNat + c.deposit.toNat

/-- Place a hold, checked or restored (R72). -/
def placeHold (id amount : Nat) (s : State) : State :=
  modCard id (fun c => { c with held := c.held + amount, openCount := c.openCount + 1, lastUse := s.now }) s

/-- Release the hold of a cancelled hire (R73). -/
def releaseHold (id amount : Nat) (s : State) : State :=
  modCard id (fun c => { c with held := c.held - amount, openCount := c.openCount - 1 }) s

/-- The balance after a charge, saturating at its lower end (R74, step 2). -/
def settledBalance (balance : Int) (charge : Nat) : Int := max (balance - charge) Config.balanceLow

/-- Settle a closed hire, steps 1 to 3 of R74. -/
def settle (id amount charge : Nat) (s : State) : State :=
  modCard id (fun c => { c with held := c.held - amount, balance := settledBalance c.balance charge,
                                openCount := c.openCount - 1, lastUse := s.now }) s

/-- The balance of a card, which R74 step 4 gives back; a hire's card always stands in the table (R83). -/
def balanceOf (id : Nat) (s : State) : Int :=
  match findCard id s with
  | some c => c.balance
  | none => 0

/-- Block a GOOD card whose settlement left its balance below 0 (R75). -/
def blockIfNegative (id : Nat) (s : State) : State :=
  match findCard id s with
  | some c =>
    if c.balance < 0 ∧ c.standing = .good then
      enterRecord (.cardBlocked id c.balance) (modCard id (fun x => { x with standing := .blocked }) s)
    else s
  | none => s

/-- The entry `a` goes before `b` for eviction: older last use, then smaller card id (R65). -/
def evictBefore (a b : Card) : Bool := a.lastUse < b.lastUse || (a.lastUse == b.lastUse && a.id < b.id)

/-- The first of a list in an order of preference: the element before which no other of the list comes. -/
def bestBy {α : Type} (before : α → α → Bool) : List α → Option α
  | [] => none
  | x :: rest =>
    match bestBy before rest with
    | none => some x
    | some y => if before y x then some y else some x

/-- The entry that a new card evicts from a full table: the oldest used with no open hires, leaving out the cards the
same request has written (R65). -/
def evictionChoice (written : List Nat) (s : State) : Option Card :=
  bestBy evictBefore (s.cards.filter fun c => c.openCount == 0 && !written.contains c.id)

/-- The balance clamped into its range (R64). -/
def clampBalance (b : Int) : Int := max Config.balanceLow (min Config.balanceHigh b)

/-- Evict an entry if the table is full (R65). The evicted card's id, if one was. -/
def makeCardRoom (written : List Nat) (s : State) : State × Option Nat :=
  if Config.cardPlaces ≤ s.cards.length then
    match evictionChoice written s with
    | some c => ({ s with cards := s.cards.filter fun x => x.id != c.id }, some c.id)
    | none => (s, none)
  else (s, none)

/-- Apply one card setting (R64): replace the flags, standing and balance of an entry present, else make a new one,
evicting if the table is full. The answer says whether it was made new, and the card evicted. -/
def writeCard (written : List Nat) (c : CardSetting) (s : State) : State × Bool × Option Nat :=
  match findCard c.card s with
  | some _ =>
    (modCard c.card (fun x =>
      { x with subscriber := fieldBool c.subscriber, concession := fieldBool c.concession,
               deposit := fieldBool c.deposit, standing := fieldStanding c.standing,
               balance := clampBalance c.balance }) s, false, none)
  | none =>
    let (s1, evicted) := makeCardRoom written s
    let entry : Card :=
      { id := c.card, subscriber := fieldBool c.subscriber, concession := fieldBool c.concession,
        deposit := fieldBool c.deposit, standing := fieldStanding c.standing, balance := clampBalance c.balance,
        held := 0, openCount := 0, lastUse := s.now }
    ({ s1 with cards := s1.cards ++ [entry] }, true, evicted)

/-- The counts and evictions of a CARD_SET as its settings are applied in order (R64). -/
structure CardTally where
  made     : Nat
  replaced : Nat
  evicted  : List Nat
  written  : List Nat
  deriving DecidableEq, Repr

/-- Apply the settings of a CARD_SET in order (R64). -/
def writeCards : List CardSetting → CardTally → State → State × CardTally
  | [], t, s => (s, t)
  | c :: rest, t, s =>
    let (s1, new, evicted) := writeCard t.written c s
    writeCards rest { made := t.made + new.toNat, replaced := t.replaced + (!new).toNat,
                      evicted := t.evicted ++ evicted.toList, written := c.card :: t.written } s1

/-- The card step for a card in the table: none is the pass (R70). -/
def cardCheck (c : Card) (wanted : BikeKind) (s : State) : Option Result :=
  let p := s.policy c.policyIndex
  if c.standing = .blocked then some .cardBlocked
  else if p.maxHires = 0 then some .notPermitted
  else if p.maxHires ≤ c.openCount then some .cardLimit
  else if wanted = .electric ∧ p.electricPermitted = false then some .electricNotAllowed
  else if c.available < (p.holdAmount : Int) then some .funds
  else none

end Sys2Proof.Machine
end

