-- ==== Sys2Proof/Machine/Wire.lean ====
section
/-! DEFINITION. What the part puts on its wires: the 32 bytes of a journal record (R157, R158), the parameter area of a
notice (R178), the fields and bytes of a reply frame (R165, R170, R171), the bytes of a command frame (R20). -/

namespace Sys2Proof.Machine

/-! ## Codes -/

/-- The value of a result code (R171). -/
def Result.code : Result → Nat
  | .ok => 0x00
  | .pending => 0x01
  | .unknownRequest => 0x10
  | .badLength => 0x11
  | .notHere => 0x12
  | .starting => 0x13
  | .refusedRange => 0x14
  | .refusedFixed => 0x15
  | .noDock => 0x20
  | .dockNotReady => 0x21
  | .dockHeldVan => 0x22
  | .notPermitted => 0x23
  | .noBike => 0x24
  | .lowCharge => 0x25
  | .groupBusy => 0x26
  | .busBusy => 0x27
  | .cardBlocked => 0x30
  | .cardLimit => 0x31
  | .electricNotAllowed => 0x32
  | .funds => 0x33
  | .offline => 0x34
  | .authBusy => 0x35
  | .cardInUse => 0x36
  | .authTimeout => 0x37
  | .registerFull => 0x40
  | .journalHeld => 0x41
  | .hireNotOut => 0x42
  | .bikeDocked => 0x43
  | .notFound => 0x44
  | .batchOpen => 0x50
  | .noBatch => 0x51
  | .batchInFlight => 0x52
  | .notRecorded => 0x53

/-- The position of a dock state in the order of R2 (R170). -/
def DockState.code : DockState → Nat
  | .vacant => 0
  | .reserved => 1
  | .latching => 2
  | .held => 3
  | .claimed => 4
  | .releasing => 5
  | .ejecting => 6
  | .retired => 7
  | .unverified => 8

/-- The position of a hire state in the order of R83 (R170). -/
def HireState.code : HireState → Nat
  | .starting => 0
  | .out => 1
  | .overdue => 2

/-- The position of a verdict in the order of R17 (R170). -/
def Verdict.code : Verdict → Nat
  | .hireable => 0
  | .vanHold => 1
  | .notPermitted => 2
  | .lowCharge => 3
  | .notReady => 4

/-- The code of a class (R10). -/
def DockClass.code : DockClass → Nat
  | .standard => 0
  | .charging => 1
  | .vanOnly => 2
  | .closed => 3

/-- The code of a bike kind (R40, R100; its position in the list of R3). -/
def BikeKind.code : BikeKind → Nat
  | .standard => 0
  | .electric => 1

/-- The code of a standing (R64). -/
def Standing.code : Standing → Nat
  | .good => 0
  | .blocked => 1

/-- The position of an origin in the list of R83 (R170). -/
def Origin.code : Origin → Nat
  | .home => 0
  | .restored => 1

/-- The code of a batch kind (R104, R157). -/
def BatchKind.code : BatchKind → Nat
  | .collect => 0
  | .deliver => 1

/-- The code of a batch outcome (R157, R178). -/
def BatchOutcome.code : BatchOutcome → Nat
  | .closed => 0
  | .timedOut => 1
  | .reset => 2

/-- The position of a station state in the list of R185 (R170). -/
def StationState.code : StationState → Nat
  | .starting => 0
  | .ready => 1

/-! ## The journal record -/

/-- Bytes filled up with zeros to `size` (R157, R178). -/
def padTo (size : Nat) (bytes : List Byte) : List Byte := bytes ++ List.replicate (size - bytes.length) 0#8

/-- The kind code of a record (R156). -/
def Entry.code : Entry → Nat
  | .hireStart .. => 0x01
  | .hireClose .. => 0x02
  | .hireOverdue .. => 0x03
  | .returnForeign .. => 0x04
  | .returnUnidentified .. => 0x05
  | .bikeMissing .. => 0x06
  | .auditMismatch .. => 0x07
  | .dockFault .. => 0x08
  | .bikeFault .. => 0x09
  | .dockRetired .. => 0x0A
  | .bikeQuarantined .. => 0x0B
  | .cardBlocked .. => 0x0C
  | .bikeCollected .. => 0x0D
  | .bikeDelivered .. => 0x0E
  | .batchClosed .. => 0x0F
  | .overrun .. => 0x10

/-- The marker and the two place bytes of HIRE_CLOSE (R158). -/
def Place.marker : Place → Nat
  | .dock _ => 0
  | .remote _ => 1

/-- The number in the two place bytes of HIRE_CLOSE (R158). -/
def Place.number : Place → Nat
  | .dock d => d
  | .remote st => st

/-- The settlement word of HIRE_CLOSE: marker, charge, balance after and duration in 1, 20, 21 and 14 bits (R158). -/
def settlementWord (place : Place) (charge : Nat) (balance : Int) (duration : Nat) : Nat :=
  place.marker * 2 ^ 55 + charge * 2 ^ 35 + twos 21 balance * 2 ^ 14 + min duration 16383

/-- The field area of a record, bytes 11 on, without the zeros that fill it up (R157). -/
def Entry.area : Entry → List Byte
  | .hireStart h c b d => beBytes 2 h ++ beBytes 7 c ++ beBytes 3 b ++ beBytes 1 d
  | .hireClose h c b place dur f bal =>
    beBytes 2 h ++ beBytes 7 c ++ beBytes 3 b ++ beBytes 2 place.number ++ beBytes 7 (settlementWord place f bal dur)
  | .hireOverdue h c b => beBytes 2 h ++ beBytes 7 c ++ beBytes 3 b
  | .returnForeign b d => beBytes 3 b ++ beBytes 1 d
  | .returnUnidentified d => beBytes 1 d
  | .bikeMissing b d => beBytes 3 b ++ beBytes 1 d
  | .auditMismatch d expected found => beBytes 1 d ++ beBytes 3 (expected.getD 0) ++ beBytes 3 (found.getD 0)
  | .dockFault d c n => beBytes 1 d ++ beBytes 1 c.code ++ beBytes 1 n
  | .bikeFault b c n => beBytes 3 b ++ beBytes 1 c.code ++ beBytes 1 n
  | .dockRetired d stranded => beBytes 1 d ++ beBytes 1 stranded.isSome.toNat ++ beBytes 3 (stranded.getD 0)
  | .bikeQuarantined b => beBytes 3 b
  | .cardBlocked c bal => beBytes 7 c ++ beBytes 3 (twos 24 bal)
  | .bikeCollected b d crew => beBytes 3 b ++ beBytes 1 d ++ beBytes 2 crew
  | .bikeDelivered b d crew => beBytes 3 b ++ beBytes 1 d ++ beBytes 2 crew
  | .batchClosed crew kind outcome done pend =>
    beBytes 2 crew ++ beBytes 1 kind.code ++ beBytes 1 outcome.code ++ beBytes 1 done ++ beBytes 1 pend
  | .overrun lost => beBytes 2 lost

/-- The 32 bytes of a journal record (R157). -/
def Record.bytes (r : Record) : List Byte :=
  padTo 32 (beBytes 4 r.seq ++ beBytes 2 r.station ++ beBytes 4 r.minute ++ beBytes 1 r.entry.code ++ r.entry.area)

/-! ## The notice parameter -/

/-- The values of a notice's parameter in their widths (R178). -/
def Notice.values : Notice → List Byte
  | .authDone tag r => beBytes 1 tag ++ beBytes 1 r.code
  | .hireDockOpen d h => beBytes 1 d ++ beBytes 2 h
  | .releaseLapsed d h => beBytes 1 d ++ beBytes 2 h
  | .bikeTaken d h => beBytes 1 d ++ beBytes 2 h
  | .returnRefused d => beBytes 1 d
  | .returnDone d h f => beBytes 1 d ++ beBytes 2 h ++ beBytes 3 f
  | .authNeeded n => beBytes 1 n
  | .journalHigh n => beBytes 2 n
  | .hireOverdue h => beBytes 2 h
  | .journalData n => beBytes 2 n
  | .startDone => []
  | .uplinkAuditDone n => beBytes 1 n
  | .batchEnded o => beBytes 1 o.code
  | .batchDockOpen d => beBytes 1 d
  | .batchProgress n => beBytes 1 n
  | .dockRetired d => beBytes 1 d
  | .bikeQuarantined b => beBytes 3 b
  | .serviceAuditDone n => beBytes 1 n
  | .patrolDone n => beBytes 2 n

/-- The 8-byte parameter area of a notice (R178). -/
def Notice.parameter (n : Notice) : List Byte := padTo 8 n.values

/-! ## Replies -/

/-- A value of one byte (R170). -/
def byteField (v : Nat) : ReplyField := .num 1 v
/-- A yes or no (R170). -/
def yesField (b : Bool) : ReplyField := .num 1 b.toNat
/-- An amount of money, signed (R170). -/
def moneyField (v : Int) : ReplyField := .num 4 (twos 32 v)
/-- A station minute, duration, sequence number or setting value (R170). -/
def longField (v : Nat) : ReplyField := .num 4 v
/-- A hire number, crew number, depth, count or other value of two bytes (R170). -/
def wordField (v : Nat) : ReplyField := .num 2 v
/-- A bike id (R170). -/
def bikeField (v : Nat) : ReplyField := .num 3 v
/-- A card id (R170). -/
def cardField (v : Nat) : ReplyField := .num 7 v
/-- A value that may be absent: a presence byte and the value, 0 when absent (R170). -/
def optionField (width : Nat) (v : Option Nat) : List ReplyField := [yesField v.isSome, .num width (v.getD 0)]

/-- The value of a release owner in a reply: a hire number as it is, and for the batch a free value (R17, R170;
assumption log 8). -/
def Owner.code : Owner → Nat
  | .hire h => h
  | .batch => Config.batchOwner.toNat

/-- The bytes of one reply field (R170). -/
def ReplyField.bytes : ReplyField → List Byte
  | .num width v => beBytes width v
  | .area bytes => bytes

/-- The bytes of a reply frame (R165). -/
def Reply.bytes (r : Reply) : List Byte :=
  let fields := r.fields.flatMap ReplyField.bytes
  let body := BitVec.ofNat 8 (fields.length + 3) :: r.code :: r.tag :: BitVec.ofNat 8 r.result.code :: fields
  portStart :: (body ++ beBytes 2 (crc16 body).toNat)

/-- The code of a reply: the request code + 0x80, and 0xFF in answer to a code of 0x80 or above (R165, R169). -/
def replyCode (code : Byte) : Byte := if code.toNat < 0x80 then code + 0x80#8 else 0xFF#8

/-! ## Command frames -/

/-- The kind code of a dock command (R20). -/
def CmdKind.code : CmdKind → Byte
  | .unlatch => 0x01#8
  | .lock => 0x02#8
  | .reject => 0x03#8
  | .status => 0x04#8
  | .senseStart => 0x05#8

/-- The bytes of the command frame on the bus (R20). -/
def OnBus.bytes : OnBus → List Byte
  | .poll => dockFrame [0xFF#8, 0x06#8]
  | .command c => dockFrame [BitVec.ofNat 8 c.dock, c.kind.code]

end Sys2Proof.Machine
end

