-- ==== Sys2Proof/Machine/NoticeRequests.lean ====
section
/-! DEFINITION. The notice requests, which act on the controller of the port that carries them: TAKE_NOTICE and
PEEK_NOTICE (R175), END_NOTICE (R176), SET_NOTICE_MASK (R177). -/

namespace Sys2Proof.Machine

/-- What a request answers with: the state after it, the result and the fields of the reply (R168). -/
abbrev Answer := State × Result × List ReplyField

/-- A refusal that carries no fields and changes nothing (R170). -/
def refuse (r : Result) (s : State) : Answer := (s, r, [])

/-- The pending notices at or below the mask level (R175). -/
def PortState.within (x : PortState) : List Notice := x.pending.filter fun n => n.kind.priority ≤ x.mask

/-- The notice that TAKE_NOTICE and PEEK_NOTICE choose: the numerically lowest priority within the mask, and among
equals the one that entered the pending list first (R175). -/
def PortState.chosen (x : PortState) : Option Notice :=
  bestBy (fun a b => a.kind.priority < b.kind.priority) x.within

/-- The reply fields of a notice: its code, its parameter and the number of kinds still pending within the mask; NONE
when there is none (R175). -/
def noticeFields (n : Option Notice) (left : Nat) : List ReplyField :=
  match n with
  | some n => [byteField n.kind.code, .area n.parameter, byteField left]
  | none => [byteField 0, .area (padTo 8 []), byteField 0]

/-- A notice moved from the pending to the in-service list, where a kind keeps its place (R175). -/
def PortState.take (n : Notice) (x : PortState) : PortState :=
  { x with pending := x.pending.filter fun m => m.kind != n.kind,
           inService := if x.inService.contains n.kind then x.inService else x.inService ++ [n.kind] }

/-- TAKE_NOTICE (R175). -/
def takeNotice (_fields : List Byte) (p : Port) (s : State) : Answer :=
  match (s.port p).chosen with
  | none => (s, .ok, noticeFields none 0)
  | some n =>
    let x := (s.port p).take n
    (setPort p x s, .ok, noticeFields (some n) x.within.length)

/-- PEEK_NOTICE (R175). -/
def peekNotice (_fields : List Byte) (p : Port) (s : State) : Answer :=
  (s, .ok, noticeFields (s.port p).chosen (s.port p).within.length)

/-- Every notice kind (R178). -/
def NoticeKind.every : List NoticeKind :=
  [.authDone, .hireDockOpen, .releaseLapsed, .bikeTaken, .returnRefused, .returnDone, .authNeeded, .journalHigh,
   .hireOverdue, .journalData, .startDone, .uplinkAuditDone, .batchEnded, .batchDockOpen, .batchProgress, .dockRetired,
   .bikeQuarantined, .serviceAuditDone, .patrolDone]

/-- The kind of a port with a code (R178). -/
def kindOfCode (p : Port) (code : Nat) : Option NoticeKind :=
  NoticeKind.every.find? fun k => k.port == p && k.code == code

/-- The kind that ANY ends: the numerically lowest priority in service, among equals the one taken most recently
(R176). -/
def PortState.innermost (x : PortState) : Option NoticeKind :=
  bestBy (fun a b => a.priority < b.priority) x.inService.reverse

/-- A kind ended (R176). -/
def endKind (k : NoticeKind) (p : Port) (s : State) : Answer :=
  (modPort p (fun x => { x with inService := x.inService.erase k }) s, .ok, [byteField k.code])

/-- END_NOTICE (R176). -/
def endNotice (fields : List Byte) (p : Port) (s : State) : Answer :=
  let code := numAt fields 0 1
  if code = 0xFF then
    match (s.port p).innermost with
    | some k => endKind k p s
    | none => refuse .notFound s
  else
    match kindOfCode p code with
    | none => refuse .refusedRange s
    | some k => if (s.port p).inService.contains k then endKind k p s else refuse .notFound s

/-- SET_NOTICE_MASK (R177). -/
def setNoticeMask (fields : List Byte) (p : Port) (s : State) : Answer :=
  let level := numAt fields 0 1
  if 7 < level then refuse .refusedRange s
  else (modPort p (fun x => { x with mask := level }) s, .ok, [byteField (s.port p).mask])

end Sys2Proof.Machine
end

