-- ==== Sys2Proof/Machine/DockRequests.lean ====
section
/-! DEFINITION. The requests on the Dock Table: DOCK_READ (R17), DOCK_LIST (R18) and ATTR_SET (R13). -/

namespace Sys2Proof.Machine

/-- The three reply fields of attributes (R17). -/
def attributeFields (a : Attributes) : List ReplyField :=
  [yesField a.releasePermitted, yesField a.returnPermitted, byteField a.cls.code]

/-- The charge level of a bike record, if there is one (R3). -/
def Dock.level (k : Dock) : Option Nat := k.bike.bind fun b => b.charge.map Charge.level

/-- The reply fields of DOCK_READ (R17). -/
def dockFields (d : Nat) (s : State) : List ReplyField :=
  let k := s.dock d
  [byteField d, byteField k.state.code, yesField k.bike.isSome, bikeField ((k.bike.bind Bike.id).getD 0),
   byteField ((k.bike.map Bike.kind).getD .standard).code, longField ((k.bike.map Bike.dockedSince).getD 0)] ++
  optionField 1 k.level ++
  [yesField (k.bike.any fun b => b.sense.isSome), yesField (quarantined k s)] ++
  optionField 2 (k.owner.map Owner.code) ++
  [yesField k.reserved, yesField k.vanHold, yesField k.retirePending, yesField k.owed.isSome, byteField k.faultCount,
   byteField k.identRetries] ++
  attributeFields (s.group (d / 4)) ++ attributeFields (effective d s) ++ [byteField (verdict d s).code]

/-- DOCK_READ (R17). -/
def dockRead (fields : List Byte) (_p : Port) (s : State) : Answer :=
  let d := numAt fields 0 1
  if s.installed ≤ d then refuse .noDock s else (s, .ok, dockFields d s)

/-- The bike kind at a dock is `kind`. -/
def kindAt (d : Nat) (kind : BikeKind) (s : State) : Bool := (s.dock d).bike.any fun b => b.kind == kind

/-- The number of installed docks that meet a test (R18). -/
def countDocks (test : Nat → Bool) (s : State) : Nat := s.installedDocks.countP test

/-- DOCK_LIST (R18). -/
def dockList (_fields : List Byte) (_p : Port) (s : State) : Answer :=
  (s, .ok,
    [byteField (countDocks (fun d => verdict d s == .hireable && kindAt d .standard s) s),
     byteField (countDocks (fun d => verdict d s == .hireable && kindAt d .electric s) s),
     byteField (countDocks (fun d => (s.dock d).state == .vacant && returnAllowed d s) s),
     byteField (countDocks (fun d => (s.dock d).state == .retired) s)])

/-- An installed dock of the group is in an in-flight state (R13, check 5). -/
def groupBusy (g : Nat) (s : State) : Bool := s.installedDocks.any fun d => d / 4 == g && inFlightState (s.dock d).state

/-- ATTR_SET, checks 2 to 6 (R13). -/
def attrSet (fields : List Byte) (_p : Port) (s : State) : Answer :=
  let g := numAt fields 0 1
  let release := numAt fields 1 1
  let ret := numAt fields 2 1
  let cls := numAt fields 3 1
  if 15 < g then refuse .refusedRange s
  else if 4 ≤ cls then refuse .refusedRange s
  else if 1 < release ∨ 1 < ret then refuse .refusedRange s
  else if groupBusy g s then refuse .groupBusy s
  else
    let a : Attributes :=
      { releasePermitted := fieldBool release, returnPermitted := fieldBool ret, cls := fieldClass cls }
    ({ s with attrs := s.attrs.setIfInBounds g a }, .ok, [])

end Sys2Proof.Machine
end

