-- ==== Sys2Proof/Machine/Hires.lean ====
section
/-! DEFINITION. The Hire Register: hire numbers (R87), entering a record (R88), cancelling (R89), the charge (R92), the
close (R94) and the overdue check (R96). -/

namespace Sys2Proof.Machine

/-- The hire record of a number (R83). -/
def findHire (h : Nat) (s : State) : Option Hire := s.hires.find? (fun r => r.number == h)

/-- The OUT or OVERDUE record of a bike, the question of R85. -/
def openHireOf (b : Nat) (s : State) : Option Hire :=
  s.hires.find? fun r => r.bike == b && r.state != .starting

/-- The STARTING record that names dock `d` as the dock released from (R84, R148). -/
def startingHireAt (d : Nat) (s : State) : Option Hire :=
  s.hires.find? fun r => r.state == .starting && r.dockFrom == some d

/-- `s` with the record of a hire number changed by `f`. -/
def modHire (h : Nat) (f : Hire → Hire) (s : State) : State :=
  { s with hires := s.hires.map fun r => if r.number == h then f r else r }

/-- `s` without the record of a hire number. -/
def dropHire (h : Nat) (s : State) : State := { s with hires := s.hires.filter fun r => r.number != h }

/-- The number after `n`, wrapping from `top` to 1 (R76, R87). -/
def nextNumber (top n : Nat) : Nat := if top ≤ n then 1 else n + 1

/-- The first number after `last`, counting upward with the wrap, that `used` does not hold; `tries` bounds the count
(R76, R87). -/
def firstFree (top : Nat) (used : List Nat) : Nat → Nat → Nat
  | 0, last => nextNumber top last
  | tries + 1, last =>
    let n := nextNumber top last
    if used.contains n then firstFree top used tries n else n

/-- The hire number that an allocation takes (R87). -/
def freeHireNumber (s : State) : Nat :=
  firstFree 65535 (s.hires.map Hire.number) s.hires.length s.lastHire

/-- The frozen terms of a hire accepted under a policy (R88). -/
def frozenTerms (p : Policy) (t : Tariff) : Terms where
  a := t.a
  b := t.b
  p := t.p
  q := t.q
  c := t.c
  discount := p.discount
  maxDuration := p.maxDuration

/-- The record of an accepted hire (R88). -/
def acceptedHire (number : Nat) (c : Card) (bikeId : Nat) (kind : BikeKind) (d : Nat) (s : State) : Hire :=
  let p := s.policy c.policyIndex
  { number := number, state := .starting, card := c.id, policyIndex := c.policyIndex, bike := bikeId, kind := kind,
    dockFrom := some d, start := none, holdAmount := p.holdAmount, origin := .home,
    terms := frozenTerms p (s.tariff p.tariff) }

/-- Cancel a STARTING hire: its hold is released and its record removed (R89, R73). -/
def cancelHire (r : Hire) (s : State) : State := dropHire r.number (releaseHold r.card r.holdAmount s)

/-- A STARTING hire becomes OUT with start minute now (R48, R148). -/
def hireOut (h : Nat) (s : State) : State :=
  modHire h (fun r => { r with state := .out, start := some s.now }) s

/-! ## The charge -/

/-- The units of step 3 of R92: intervals of B minutes begun after the free period. -/
def chargeUnits (t : Terms) (duration : Nat) : Nat :=
  if duration ≤ t.a then 0 else (duration - t.a + t.b - 1) / t.b

/-- The started 24-hour periods of step 5 of R92, at least 1. -/
def chargePeriods (duration : Nat) : Nat := max 1 ((duration + 1439) / 1440)

/-- The capped charge of step 5 of R92. -/
def cappedCharge (t : Terms) (kind : BikeKind) (duration : Nat) : Nat :=
  let unit := match kind with
    | .electric => t.p + t.q
    | .standard => t.p
  let raw := chargeUnits t duration * unit
  if 0 < t.c then min raw (t.c * chargePeriods duration) else raw

/-- The charge of a duration under frozen terms: discount and saturation, steps 6 and 7 of R92. -/
def charge (t : Terms) (kind : BikeKind) (duration : Nat) : Nat :=
  min (cappedCharge t kind duration * (100 - t.discount) / 100) Config.chargeTop

/-- The duration of step 1 of R92: 0 when the end lies before the start. -/
def hireDuration (r : Hire) (endMinute : Nat) : Nat := endMinute - r.start.getD endMinute

/-- The charge of a hire at an end minute (R92). -/
def hireCharge (r : Hire) (endMinute : Nat) : Nat := charge r.terms r.kind (hireDuration r endMinute)

/-! ## Closing -/

/-- Close an OUT or OVERDUE hire with an end minute at a place (R94). -/
def closeHire (r : Hire) (endMinute : Nat) (place : Place) (s : State) : State :=
  let f := hireCharge r endMinute
  let s1 := dropHire r.number (settle r.card r.holdAmount f s)
  blockIfNegative r.card
    (enterRecord (.hireClose r.number r.card r.bike place (hireDuration r endMinute) f (balanceOf r.card s1)) s1)

/-- Close the OUT or OVERDUE hire of a bike found in dock `d`, with end minute now (R93). The answer names the hire
and its charge, none when the bike has no such hire. -/
def closeBikeHire (b d : Nat) (s : State) : State × Option (Nat × Nat) :=
  match openHireOf b s with
  | some r => (closeHire r s.now (.dock d) s, some (r.number, hireCharge r s.now))
  | none => (s, none)

/-! ## The overdue check -/

/-- The record is OUT and has reached its max duration (R96). -/
def overdueNow (s : State) (r : Hire) : Bool :=
  r.state == .out && r.terms.maxDuration ≤ s.now - r.start.getD s.now

/-- The order of the check: increasing start minute, then increasing hire number (R96). -/
def overdueBefore (a b : Hire) : Bool :=
  a.start.getD 0 < b.start.getD 0 || (a.start.getD 0 == b.start.getD 0 && a.number ≤ b.number)

/-- Insertion into a list kept in an order. -/
def insertBy {α : Type} (before : α → α → Bool) (x : α) : List α → List α
  | [] => [x]
  | y :: rest => if before x y then x :: y :: rest else y :: insertBy before x rest

/-- A list put in an order. -/
def sortBy {α : Type} (before : α → α → Bool) : List α → List α
  | [] => []
  | x :: rest => insertBy before x (sortBy before rest)

/-- One record becomes OVERDUE, with its journal record and notice (R96). -/
def makeOverdue (r : Hire) (s : State) : State :=
  raise (.hireOverdue r.number)
    (enterRecord (.hireOverdue r.number r.card r.bike) (modHire r.number (fun x => { x with state := .overdue }) s))

/-- The overdue check at the current minute (R96). -/
def overdueCheck (s : State) : State :=
  (sortBy overdueBefore (s.hires.filter (overdueNow s))).foldl (fun t r => makeOverdue r t) s

end Sys2Proof.Machine
end

