-- ==== Sys2Proof/Machine/Batch.lean ====
section
/-! DEFINITION. The Batch Unit apart from its requests: the counts of R102, reservations and their top-up and move
(R105, R106, R111), van holds (R107, R108), matching and delivery (R109, R110), the end of a batch (R116 to R119). -/

namespace Sys2Proof.Machine

/-- `s` with the open batch changed by `f`. -/
def modBatch (f : Batch → Batch) (s : State) : State := { s with batch := s.batch.map f }

/-- The pending count: PENDING entries, or for a batch with a target the target less the done count (R102). -/
def Batch.pendingCount (b : Batch) : Nat :=
  if 0 < b.target then b.target - b.done else b.manifest.countP fun m => !m.done

/-- The installed docks that are RESERVED (R102); a dock whose reservation is being moved is one no longer (R111). -/
def reservedDocks (s : State) : List Nat :=
  s.installedDocks.filter fun d => (s.dock d).state == .reserved && (s.dock d).reserved

/-- The installed docks with a van hold (R102). -/
def vanHoldDocks (s : State) : List Nat := s.installedDocks.filter fun d => (s.dock d).vanHold

/-- The batch releases in flight (R102). -/
def batchReleases (s : State) : List Nat :=
  s.installedDocks.filter fun d => (s.dock d).state == .releasing && (s.dock d).owner == some .batch

/-- The idle timer is restarted, which also ends a wait (R117). -/
def restartIdle (s : State) : State :=
  { modBatch (fun b => { b with idle := 60 * s.settings.batchIdle, expiryWaiting := false }) s with
    due := { s.due with idle := false } }

/-! ## Reservations -/

/-- A VACANT dock that may be reserved (R105). -/
def eligible (d : Nat) (s : State) : Bool :=
  (s.dock d).state == .vacant &&
    ((effective d s).cls == .vanOnly || (riderClass (effective d s).cls && (effective d s).returnPermitted))

/-- The eligible docks in reservation order: VAN_ONLY first, each group in increasing number (R105). -/
def reservationOrder (s : State) : List Nat :=
  let e := s.installedDocks.filter fun d => eligible d s
  (e.filter fun d => (effective d s).cls == .vanOnly) ++ (e.filter fun d => (effective d s).cls != .vanOnly)

/-- The dock becomes RESERVED (R105). -/
def reserve (d : Nat) (s : State) : State := modDock d (fun k => { k with state := .reserved, reserved := true }) s

/-- Reserve eligible docks in order until the reserved count equals the pending count or none is left, under an open
DELIVER batch (R105, R106). -/
def topUp (s : State) : State :=
  match s.batch with
  | some b =>
    if b.kind = .deliver then
      ((reservationOrder s).take (b.pendingCount - (reservedDocks s).length)).foldl (fun t d => reserve d t) s
    else s
  | none => s

/-- Dock `d` loses its reservation without a delivery: it passes to the lowest-numbered other eligible dock, or is
dropped (R111). The dock's next state is its own rule's. -/
def moveReservation (d : Nat) (s : State) : State :=
  let s1 := modDock d (fun k => { k with reserved := false }) s
  match s1.installedDocks.find? (fun e => e != d && eligible e s1) with
  | some e => reserve e s1
  | none => s1

/-- A RESERVED dock whose reservation is given back becomes VACANT; this starts no top-up (R106, R110, R116). -/
def giveBack (d : Nat) (s : State) : State := modDock d (fun k => { k with state := .vacant, reserved := false }) s

/-! ## Van holds -/

/-- A van hold for a dock that has entered HELD, or whose bike id was replaced while HELD: under a COLLECT batch, when
its bike is a PENDING manifest bike and the dock is not CLOSED (R107). -/
def holdIfWanted (d : Nat) (s : State) : State :=
  match s.batch, (s.dock d).bike with
  | some b, some k =>
    if b.kind = .collect ∧ (s.dock d).state = .held ∧ (effective d s).cls ≠ .closed ∧
        b.manifest.any (fun m => !m.done && some m.bike == k.id) then
      modDock d (fun x => { x with vanHold := true }) s
    else s
  | _, _ => s

/-! ## Deliveries -/

/-- The arrival of tag T at dock `d` is a delivery (R109). -/
def isDelivery (d T : Nat) (s : State) : Bool :=
  match s.batch with
  | some b =>
    b.kind == .deliver && T != 0 && b.manifest.any (fun m => !m.done && m.bike == T) &&
      ((s.dock d).state == .reserved ||
        (((s.dock d).state == .vacant || (s.dock d).state == .ejecting || (s.dock d).state == .latching) &&
          (effective d s).cls != .closed))
  | none => false

/-- Mark the PENDING entry of a bike DONE and count it, the done count saturating at 255 (R102, R110, R113). -/
def Batch.markDone (T : Nat) (b : Batch) : Batch :=
  { b with manifest := b.manifest.map (fun m => if m.bike == T then { m with done := true } else m),
           done := min (b.done + 1) 255 }

/-- Count a bike that is on no manifest (R113). -/
def Batch.countDone (b : Batch) : Batch := { b with done := min (b.done + 1) 255 }

/-- The done count of the open batch. -/
def doneCount (s : State) : Nat :=
  match s.batch with
  | some b => b.done
  | none => 0

/-- The crew number of the open batch. -/
def crewOf (s : State) : Nat :=
  match s.batch with
  | some b => b.crew
  | none => 0

/-- The highest-numbered RESERVED dock is given back if the reserved count exceeds the pending count (R110, step 6). -/
def giveBackSurplus (s : State) : State :=
  match s.batch with
  | some b =>
    if b.pendingCount < (reservedDocks s).length then
      match (reservedDocks s).getLast? with
      | some d => giveBack d s
      | none => s
    else s
  | none => s

/-- The Batch Unit's part of a delivery, steps 2 to 6 of R110; the dock's reserved flag has been cleared (R56 step 2). -/
def deliver (d T : Nat) (s : State) : State :=
  let s1 := modBatch (Batch.markDone T) s
  let s2 := enterRecord (.bikeDelivered T d (crewOf s1)) s1
  giveBackSurplus (restartIdle (raise (.batchProgress (doneCount s2)) s2))

/-! ## The end of a batch -/

/-- End the open batch, steps 1 to 5 of R116. -/
def endBatch (outcome : BatchOutcome) (s : State) : State :=
  match s.batch with
  | none => s
  | some b =>
    let s1 := (reservedDocks s).foldl (fun t d => giveBack d t) s
    let s2 := s1.installedDocks.foldl (fun t d => modDock d (fun k => { k with vanHold := false }) t) s1
    let s3 := enterRecord (.batchClosed b.crew b.kind outcome b.done b.pendingCount) s2
    { raise (.batchEnded outcome) s3 with batch := none, due := { s3.due with idle := false } }

/-- A batch release has ended: with expiry waiting and no other in flight, the batch ends TIMED_OUT (R118). -/
def batchReleaseEnded (s : State) : State :=
  match s.batch with
  | some b => if b.expiryWaiting ∧ batchReleases s = [] then endBatch .timedOut s else s
  | none => s

end Sys2Proof.Machine
end

