-- ==== Sys2Proof/Machine/Bus.lean ====
section
/-! DEFINITION. The Dock Bus Controller without the handing over of outcomes: what a dock has in hand (R34), the choice
of the next command (R28), owed commands (R32), withdrawal (R33), the placements of R25, R29, R30 and R31 as changes of
the queue, and the response timer (R35). -/

namespace Sys2Proof.Machine

/-- `s` with the Dock Bus Controller changed by `f`. -/
def modBus (f : Bus → Bus) (s : State) : State := { s with bus := f s.bus }

/-- The queued command of dock `d` (R27). -/
def queuedAt (d : Nat) (s : State) : Option Cmd := s.bus.queue.find? (fun c => c.dock == d)

/-- The command in flight for dock `d` (R27). -/
def inFlightAt (d : Nat) (s : State) : Option Cmd :=
  match s.bus.inFlight with
  | some f => match f.what with
    | .command c => if c.dock = d then some c else none
    | .poll => none
  | none => none

/-- Dock `d` has nothing queued, in flight or owed (R34). -/
def nothingInHand (d : Nat) (s : State) : Bool :=
  (queuedAt d s).isNone && (inFlightAt d s).isNone && (s.dock d).owed.isNone

/-- Every place of the Dock Command Queue is full (R27). -/
def queueFull (s : State) : Bool := Config.queuePlaces ≤ s.bus.queue.length

/-! ## Owed commands and the choice of the next command -/

/-- Queue the owed command of dock `d` if a place is empty and the dock has none queued or in flight (R32). -/
def placeOwedAt (d : Nat) (s : State) : State :=
  match (s.dock d).owed with
  | none => s
  | some o =>
    if queueFull s || (queuedAt d s).isSome || (inFlightAt d s).isSome then s
    else
      modBus (fun b => { b with queue := b.queue ++ [{ kind := o.kind, dock := d, owner := o.owner, live := o.live }] })
        (modDock d (fun k => { k with owed := none }) s)

/-- The placements of R32, in increasing dock number. -/
def placeOwed (s : State) : State := s.installedDocks.foldl (fun t d => placeOwedAt d t) s

/-- The class of a dock-addressed command (R28). -/
def CmdKind.class : CmdKind → Nat
  | .lock | .reject => 1
  | .unlatch => 2
  | .status | .senseStart => 4

/-- The oldest queued command of a class (R28). -/
def oldestOf (n : Nat) (s : State) : Option Cmd := s.bus.queue.find? (fun c => c.kind.class == n)

/-- What the controller takes next: the oldest command of the lowest-numbered class that has one (R28). -/
def nextOnBus (s : State) : Option OnBus :=
  match oldestOf 1 s with
  | some c => some (.command c)
  | none => match oldestOf 2 s with
    | some c => some (.command c)
    | none =>
      if s.bus.pollSlot then some .poll
      else match oldestOf 4 s with
        | some c => some (.command c)
        | none => none

/-- Take the next command onto the bus: a dock-addressed command's place empties and R32 runs for it; the EVENT_POLL's
slot is emptied (R28, R25). The response timer waits for the last byte (R35). -/
def takeNext (s : State) : State :=
  match nextOnBus s with
  | none => s
  | some .poll => modBus (fun b => { b with pollSlot := false, inFlight := some { what := .poll, ticks := none } }) s
  | some (.command c) =>
    placeOwed (modBus (fun b => { b with queue := b.queue.erase c,
                                         inFlight := some { what := .command c, ticks := none } }) s)

/-- At a placement: a command placed while the bus is idle is taken at once (R28). Not while an outcome is being handed
over, when R36 and R37 take the next command last, and not while the RESET pin is low (R187). -/
def kick (s : State) : State :=
  if s.bus.inFlight.isNone && !s.bus.handing && !s.pinLow then takeNext s else s

/-! ## Placements as changes of the queue -/

/-- Place an EVENT_POLL if the slot is empty, the holdoff mark clear and the wire low (R25); no event poll while the
RESET pin is low (R187). -/
def pollIfLow (s : State) : State :=
  if !s.bus.pollSlot && !s.bus.holdoff && s.bus.attentionLow && !s.pinLow then
    kick (modBus (fun b => { b with pollSlot := true }) s)
  else s

/-- Place a STATUS or SENSE_START (R31). The answer is whether it was placed. -/
def placeQuiet (kind : CmdKind) (owner : PlacingUnit) (d : Nat) (s : State) : State × Bool :=
  if nothingInHand d s && !queueFull s then
    (kick (modBus (fun b => { b with queue := b.queue ++ [{ kind := kind, dock := d, owner := owner, live := true }] }) s),
     true)
  else (s, false)

/-- Set the lock-due flag of dock `d` with the owed kind and owner (R29). -/
def owe (o : Owed) (d : Nat) (s : State) : State := modDock d (fun k => { k with owed := some o }) s

/-- The change that the placement of a LOCK or REJECT makes (R29), with the command it drops, if any. -/
def lockChange (o : Owed) (d : Nat) (s : State) : State × Option Cmd :=
  let c : Cmd := { kind := o.kind, dock := d, owner := o.owner, live := o.live }
  match (s.dock d).owed with
  | some old => (owe o d s, some { kind := old.kind, dock := d, owner := old.owner, live := old.live })
  | none =>
    match inFlightAt d s with
    | some _ => (owe o d s, none)
    | none =>
      match queuedAt d s with
      | some q =>
        if q.kind.class = 1 then
          (modBus (fun b => { b with queue := b.queue.map fun x => if x.dock == d then c else x }) s, some q)
        else (modBus (fun b => { b with queue := b.queue.erase q ++ [c] }) s, some q)
      | none =>
        if queueFull s then (owe o d s, none)
        else (modBus (fun b => { b with queue := b.queue ++ [c] }) s, none)

/-- The change that the placement of an UNLATCH makes, with the command it drops, or none when it is refused (R30). -/
def unlatchChange (d : Nat) (s : State) : Option (State × Option Cmd) :=
  let c : Cmd := { kind := .unlatch, dock := d, owner := .release, live := true }
  if (s.dock d).owed.isSome || (inFlightAt d s).isSome then none
  else
    match queuedAt d s with
    | some q =>
      if q.kind.class = 4 then some (modBus (fun b => { b with queue := b.queue.erase q ++ [c] }) s, some q) else none
    | none =>
      if queueFull s then none else some (modBus (fun b => { b with queue := b.queue ++ [c] }) s, none)

/-! ## Withdrawal and the end of an operation -/

/-- A command that the Release and Return Unit placed at dock `d` for the operation in progress there. -/
def ownLive (d : Nat) (c : Cmd) : Bool := c.dock == d && c.owner == .release && c.live

/-- The Release and Return Unit withdraws what it has queued or owed for its operation at dock `d`; a place that
empties starts R32 (R33). -/
def withdraw (d : Nat) (s : State) : State :=
  let s1 := modDock d (fun k => match k.owed with
    | some o => if o.owner = .release ∧ o.live then { k with owed := none } else k
    | none => k) s
  if s1.bus.queue.any (ownLive d) then
    placeOwed (modBus (fun b => { b with queue := b.queue.filter fun c => !ownLive d c }) s1)
  else s1

/-- The operation at dock `d` has ended: a command it placed that is still queued, owed or in flight runs on, and its
outcome is no longer that of an operation in progress (R48, R49, R51, R57, R60; assumption log 6). -/
def Cmd.orphanAt (d : Nat) (c : Cmd) : Cmd := if c.dock = d ∧ c.owner = .release then { c with live := false } else c

/-- The same for what is on the bus. -/
def OnBus.orphanAt (d : Nat) : OnBus → OnBus
  | .poll => .poll
  | .command c => .command (c.orphanAt d)

/-- Mark every command of the Release and Return Unit at dock `d` as one of an operation that has ended. -/
def orphan (d : Nat) (s : State) : State :=
  modBus (fun b => { b with queue := b.queue.map (Cmd.orphanAt d),
                            inFlight := b.inFlight.map fun f => { f with what := f.what.orphanAt d } })
    (modDock d (fun k => { k with owed := k.owed.map fun o => if o.owner = .release then { o with live := false } else o }) s)

/-- End the operation at dock `d`: withdraw, then mark what runs on (R48, R50, R57, R60). -/
def endOperation (d : Nat) (s : State) : State := orphan d (withdraw d s)

/-! ## Exchanges -/

/-- The response timer has expired: t + 1 ticks since the last byte of the command (R35). -/
def responseDue (f : InFlight) : Bool :=
  match f.ticks with
  | some n =>
    match f.what with
    | .poll => Config.pollTimeout + 1 ≤ n
    | .command _ => Config.commandTimeout + 1 ≤ n
  | none => false

/-- Step 1 of R36 and R37: the command in flight ends; a frame taken in is consumed or discarded (R21). -/
def endExchange (s : State) : State :=
  modBus (fun b => { b with inFlight := none, handing := true, partialFrame := [] }) s

/-- Steps 3 and 4 of R36, 4 and 5 of R37: the placements of R32, then the next command onto the bus (none while the
RESET pin is low, R187). -/
def moveOn (s : State) : State := kick (modBus (fun b => { b with handing := false }) (placeOwed s))

/-- The wire's level as the controller now sees it (R25). -/
def sampleWire (low : Bool) (s : State) : State := modBus (fun b => { b with attentionLow := low }) s

/-- A complete frame that is no reply to the command in flight is ignored (R21); nothing is taken in while the part
drives the bus (R19). -/
def ignoreFrame (s : State) : State :=
  if driverEnable s then s else modBus (fun b => { b with partialFrame := [] }) s

/-- The controller after a power-on or a station reset, but for the lock-due flags, which stand in the dock records
(R39). -/
def resetBus (s : State) : State :=
  modBus (fun b => { b with queue := [], pollSlot := false, holdoff := false, inFlight := none, partialFrame := [],
                            handing := false }) s

end Sys2Proof.Machine
end

