-- ==== Sys2Proof/Machine/Docks.lean ====
section
/-! DEFINITION. Changes of a dock's state (R4), retirement (R5, R128, R129), fault reports (R124, R125, R133, R135) and
the end of an authorization (R77). -/

namespace Sys2Proof.Machine

/-! ## Dock states -/

/-- A new bike record: the charge level absent, no sense in progress (R3). Tag 0 is an unidentified bike, whose kind is
STANDARD. -/
def newBike (T : Nat) (kind : BikeKind) (now : Nat) : Bike :=
  { id := if T = 0 then none else some T, kind := if T = 0 then .standard else kind, dockedSince := now,
    charge := none, sense := none }

/-- A bike record whose sense in progress is aborted, its level standing (R152). -/
def Bike.senseAborted (b : Bike) : Bike := { b with sense := none }

/-- A bike record whose id is taken away (R6). -/
def Bike.anonymous (b : Bike) : Bike := { b with id := none, kind := .standard, charge := none, sense := none }

/-- The record of a dock in a settled state `st` with bike `bike`: no owner, no reservation, no phase, no window, ident
retries 0 (R4, R45, R60). Van hold and retire pending are the caller's. -/
def Dock.settled (st : DockState) (bike : Option Bike) (k : Dock) : Dock :=
  { k with state := st, bike := bike, owner := none, reserved := false, identRetries := 0, phase := none,
           window := none, rereadAgain := false }

/-- The record of a VACANT dock (R4). -/
def Dock.vacated (k : Dock) : Dock := { k.settled .vacant none with vanHold := false, retirePending := false }

/-- A RETIRED dock's record, with its bike as a stranded bike (R129). -/
def Dock.asRetired (k : Dock) : Dock := { k.settled .retired k.bike with vanHold := false, retirePending := false }

/-- Dock `d` enters RETIRED, its bike record staying as a stranded bike: the record, the journal record and the Service
Port notice. What was queued, owed or in flight for it is not withdrawn (R128, R129). -/
def enterRetired (d : Nat) (s : State) : State :=
  let stranded := (s.dock d).bike.map fun b => b.id.getD 0
  raise (.dockRetired d) (enterRecord (.dockRetired d stranded) (orphan d (modDock d Dock.asRetired s)))

/-- Dock `d` enters RETIRED with no bike (R129). -/
def enterRetiredEmpty (d : Nat) (s : State) : State := enterRetired d (modDock d (fun k => { k with bike := none }) s)

/-- An operation ends that leaves dock `d` VACANT: with retire pending it becomes RETIRED with no bike instead (R5);
else a DELIVER batch may top up its reservations (R106). -/
def becomeVacant (d : Nat) (s : State) : State :=
  if (s.dock d).retirePending then enterRetiredEmpty d s else topUp (modDock d Dock.vacated s)

/-- An operation ends that leaves dock `d` HELD with its bike: with retire pending it becomes RETIRED with the bike
stranded instead (R5); else a COLLECT batch may hold the bike (R107). A van hold stays. -/
def becomeHeld (d : Nat) (s : State) : State :=
  if (s.dock d).retirePending then enterRetired d s
  else holdIfWanted d (modDock d (fun k => k.settled .held k.bike) s)

/-- An operation's end that has left dock `d` in a state with retire pending still set: R5 retires it now. -/
def applyPending (d : Nat) (s : State) : State := if (s.dock d).retirePending then enterRetired d s else s

/-! ## Dock reports -/

/-- A count after a report: a minor one adds 1 up to 15, a severe one raises it to the threshold (R124, R125). -/
def countAfter (severe : Bool) (threshold count : Nat) : Nat :=
  if severe then max count threshold else max count (min (count + 1) Config.faultTop)

/-- What the threshold does to dock `d`, by its state (R128). -/
def retireAtThreshold (d : Nat) (s : State) : State :=
  match (s.dock d).state with
  | .vacant | .held => enterRetired d s
  | .reserved => enterRetired d (moveReservation d s)
  | .claimed | .releasing | .latching | .ejecting => modDock d (fun k => { k with retirePending := true }) s
  | .retired | .unverified => s

/-- A report against dock `d` (R123, R124). -/
def reportDock (d : Nat) (c : Category) (severe : Bool) (s : State) : State :=
  if masked c s then s
  else
    let n := countAfter severe s.settings.dockThreshold (s.dock d).faultCount
    let s1 := enterRecord (.dockFault d c n) (modDock d (fun k => { k with faultCount := n }) s)
    if s.settings.dockThreshold ≤ n then retireAtThreshold d s1 else s1

/-! ## Bike reports -/

/-- `s` with the Bike Fault Table entry of a bike id changed by `f`. -/
def modBikeFault (b : Nat) (f : BikeFault → BikeFault) (s : State) : State :=
  { s with bikeFaults := s.bikeFaults.map fun x => if x.bike == b then f x else x }

/-- Remove the entry of a bike id (R136, R137). -/
def dropBikeFault (b : Nat) (s : State) : State := { s with bikeFaults := s.bikeFaults.filter fun x => x.bike != b }

/-- The order of eviction: lowest count, then oldest last report, then smallest bike id (R133). -/
def bikeFaultBefore (a b : BikeFault) : Bool :=
  a.count < b.count || (a.count == b.count &&
    (a.lastReport < b.lastReport || (a.lastReport == b.lastReport && a.bike < b.bike)))

/-- A report for the bike id can be recorded: it has an entry, or a place is free, or some entry is not quarantined
(R133). -/
def recordable (b : Nat) (s : State) : Bool :=
  (findBikeFault b s).isSome || s.bikeFaults.length < Config.bikeFaultPlaces || s.bikeFaults.any (fun f => !f.quarantined)

/-- Make the entry of a bike id if it has none, evicting from a full table; the caller has checked that the report can
be recorded (R133). -/
def makeBikeFault (b : Nat) (s : State) : State :=
  if (findBikeFault b s).isSome then s
  else
    let entry : BikeFault := { bike := b, count := 0, quarantined := false, lastReport := s.now }
    let s1 :=
      if s.bikeFaults.length < Config.bikeFaultPlaces then s
      else match bestBy bikeFaultBefore (s.bikeFaults.filter fun f => !f.quarantined) with
        | some v => dropBikeFault v.bike s
        | none => s
    { s1 with bikeFaults := s1.bikeFaults ++ [entry] }

/-- The fault count of a bike id, 0 with no entry. -/
def bikeCount (b : Nat) (s : State) : Nat :=
  match findBikeFault b s with
  | some f => f.count
  | none => 0

/-- A report against a bike id (R123, R125, R133, R135). -/
def reportBike (b : Nat) (c : Category) (severe : Bool) (s : State) : State :=
  if masked c s || !recordable b s then s
  else
    let s1 := makeBikeFault b s
    let n := countAfter severe s.settings.bikeThreshold (bikeCount b s1)
    let already := quarantinedId b s1
    let s2 := enterRecord (.bikeFault b c n) (modBikeFault b (fun f => { f with count := n, lastReport := s.now }) s1)
    if s.settings.bikeThreshold ≤ n ∧ already = false then
      raise (.bikeQuarantined b)
        (enterRecord (.bikeQuarantined b) (modBikeFault b (fun f => { f with quarantined := true }) s2))
    else s2

/-! ## The end of an authorization -/

/-- The Auth Queue entry of a tag (R76). -/
def findAuth (tag : Nat) (s : State) : Option AuthEntry := s.authQueue.find? (fun e => e.tag == tag)

/-- The Auth Queue entry of a CLAIMED dock (R76). -/
def authAt (d : Nat) (s : State) : Option AuthEntry := s.authQueue.find? (fun e => e.dock == d)

/-- `s` without the entry of a tag. -/
def dropAuth (tag : Nat) (s : State) : State := { s with authQueue := s.authQueue.filter fun e => e.tag != tag }

/-- An authorization ends with a result: the entry is removed, the dock leaves CLAIMED for HELD, or for RETIRED through
R5, and AUTH_DONE is raised (R77). -/
def endAuth (e : AuthEntry) (r : Result) (s : State) : State :=
  raise (.authDone e.tag r) (becomeHeld e.dock (dropAuth e.tag s))

/-- The authorization at dock `d` is refused with DOCK_NOT_READY and the dock returns to HELD (R55 step 1, R141). -/
def refuseClaim (d : Nat) (s : State) : State :=
  match authAt d s with
  | some e => endAuth e .dockNotReady s
  | none => becomeHeld d s

/-- The same at a forced removal, where the dock's next state is that rule's (R61 step 1, R77). -/
def refuseClaimRemoved (d : Nat) (s : State) : State :=
  match authAt d s with
  | some e => raise (.authDone e.tag .dockNotReady) (dropAuth e.tag s)
  | none => s

end Sys2Proof.Machine
end

