-- ==== Sys2Proof/Machine/Placement.lean ====
section
/-! DEFINITION. Audit passes (R145 to R147) and the placements of LOCK, REJECT and UNLATCH with the DROPPED outcomes
that they hand over (R29, R30, R36, R51, R52, R60). -/

namespace Sys2Proof.Machine

/-! ## Audits -/

/-- `s` with the audit state changed by `f`. -/
def modAudit (f : Audit → Audit) (s : State) : State := { s with audit := f s.audit }

/-- A dock number put into a list kept in increasing order, once. -/
def insertDock (d : Nat) : List Nat → List Nat
  | [] => [d]
  | e :: rest => if d < e then d :: e :: rest else if d = e then e :: rest else e :: insertDock d rest

/-- A full audit is running (R144). -/
def Audit.isFull (a : Audit) : Bool :=
  match a.kind with
  | .full _ => true
  | .idle | .startUp => false

/-- A pass over the docks of the to-do set, in increasing number (R145). -/
def passOver : List Nat → State → State
  | [], s => s
  | d :: rest, s =>
    if s.audit.isFull && inFlightState (s.dock d).state then
      passOver rest (modAudit (fun a => { a with toDo := a.toDo.erase d }) s)
    else if !nothingInHand d s then passOver rest s
    else
      match placeQuiet .status .patrol d s with
      | (s1, true) =>
        passOver rest (modAudit (fun a => { a with toDo := a.toDo.erase d, outstanding := insertDock d a.outstanding }) s1)
      | (s1, false) => s1

/-- An audit pass; none while the RESET pin is low (R145, R187). -/
def auditPass (s : State) : State :=
  if s.pinLow ∨ s.audit.kind = .idle then s else passOver s.audit.toDo s

/-- The patrol interval count starts at 0, if patrol is enabled (R138, R146, R147). -/
def startInterval (s : State) : State :=
  if s.settings.patrolEnable = 1 then
    { s with patrol := { s.patrol with interval := 0 }, due := { s.due with patrol := false } }
  else s

/-- An audit whose to-do and outstanding sets are both empty ends: AUDIT_DONE at the asking port (R146), or the station
becomes READY with START_DONE (R147, R185). -/
def auditEnd (s : State) : State :=
  if s.audit.toDo = [] ∧ s.audit.outstanding = [] then
    match s.audit.kind with
    | .idle => s
    | .full p =>
      let done := modAudit (fun a => { a with kind := .idle }) s
      startInterval (raise (if p = .uplink then .uplinkAuditDone s.audit.mismatches
                            else .serviceAuditDone s.audit.mismatches) done)
    | .startUp =>
      let done := modAudit (fun a => { a with kind := .idle }) s
      startInterval (raise .startDone { done with station := .ready })
  else s

/-- A pass and then the test of the audit's end (R145, R146, R147). -/
def auditStep (s : State) : State := auditEnd (auditPass s)

/-- The dock leaves the outstanding set (R146, R149). -/
def leaveOutstanding (d : Nat) (s : State) : State :=
  modAudit (fun a => { a with outstanding := a.outstanding.erase d }) s

/-! ## Re-reads -/

/-- Try to place a re-read for a LATCHING dock; a placement raises ident retries by 1, unless it makes a DROPPED
re-read again (R59, R60). -/
def tryReread (d : Nat) (s : State) : State :=
  match placeQuiet .status .release d s with
  | (s1, true) =>
    modDock d (fun k => if k.rereadAgain then { k with rereadAgain := false }
                        else { k with identRetries := k.identRetries + 1 }) s1
  | (s1, false) => s1

/-! ## Placements with their DROPPED outcomes -/

/-- The rule of a dropped command's owner, but for a release whose command was dropped (R36): an audit's STATUS goes back
to the to-do set (R146, R147) and a pass runs (R145); a re-read is placed again (R60); nothing else acts (R142, R143,
R150, R57). -/
def handDropped (c : Cmd) (s : State) : State :=
  match c.owner, c.kind with
  | .patrol, .status =>
    if c.dock ∈ s.audit.outstanding then
      auditStep (modAudit (fun a => { a with outstanding := a.outstanding.erase c.dock,
                                             toDo := insertDock c.dock a.toDo }) s)
    else s
  | .release, .status =>
    if c.live = true ∧ (s.dock c.dock).state = .latching then
      tryReread c.dock (modDock c.dock (fun k => { k with rereadAgain := true }) s)
    else s
  | _, _ => s

/-- A release in progress whose UNLATCH, or whose closing LOCK, was dropped places a LOCK (R51, R52). -/
def wantsLock (c : Cmd) (s : State) : Bool :=
  c.owner == .release && c.live && (s.dock c.dock).state == .releasing &&
    ((c.kind == .unlatch && (s.dock c.dock).phase == some .unlatching) ||
      (c.kind == .lock && (s.dock c.dock).phase == some .locking))

/-- The phase of dock `d` set (R45). -/
def setPhase (d : Nat) (p : Phase) (s : State) : State := modDock d (fun k => { k with phase := some p }) s

/-- Hand a DROPPED outcome to its owner, within the placement that displaced the command (R36). The LOCK of R51 and R52
may displace the command just placed; that one's own outcome is handed in turn, and goes no further. -/
def dropped (c : Cmd) (s : State) : State :=
  if wantsLock c s then
    match lockChange { kind := .lock, owner := .release, live := true } c.dock s with
    | (s1, some other) => handDropped other (setPhase c.dock .locking s1)
    | (s1, none) => setPhase c.dock .locking s1
  else handDropped c s

/-- Place a LOCK or REJECT (R29). -/
def placeLock (o : Owed) (d : Nat) (s : State) : State :=
  match lockChange o d s with
  | (s1, some c) => kick (dropped c s1)
  | (s1, none) => kick s1

/-- Place an UNLATCH for the Release and Return Unit; none when it is refused (R30). -/
def placeUnlatch (d : Nat) (s : State) : Option State :=
  match unlatchChange d s with
  | none => none
  | some (s1, some c) => some (kick (dropped c s1))
  | some (s1, none) => some (kick s1)

/-- The closing LOCK of a release or an ejection (R47, R51, R57). -/
def ownLock : Owed := { kind := .lock, owner := .release, live := true }

/-- The REJECT of an ejection (R57). -/
def ownReject : Owed := { kind := .reject, owner := .release, live := true }

/-- The REJECT of an arrival at a RETIRED dock, whose outcome changes nothing (R58). -/
def retiredReject : Owed := { kind := .reject, owner := .release, live := false }

/-- The LOCK of the Patrol Unit (R142). -/
def patrolLock : Owed := { kind := .lock, owner := .patrol, live := true }

/-- Place a SENSE_START for dock `d`; a placement that is not made is not retried (R150). -/
def placeSense (d : Nat) (s : State) : State := (placeQuiet .senseStart .patrol d s).1

/-- The sense check: place a SENSE_START if the dock needs a sense (R150). -/
def senseCheck (d : Nat) (s : State) : State := if needsSense d s then placeSense d s else s

end Sys2Proof.Machine
end

