-- ==== Sys2Proof/Machine/Release.lean ====
section
/-! DEFINITION. The release: its beginning (R43, R112), OPENED (R46), the pull (R48, R113), the lapse (R50, R114), the
silent closing LOCK (R52), and a bike entered in another dock (R6). -/

namespace Sys2Proof.Machine

/-! ## Beginning -/

/-- Dock `d` becomes RELEASING for an owner, in phase UNLATCHING, its bike kept with a sense in progress aborted
(R43 steps 3 and 4, R112, R152). A van hold stays on. -/
def beginRelease (d : Nat) (o : Owner) (s : State) : State :=
  modDock d (fun k => { k with state := .releasing, owner := some o, bike := k.bike.map Bike.senseAborted,
                               phase := some .unlatching, window := none }) s

/-- The acceptance of a hire at dock `d` for a card, once its UNLATCH is placed: steps 1 to 4 of R43. -/
def acceptHire (c : Card) (bikeId : Nat) (kind : BikeKind) (d : Nat) (s : State) : State :=
  let h := freeHireNumber s
  let r := acceptedHire h c bikeId kind d s
  let s1 := { s with hires := s.hires ++ [r], lastHire := h }
  beginRelease d (.hire h) (placeHold c.id r.holdAmount s1)

/-- The window timer started with the release window setting (R45). -/
def startWindow (s : State) : Window := { limit := s.settings.releaseWindow, ticks := 0 }

/-- OPENED for the UNLATCH of a release in phase UNLATCHING (R46). -/
def releaseOpened (d : Nat) (s : State) : State :=
  let s1 := modDock d (fun k => { k with phase := some .opened, window := some (startWindow s) }) s
  match (s.dock d).owner with
  | some (.hire h) => raise (.hireDockOpen d h) s1
  | some .batch => raise (.batchDockOpen d) s1
  | none => s1

/-! ## Pull -/

/-- The collection of a bike: steps 2 to 6 of R113. -/
def collect (bike : Option Bike) (d : Nat) (s : State) : State :=
  let id := bike.bind Bike.id
  let wanted : Bool := match s.batch, id with
    | some b, some i => b.kind == .collect && b.manifest.any (fun m => !m.done && m.bike == i)
    | _, _ => false
  let s1 := modBatch (fun b => if wanted then b.markDone (id.getD 0) else b.countDone) s
  let s2 := match id with
    | some i => dropBikeFault i s1
    | none => s1
  let s3 := enterRecord (.bikeCollected (id.getD 0) d (crewOf s2)) s2
  let s4 := raise (.batchProgress (doneCount s3)) s3
  match s4.batch with
  | some b => if b.expiryWaiting then s4 else restartIdle s4
  | none => s4

/-- A pull at dock `d` (R48): for a hire it becomes OUT and is journaled, for the batch it is a collection (R113). -/
def pull (d : Nat) (s : State) : State :=
  let k := s.dock d
  let s1 := endOperation d s
  match k.owner with
  | some (.hire h) =>
    let s2 := becomeVacant d (hireOut h s1)
    let s3 := match findHire h s2 with
      | some r => enterRecord (.hireStart h r.card r.bike d) s2
      | none => s2
    raise (.bikeTaken d h) s3
  | some .batch => batchReleaseEnded (collect k.bike d (becomeVacant d s1))
  | none => becomeVacant d s1

/-! ## Lapse and silence -/

/-- The hire of a release is cancelled and the terminal told (R50, R52, R89). -/
def lapseHire (d h : Nat) (s : State) : State :=
  let s1 := match findHire h s with
    | some r => cancelHire r s
    | none => s
  raise (.releaseLapsed d h) s1

/-- A lapse at dock `d` (R50, R114). -/
def lapse (d : Nat) (s : State) : State :=
  let s1 := becomeHeld d (endOperation d s)
  match (s.dock d).owner with
  | some (.hire h) => lapseHire d h s1
  | some .batch => batchReleaseEnded s1
  | none => s1

/-- The closing LOCK of a release got no reply: the dock is retired with its bike stranded (R52, R114). -/
def closingLockSilent (d : Nat) (s : State) : State :=
  let s1 := enterRetired d (endOperation d s)
  match (s.dock d).owner with
  | some (.hire h) => lapseHire d h s1
  | some .batch => batchReleaseEnded s1
  | none => s1

/-- The window ended or the UNLATCH failed: place the closing LOCK and move to the phase given (R47, R51, R57). -/
def closeWith (p : Phase) (d : Nat) (s : State) : State :=
  setPhase d p (placeLock ownLock d (modDock d (fun k => { k with window := none }) s))

/-! ## A bike entered in one dock and recorded in another -/

/-- The installed dock other than `d` that records bike `T` (R6). -/
def recordedElsewhere (d T : Nat) (s : State) : Option Nat :=
  s.installedDocks.find? fun e => e != d && (match (s.dock e).bike with
    | some b => b.id == some T
    | none => false)

/-- Dock `e` loses the id of its bike (R6). -/
def anonymize (e : Nat) (s : State) : State := modDock e (fun k => { k with bike := k.bike.map Bike.anonymous }) s

/-- The Dock Table acts on a dock that still records bike `T`, before `T` is entered in dock `d` (R6). -/
def clearElsewhere (d T : Nat) (s : State) : State :=
  match recordedElsewhere d T s with
  | none => s
  | some e =>
    match (s.dock e).state with
    | .held | .claimed => reportDock e .auditMismatch false (anonymize e s)
    | .retired => anonymize e s
    | .releasing => pull e s
    | .vacant | .reserved | .latching | .ejecting | .unverified => s

end Sys2Proof.Machine
end

