-- ==== Sys2Proof/Machine/Arrivals.lean ====
section
/-! DEFINITION. Arrivals and removals at every dock state (R53 to R62), identification (R59, R60), and the start-up
audit's resolution of an UNVERIFIED dock (R148, R149). -/

namespace Sys2Proof.Machine

/-- The hire closed by an arrival is told to the Terminal Port (R55 step 5, R56 step 4). -/
def tellReturn (d : Nat) (x : State × Option (Nat × Nat)) : State :=
  match x with
  | (s, some (h, f)) => raise (.returnDone d h f) s
  | (s, none) => s

/-! ## Accepted arrivals -/

/-- The effects of an accepted rider return once any hire is closed: RETURN_DONE, and RETURN_FOREIGN when no hire was
closed (R56, step 4). -/
def riderReturn (d T : Nat) (closed : Option (Nat × Nat)) (s : State) : State :=
  match closed with
  | some (h, f) => raise (.returnDone d h f) s
  | none => raise (.returnDone d 0 0) (enterRecord (.returnForeign T d) s)

/-- A rider return or a delivery of tag T is accepted at dock `d` (R56). The pull of R6 may have reserved dock `d`
itself (R106): a rider return moves that reservation on before the dock becomes HELD (R111; assumption log 16). Retire
pending set by an operation that this arrival ends retires the dock last (R54, R60). -/
def acceptArrival (d T : Nat) (kind : BikeKind) (delivery : Bool) (s : State) : State :=
  let s0 := clearElsewhere d T s
  let s1 := if !delivery && (s0.dock d).state == .reserved && (s0.dock d).reserved then moveReservation d s0 else s0
  let s2 := holdIfWanted d
    (modDock d (fun k => { k.settled .held (some (newBike T kind s1.now)) with vanHold := false }) s1)
  let (s3, closed) := closeBikeHire T d s2
  let s4 := if delivery && s3.batch.isSome then deliver d T s3 else riderReturn d T closed s3
  let s5 := if kind = .electric ∧ (effective d s4).cls = .charging then placeSense d s4 else s4
  applyPending d s5

/-- The dock enters identification: LATCHING with an unidentified bike, and the first re-read tried (R59). -/
def enterLatching (d : Nat) (s : State) : State :=
  let k := s.dock d
  applyPending d (tryReread d (setDock d
    { k.settled .latching (some (newBike 0 .standard s.now)) with vanHold := false } s))

/-- An arrival is refused at dock `d`: a REJECT is placed and the dock becomes EJECTING (R57). -/
def refuseArrival (d : Nat) (s : State) : State :=
  let s1 := placeLock ownReject d s
  let s2 := modDock d (fun k => { k.settled .ejecting none with vanHold := false, phase := some .rejecting }) s1
  applyPending d (raise (.returnRefused d) s2)

/-- An arrival at a VACANT or RESERVED dock, or at an EJECTING dock re-evaluated as if VACANT (R54): a delivery, a
rider return, an identification or a refusal. A reservation is moved unless it is a delivery (R111). -/
def arriveFree (d T : Nat) (kind : BikeKind) (s : State) : State :=
  if isDelivery d T s then acceptArrival d T kind true s
  else
    let s1 := if (s.dock d).state = .reserved then moveReservation d s else s
    if returnAllowed d s1 then
      if T = 0 then enterLatching d s1 else acceptArrival d T kind false s1
    else refuseArrival d s1

/-! ## Identification -/

/-- Identification ends with a tag: a delivery or a rider return, with no new permission check (R60, R109). -/
def identified (d T : Nat) (kind : BikeKind) (s : State) : State :=
  let s1 := endOperation d s
  acceptArrival d T kind (isDelivery d T s1) s1

/-- Identification ends with both re-reads unread (R60). -/
def unidentified (d : Nat) (s : State) : State :=
  enterRecord (.returnUnidentified d)
    (reportDock d .tagUnreadable false (becomeHeld d (endOperation d s)))

/-- A re-read that gave no tag: a second one, or the end (R60). -/
def rereadUnread (d : Nat) (s : State) : State :=
  if 2 ≤ (s.dock d).identRetries then unidentified d s else tryReread d s

/-- A re-read of this identification is queued or in flight at dock `d` (R59, R60). -/
def rereadInHand (d : Nat) (s : State) : Bool :=
  s.bus.queue.any (fun c => ownLive d c && c.kind == .status) ||
    (match inFlightAt d s with
     | some c => ownLive d c && c.kind == .status
     | none => false)

/-- INSERTED with no tag at a LATCHING dock: identification restarts (R60), which ends the one before, so that R5
applies. -/
def restartIdentification (d : Nat) (s : State) : State :=
  let s1 :=
    if rereadInHand d s then modDock d (fun k => { k with identRetries := 1, rereadAgain := false }) s
    else tryReread d (modDock d (fun k => { k with identRetries := 0, rereadAgain := false }) s)
  applyPending d s1

/-! ## Mismatches -/

/-- The recorded bike id of a dock, none when it has none. -/
def recordedId (k : Dock) : Option Nat := k.bike.bind Bike.id

/-- The dock has another bike than the one recorded: steps 2 to 5 of R55. -/
def replaceBike (d T : Nat) (kind : BikeKind) (s : State) : State :=
  let expected := recordedId (s.dock d)
  let s1 := clearElsewhere d T s
  let s2 := holdIfWanted d
    (modDock d (fun k => { k with bike := some (newBike T kind s1.now), vanHold := false }) s1)
  let s3 := enterRecord (.auditMismatch d expected (some T)) s2
  tellReturn d (closeBikeHire T d (reportDock d .auditMismatch false s3))

/-- A different bike at a HELD or CLAIMED dock: steps 1 to 5 of R55. -/
def mismatch (d T : Nat) (kind : BikeKind) (s : State) : State :=
  replaceBike d T kind (if (s.dock d).state = .claimed then refuseClaim d s else s)

/-- An arrival at a RETIRED dock (R58). -/
def arriveRetired (d T : Nat) (s : State) : State :=
  let k := s.dock d
  let repeated := match k.bike with
    | some b => if T = 0 then b.id.isNone else b.id == some T
    | none => false
  if repeated then s
  else
    let s1 := raise (.returnRefused d) (placeLock retiredReject d s)
    match k.bike with
    | some b => enterRecord (.bikeMissing (b.id.getD 0) d) (modDock d (fun x => { x with bike := none }) s1)
    | none => s1

/-! ## Resolution of an UNVERIFIED dock -/

/-- A STARTING hire becomes OUT at the start-up audit, journaled and with no notice (R148). -/
def startAtAudit (r : Hire) (d : Nat) (s : State) : State :=
  enterRecord (.hireStart r.number r.card r.bike d) (hireOut r.number s)

/-- After a resolution's own effects: R5 for a dock with retire pending, else the threshold of R130. -/
def afterResolution (d : Nat) (s : State) : State :=
  if (s.dock d).retirePending then enterRetired d s
  else if s.settings.dockThreshold ≤ (s.dock d).faultCount then retireAtThreshold d s
  else s

/-- The dock reports no bike (R148). -/
def resolveEmpty (d : Nat) (s : State) : State :=
  let s1 := match startingHireAt d s with
    | some r => startAtAudit r d s
    | none => s
  let s2 := modDock d (fun k => { k.settled .vacant none with vanHold := false }) s1
  afterResolution d (if (s2.dock d).retirePending then s2 else topUp s2)

/-- The dock reports a bike (R148). Where the bike is another than that of the STARTING hire on the dock, and another
dock still records it, the hire's OUT and HIRE_START come first and R6's act at the other dock second (DESIGN CHOICE,
assumption log 28). -/
def resolveFound (d : Nat) (f : Found) (s : State) : State :=
  let s1 := match startingHireAt d s with
    | some r => if f.tag = 0 ∨ f.tag = r.bike then cancelHire r s else startAtAudit r d s
    | none => s
  let s2 := if f.tag = 0 then s1 else clearElsewhere d f.tag s1
  let s3 := holdIfWanted d
    (modDock d (fun k => { k.settled .held (some (newBike f.tag f.kind s2.now)) with vanHold := false }) s2)
  let s4 := if f.tag = 0 then s3 else (closeBikeHire f.tag d s3).1
  let s5 := if f.closed then s4 else placeLock patrolLock d s4
  afterResolution d (senseCheck d s5)

/-- An UNVERIFIED dock is resolved by what the dock reports (R148). -/
def resolve (d : Nat) (found : Option Found) (s : State) : State :=
  match found with
  | some f => resolveFound d f s
  | none => resolveEmpty d s

/-- An UNVERIFIED dock that its audit STATUS finds silent (R148). -/
def resolveSilent (d : Nat) (s : State) : State :=
  let s1 := match startingHireAt d s with
    | some r => cancelHire r s
    | none => s
  enterRetiredEmpty d s1

/-- An INSERTED or REMOVED at an UNVERIFIED dock resolves it, and it leaves the to-do set (R149). -/
def resolveByEvent (d : Nat) (found : Option Found) (s : State) : State :=
  auditEnd (modAudit (fun a => { a with toDo := a.toDo.erase d }) (resolve d found s))

/-! ## The arrival -/

/-- An arrival at a dock that is not RELEASING, by its state (R54). -/
def arriveSettled (d T : Nat) (kind : BikeKind) (s : State) : State :=
  match (s.dock d).state with
  | .vacant | .reserved => arriveFree d T kind s
  | .ejecting => arriveFree d T kind (endOperation d (modDock d (fun k => { k with window := none }) s))
  | .latching => if T = 0 then restartIdentification d s else identified d T kind s
  | .held | .claimed =>
    if T = 0 ∨ recordedId (s.dock d) = some T then s else mismatch d T kind s
  | .retired => arriveRetired d T s
  | .unverified => resolveByEvent d (some { tag := T, kind := kind, closed := true }) s
  | .releasing => s

/-- An INSERTED at a RELEASING dock, by the release phase (R53). -/
def arriveReleasing (d T : Nat) (kind : BikeKind) (s : State) : State :=
  if T = 0 ∨ recordedId (s.dock d) = some T then
    if (s.dock d).phase = some .unlatching then s else lapse d s
  else arriveSettled d T kind (pull d s)

/-- An arrival of tag T (0 unread) with its kind at dock `d` (R54). -/
def arrive (d T : Nat) (kind : BikeKind) (s : State) : State :=
  if (s.dock d).state = .releasing then arriveReleasing d T kind s else arriveSettled d T kind s

/-! ## Removals and lock faults -/

/-- A forced removal at a HELD or CLAIMED dock (R61). -/
def forcedRemoval (d : Nat) (s : State) : State :=
  let id := (recordedId (s.dock d)).getD 0
  let s1 := if (s.dock d).state = .claimed then refuseClaimRemoved d s else s
  let s2 := becomeVacant d s1
  reportDock d .lockFault true (enterRecord (.bikeMissing id d) s2)

/-- The stranded bike of a RETIRED dock has gone (R62, R141). -/
def strandedGone (d : Nat) (s : State) : State :=
  match (s.dock d).bike with
  | some b => enterRecord (.bikeMissing (b.id.getD 0) d) (modDock d (fun k => { k with bike := none }) s)
  | none => s

/-- A REMOVED event at dock `d` (R53, R57, R60, R61, R62). -/
def bikeRemoved (d : Nat) (s : State) : State :=
  match (s.dock d).state with
  | .vacant | .reserved => s
  | .latching => becomeVacant d (endOperation d s)
  | .held | .claimed => forcedRemoval d s
  | .releasing => pull d s
  | .ejecting => becomeVacant d (endOperation d s)
  | .retired => strandedGone d s
  | .unverified => resolveByEvent d none s

/-- A LOCK_FAULT event at dock `d`: a severe dock fault at every state (R53, R60, R62). -/
def lockFaulted (d : Nat) (s : State) : State := reportDock d .lockFault true s

end Sys2Proof.Machine
end

