-- ==== Sys2Proof/Machine/Compare.lean ====
section
/-! DEFINITION. The Patrol Unit's handling of what a dock reports: the comparison with the dock record (R141), the lock
found open (R142), the replies discarded (R143), the outcomes of audit STATUS commands (R146, R147, R148). -/

namespace Sys2Proof.Machine

/-- A tag as the found bike of an AUDIT_MISMATCH record: absent when it is 0 (R141). -/
def foundId (T : Nat) : Option Nat := if T = 0 then none else some T

/-- The dock reports the bike its record holds, or a bike whose tag was not read: the T = 0 or T = X rows (R141). -/
def agrees (k : Dock) (f : Found) : Bool := f.tag == 0 || recordedId k == some f.tag

/-- A bike at a VACANT or RESERVED dock (R141). -/
def compareFree (d : Nat) (f : Found) (s : State) : State :=
  reportDock d .auditMismatch false
    (arrive d f.tag f.kind (enterRecord (.auditMismatch d none (foundId f.tag)) s))

/-- No bike at a HELD dock (R141). -/
def compareGone (d : Nat) (s : State) : State :=
  let id := (recordedId (s.dock d)).getD 0
  reportDock d .auditMismatch false (becomeVacant d (enterRecord (.bikeMissing id d) s))

/-- No bike at a CLAIMED dock: its authorization is refused and the HELD row follows; a dock that R5 has retired with
its bike stranded follows the RETIRED row (R141). -/
def compareClaimGone (d : Nat) (s : State) : State :=
  let s1 := refuseClaim d s
  if (s1.dock d).state = .retired then strandedGone d s1 else compareGone d s1

/-- A bike at a RETIRED dock that its record does not hold: it becomes the stranded bike (R141). -/
def compareRetired (d : Nat) (f : Found) (s : State) : State :=
  let expected := recordedId (s.dock d)
  let s1 := if f.tag = 0 then s else clearElsewhere d f.tag s
  let s2 := modDock d (fun k => { k with bike := some (newBike f.tag f.kind s1.now) }) s1
  let s3 := enterRecord (.auditMismatch d expected (foundId f.tag)) s2
  if f.tag = 0 then s3 else (closeBikeHire f.tag d s3).1

/-- The outcome of R141 and whether it is a mismatch. -/
def compareRow (d : Nat) (found : Option Found) (s : State) : State × Bool :=
  match (s.dock d).state, found with
  | .vacant, none | .reserved, none => (s, false)
  | .vacant, some f | .reserved, some f => (compareFree d f s, true)
  | .held, none => (compareGone d s, true)
  | .claimed, none => (compareClaimGone d s, true)
  | .held, some f | .claimed, some f =>
    if agrees (s.dock d) f then (s, false) else (mismatch d f.tag f.kind s, true)
  | .retired, none =>
    if (s.dock d).bike.isSome then (strandedGone d s, true) else (s, false)
  | .retired, some f =>
    if (s.dock d).bike.isSome && agrees (s.dock d) f then (s, false) else (compareRetired d f s, true)
  | .releasing, _ | .latching, _ | .ejecting, _ | .unverified, _ => (s, false)

/-- The reply shows a bike with the lock not closed (R142). -/
def showsOpen (found : Option Found) : Bool :=
  match found with
  | some f => !f.closed
  | none => false

/-- After R141, at a dock that is HELD: the LOCK of R142 when the lock was found open, and the sense check of R150. A
lock found open is a mismatch too. -/
def afterRow (d : Nat) (found : Option Found) (x : State × Bool) : State × Bool :=
  if (x.1.dock d).state = .held then
    if showsOpen found then (senseCheck d (placeLock patrolLock d x.1), true) else (senseCheck d x.1, x.2)
  else x

/-- A STATUS reply compared with the dock record as it stands (R141, R142, R143, R150). -/
def compare (d : Nat) (found : Option Found) (s : State) : State × Bool := afterRow d found (compareRow d found s)

/-- The reply to a LOCK of the Patrol Unit: discarded at an in-flight state, else compared (R142). -/
def compareLock (d : Nat) (found : Option Found) (s : State) : State :=
  if inFlightState (s.dock d).state then s else (compare d found s).1

/-- A mismatch counted by a running full audit, once for a dock (R146). -/
def countMismatch (d : Nat) (mismatched : Bool) (s : State) : State :=
  if mismatched && !s.audit.counted.contains d then
    modAudit (fun a => { a with mismatches := a.mismatches + 1, counted := d :: a.counted }) s
  else s

/-- What the REPLY to an audit's STATUS does, once the dock has left the outstanding set (R146, R147, R149). -/
def auditFinding (d : Nat) (found : Option Found) (s : State) : State :=
  match s.audit.kind with
  | .full _ =>
    let x := compare d found s
    countMismatch d x.2 x.1
  | .startUp => if (s.dock d).state = .unverified then resolve d found s else (compare d found s).1
  | .idle => (compare d found s).1

/-- A STATUS of the Patrol Unit ends with a REPLY (R141, R146, R147). -/
def patrolStatusReply (d : Nat) (found : Option Found) (s : State) : State :=
  if d ∈ s.audit.outstanding then auditStep (auditFinding d found (leaveOutstanding d s))
  else (compare d found s).1

/-- A STATUS of the Patrol Unit ends with NO_REPLY (R143, R146, R147, R148). -/
def patrolStatusSilent (d : Nat) (s : State) : State :=
  if d ∈ s.audit.outstanding then
    let s1 := leaveOutstanding d s
    auditStep (if s1.audit.kind = .startUp ∧ (s1.dock d).state = .unverified then resolveSilent d s1 else s1)
  else s

end Sys2Proof.Machine
end

