-- ==== Sys2Proof/Machine/Replies.lean ====
section
/-! DEFINITION. The outcomes of dock-bus commands (R36, R37) and the events fetched by a poll (R26), handed to the unit
that acts on them, and the meanings of the dock-bus rows of the table. -/

namespace Sys2Proof.Machine

/-! ## Accepting a frame -/

/-- The replies a command admits, by their kind codes (R20, R21). -/
def CmdKind.admits (k : CmdKind) (code : Byte) : Bool :=
  match k with
  | .unlatch | .reject => code == DockReply.opened.code
  | .lock => code == (DockReply.lockedWith 0#24 0#8).code || code == DockReply.lockedEmpty.code
  | .status => code == (DockReply.statusIs 0#24 0#8).code
  | .senseStart => code == DockReply.senseStarted.code

/-- The command in flight, if it is a dock-addressed one (R27). -/
def commandInFlight (s : State) : Option Cmd :=
  match s.bus.inFlight with
  | some f => match f.what with
    | .command c => some c
    | .poll => none
  | none => none

/-- An EVENT_POLL is in flight and its frame has been sent, so that the part listens for the reply (R19, R25). -/
def pollInFlight (s : State) : Bool :=
  match s.bus.inFlight with
  | some f => f.what == .poll && f.ticks.isSome
  | none => false

/-- The command in flight whose reply a frame of this dock number and kind is; none while its own frame is being sent,
when the part does not listen (R19, R21). -/
def acceptedBy (dock : Byte) (code : Byte) (s : State) : Option Cmd :=
  match commandInFlight s with
  | some c =>
    if driverEnable s = false ∧ c.dock = dock.toNat ∧ c.kind.admits code = true then some c else none
  | none => none

/-- An EVENT_IS of this dock number is accepted: an EVENT_POLL awaits its reply and the dock is installed (R26). -/
def eventAccepted (dock : Byte) (s : State) : Bool := pollInFlight s && dock.toNat < s.installed

/-- A reply of this dock number is accepted as the reply to the command in flight: the conditions of R21 on the command,
the dock number and the kind. -/
def replyAccepted (dock : Byte) (r : DockReply) (s : State) : Bool :=
  match r with
  | .noEvent => pollInFlight s && dock == 0xFF#8
  | .inserted .. | .removed | .lockFault | .senseDone _ => eventAccepted dock s
  | .opened | .lockedWith .. | .lockedEmpty | .statusIs .. | .senseStarted => (acceptedBy dock r.code s).isSome

/-- A complete frame is accepted as the reply to the command in flight: its four conditions (R21). -/
def frameAccepted (bytes : List Byte) (s : State) : Bool :=
  match readReply bytes with
  | some (dock, r) => replyAccepted dock r s
  | none => false

/-- A REPLY outcome: the command ends, its owner's rule acts, owed commands are placed and the bus goes on (R36). -/
def replied (act : State → State) (s : State) : State := moveOn (act (endExchange s))

/-! ## Replies -/

/-- OPENED for a command of the Release and Return Unit (R46, R57). -/
def openedFor (c : Cmd) (s : State) : State :=
  let k := s.dock c.dock
  if c.live && c.kind == .unlatch && k.state == .releasing && k.phase == some .unlatching then releaseOpened c.dock s
  else if c.live && c.kind == .reject && k.state == .ejecting && k.phase == some .rejecting then
    modDock c.dock (fun x => { x with phase := some .ejectOpen, window := some (startWindow s) }) s
  else s

/-- The LOCK is the closing LOCK of the release in progress (R49). -/
def closesRelease (c : Cmd) (s : State) : Bool :=
  c.live && c.owner == .release && (s.dock c.dock).state == .releasing && (s.dock c.dock).phase == some .locking

/-- The LOCK is that of the ejection in progress (R57). -/
def closesEjection (c : Cmd) (s : State) : Bool :=
  c.live && c.owner == .release && (s.dock c.dock).state == .ejecting && (s.dock c.dock).phase == some .ejectLocking

/-- LOCKED_WITH for a LOCK (R49, R57, R142). -/
def lockedWithFor (c : Cmd) (T : Nat) (kind : BikeKind) (s : State) : State :=
  if c.owner = .patrol then compareLock c.dock (some { tag := T, kind := kind, closed := true }) s
  else if closesRelease c s then
    if T = 0 ∨ recordedId (s.dock c.dock) = some T then lapse c.dock s else arrive c.dock T kind (pull c.dock s)
  else if closesEjection c s then arrive c.dock T kind s
  else if T = 0 then s else arrive c.dock T kind s

/-- LOCKED_EMPTY for a LOCK (R49, R57, R142). -/
def lockedEmptyFor (c : Cmd) (s : State) : State :=
  if c.owner = .patrol then compareLock c.dock none s
  else if closesRelease c s then pull c.dock s
  else if closesEjection c s then becomeVacant c.dock (endOperation c.dock s)
  else s

/-- STATUS_IS for a re-read of the identification in progress (R60). -/
def rereadReply (d : Nat) (found : Option Found) (s : State) : State :=
  match found with
  | none => becomeVacant d (endOperation d s)
  | some f => if f.tag = 0 then rereadUnread d s else identified d f.tag f.kind s

/-- The STATUS is a re-read of the identification in progress (R59, R60). -/
def ownReread (c : Cmd) (s : State) : Bool := c.owner == .release && c.live && (s.dock c.dock).state == .latching

/-- STATUS_IS for a STATUS: an audit's or the patrol's, a re-read, or a late re-read handed on (R60, R141). -/
def statusFor (c : Cmd) (found : Option Found) (s : State) : State :=
  if c.owner = .patrol then patrolStatusReply c.dock found s
  else if ownReread c s then rereadReply c.dock found s
  else (compare c.dock found s).1

/-- SENSE_STARTED for a SENSE_START (R151). -/
def senseStartedAt (d : Nat) (s : State) : State :=
  match (s.dock d).bike with
  | some b =>
    if b.kind = .electric ∧ b.sense = none then modDock d (fun k => { k with bike := some { b with sense := some 0 } }) s
    else s
  | none => s

/-- SENSE_DONE of a level, 0 to 100 (R151). -/
def senseDoneAt (d level : Nat) (s : State) : State :=
  match (s.dock d).bike with
  | some b =>
    if b.sense.isSome then
      let s1 := modDock d (fun k => { k with bike := some { b with charge := some { level := level, minute := s.now },
                                                                    sense := none } }) s
      match b.id with
      | some i => if level < s.settings.batteryFloor then reportBike i .batteryPoor false s1 else s1
      | none => s1
    else s
  | none => s

/-! ## NO_REPLY -/

/-- What the owner of a silent command does (R51, R52, R57, R60, R142, R143, R148, R150). -/
def noReplyFor (c : Cmd) (s : State) : State :=
  let k := s.dock c.dock
  match c.owner, c.kind with
  | .patrol, .status => patrolStatusSilent c.dock s
  | .release, .unlatch =>
    if c.live ∧ k.state = .releasing ∧ k.phase = some .unlatching then closeWith .locking c.dock s else s
  | .release, .lock =>
    if closesRelease c s then closingLockSilent c.dock s
    else if closesEjection c s then becomeVacant c.dock (endOperation c.dock s)
    else s
  | .release, .reject =>
    if c.live ∧ k.state = .ejecting ∧ k.phase = some .rejecting then becomeVacant c.dock (endOperation c.dock s) else s
  | .release, .status => if ownReread c s then rereadUnread c.dock s else s
  | _, _ => s

/-! ## The meanings of the rows -/

/-- DOCK_ATTENTION_LOW (R25). -/
def onDockAttentionLow (s : State) : State := pollIfLow (sampleWire true s)

/-- DOCK_COMMAND_SENT: the response timer counts from the last byte of the command (R35). -/
def onDockCommandSent (s : State) : State :=
  modBus (fun b => { b with inFlight := b.inFlight.map fun f => { f with ticks := f.ticks.orElse fun _ => some 0 } }) s

/-- The end of an EVENT_POLL with NO_EVENT or with no reply: the holdoff mark is set (R25, R26). -/
def pollEnded (s : State) : State := moveOn (modBus (fun b => { b with holdoff := true }) (endExchange s))

/-- The command in flight has reached its response timeout: steps 1 to 5 of R37. -/
def timedOutOnBus (f : InFlight) (s : State) : State :=
  match f.what with
  | .poll => pollEnded s
  | .command c => moveOn (reportDock c.dock .dockSilent (c.kind == .lock) (noReplyFor c (endExchange s)))

/-- DOCK_RESPONSE_TIMEOUT (R37); nothing if the response timer has not expired. -/
def onDockResponseTimeout (s : State) : State :=
  match s.bus.inFlight with
  | some f => if responseDue f then timedOutOnBus f s else s
  | none => s

/-- DOCK_FRAME_IGNORED: a complete frame that fails a condition of R21 ends nothing. -/
def onDockFrameIgnored (bytes : List Byte) (low : Bool) (s : State) : State :=
  if frameAccepted bytes s then s else sampleWire low (ignoreFrame s)

/-- DOCK_FRAME_KIND_DISCARDED: a kind byte that is no reply kind discards the frame (R21); nothing is taken in while the
part drives the bus (R19). -/
def onDockFrameKindDiscarded (dock kind : Byte) (s : State) : State :=
  if (replyFrameLength kind).isSome || driverEnable s then s
  else modBus (fun b => { b with partialFrame := afterKindDiscarded dock kind }) s

/-- OPENED (R46, R57); ignored when it is no reply to the command in flight (R21). -/
def onOpened (dock : Byte) (s : State) : State :=
  match acceptedBy dock DockReply.opened.code s with
  | some c => replied (openedFor c) s
  | none => ignoreFrame s

/-- LOCKED_WITH (R49, R57, R142). -/
def onLockedWith (dock : Byte) (tag : BitVec 24) (kind : Byte) (s : State) : State :=
  match acceptedBy dock (DockReply.lockedWith tag kind).code s with
  | some c => replied (lockedWithFor c tag.toNat (byteKind kind)) s
  | none => ignoreFrame s

/-- LOCKED_EMPTY (R49, R57, R142). -/
def onLockedEmpty (dock : Byte) (s : State) : State :=
  match acceptedBy dock DockReply.lockedEmpty.code s with
  | some c => replied (lockedEmptyFor c) s
  | none => ignoreFrame s

/-- STATUS_IS (R60, R141, R146, R148). -/
def onStatusIs (dock : Byte) (tag : BitVec 24) (flags : Byte) (s : State) : State :=
  match acceptedBy dock (DockReply.statusIs tag flags).code s with
  | some c => replied (statusFor c (statusFound tag flags)) s
  | none => ignoreFrame s

/-- SENSE_STARTED (R151). -/
def onSenseStarted (dock : Byte) (s : State) : State :=
  match acceptedBy dock DockReply.senseStarted.code s with
  | some c => replied (senseStartedAt c.dock) s
  | none => ignoreFrame s

/-- NO_EVENT, whose dock number is 0xFF (R20, R25). -/
def onNoEvent (dock : Byte) (s : State) : State :=
  if pollInFlight s && dock == 0xFF#8 then pollEnded s else ignoreFrame s

/-- An EVENT_IS reply: accepted, the poll ends, another is placed if the wire is low at that moment, and the event is
handed on (R25, R26, R36); otherwise the frame is ignored (R21). -/
def eventIs (dock : Byte) (low : Bool) (act : Nat → State → State) (s : State) : State :=
  if eventAccepted dock s then moveOn (act dock.toNat (pollIfLow (sampleWire low (endExchange s))))
  else sampleWire low (ignoreFrame s)

/-- INSERTED (R54). -/
def onInserted (dock : Byte) (tag : BitVec 24) (kind : Byte) (low : Bool) (s : State) : State :=
  eventIs dock low (fun d => arrive d tag.toNat (byteKind kind)) s

/-- REMOVED (R53, R57, R60, R61, R62). -/
def onRemoved (dock : Byte) (low : Bool) (s : State) : State := eventIs dock low bikeRemoved s

/-- LOCK_FAULT (R53, R60, R62). -/
def onLockFault (dock : Byte) (low : Bool) (s : State) : State := eventIs dock low lockFaulted s

/-- SENSE_DONE, a level above 100 passed as 100 (R26, R151). -/
def onSenseDone (dock : Byte) (level : Byte) (low : Bool) (s : State) : State :=
  eventIs dock low (fun d => senseDoneAt d (min level.toNat 100)) s

end Sys2Proof.Machine
end

