-- ==== Sys2Proof/Machine/BatchRequests.lean ====
section
/-! DEFINITION. The batch requests: BATCH_OPEN with its reservations, van holds and target selection (R104, R105, R107,
R108), BATCH_TAKE (R112), BATCH_CLOSE (R116), BATCH_READ (R120). -/

namespace Sys2Proof.Machine

/-! ## Opening -/

/-- The fields of BATCH_OPEN (R104, R170). -/
structure BatchFields where
  kind   : Nat
  crew   : Nat
  target : Nat
  count  : Nat
  bikes  : List Nat
  deriving DecidableEq, Repr

/-- The fields of a BATCH_OPEN frame (R170). -/
def batchFields (fields : List Byte) : BatchFields where
  kind := numAt fields 0 1
  crew := numAt fields 1 2
  target := numAt fields 3 1
  count := numAt fields 4 1
  bikes := batchBikes fields

/-- Checks 3 and 4 of R104. -/
def BatchFields.good (f : BatchFields) : Bool :=
  f.kind ≤ 1 && 1 ≤ f.crew && f.crew ≤ 9999 && f.count ≤ 16 && f.bikes.all (· != 0) && decide f.bikes.Nodup &&
    (if f.kind = 1 then 1 ≤ f.count && f.target == 0
     else (1 ≤ f.count && f.target == 0) || (f.count == 0 && 1 ≤ f.target && f.target ≤ 16))

/-- The record that BATCH_OPEN makes; the idle timer is started next (R104). -/
def BatchFields.record (f : BatchFields) (now : Nat) : Batch where
  kind := if f.kind = 1 then .deliver else .collect
  crew := f.crew
  opened := now
  manifest := f.bikes.map fun b => { bike := b, done := false }
  target := f.target
  done := 0
  idle := 0
  expiryWaiting := false

/-- A van hold placed at dock `d` (R107, R108). -/
def holdDock (d : Nat) (s : State) : State := modDock d (fun k => { k with vanHold := true }) s

/-- The docks at which a COLLECT manifest places van holds (R107). -/
def manifestDocks (bikes : List Nat) (s : State) : List Nat :=
  s.installedDocks.filter fun d =>
    (s.dock d).state == .held && (effective d s).cls != .closed && bikes.any fun b => recordedId (s.dock d) == some b

/-- Group 1 of the selection: RETIRED docks with a stranded bike, not CLOSED (R108). -/
def strandedDocks (s : State) : List Nat :=
  s.installedDocks.filter fun d =>
    (s.dock d).state == .retired && (s.dock d).bike.isSome && (effective d s).cls != .closed

/-- A HELD dock that the selection may pick: not CLOSED (R108). -/
def pickable (d : Nat) (s : State) : Bool := (s.dock d).state == .held && (effective d s).cls != .closed

/-- The dock's bike is quarantined or unidentified (R108, group 2). -/
def doubtful (d : Nat) (s : State) : Bool := quarantined (s.dock d) s || (recordedId (s.dock d)).isNone

/-- Group 2 of the selection (R108). -/
def doubtfulDocks (s : State) : List Nat := s.installedDocks.filter fun d => pickable d s && doubtful d s

/-- The order of group 3: docked-since minute, then dock number (R108). -/
def standsLonger (s : State) (a b : Nat) : Bool :=
  ((s.dock a).bike.map Bike.dockedSince).getD 0 < ((s.dock b).bike.map Bike.dockedSince).getD 0 ||
    (((s.dock a).bike.map Bike.dockedSince).getD 0 == ((s.dock b).bike.map Bike.dockedSince).getD 0 && a ≤ b)

/-- Group 3 of the selection in its order (R108). -/
def otherDocks (s : State) : List Nat :=
  sortBy (standsLonger s) (s.installedDocks.filter fun d => pickable d s && !doubtful d s)

/-- The picks of group 3: `left` picks may still be made and `h` hireable docks are left; the selection stops at a
HIREABLE dock that min keep protects (R108). -/
def pickOthers (s : State) : List Nat → Nat → Nat → List Nat
  | [], _, _ => []
  | d :: rest, left, h =>
    if left = 0 then []
    else if verdict d s = .hireable then
      if s.settings.minKeep + 1 ≤ h then d :: pickOthers s rest (left - 1) (h - 1) else []
    else d :: pickOthers s rest (left - 1) h

/-- The number of installed docks whose verdict is HIREABLE (R108). -/
def hireableCount (s : State) : Nat := countDocks (fun d => verdict d s == .hireable) s

/-- The van holds and the stranded docks that a COLLECT target picks (R108). -/
def selection (target : Nat) (s : State) : List Nat × List Nat :=
  let g1 := (strandedDocks s).take target
  let g2 := (doubtfulDocks s).take (target - g1.length)
  let g3 := pickOthers s (otherDocks s) (target - g1.length - g2.length) (hireableCount s)
  (g2 ++ g3, g1)

/-- The opening work of the batch and the three counts of the reply: docks reserved, van holds placed, stranded docks
counted (R104, R105, R107, R108). -/
def openingWork (f : BatchFields) (s : State) : State × List ReplyField :=
  if f.kind = 1 then
    let s1 := topUp s
    (s1, [byteField (reservedDocks s1).length, byteField 0, byteField 0])
  else if f.target = 0 then
    let docks := manifestDocks f.bikes s
    (docks.foldl (fun t d => holdDock d t) s, [byteField 0, byteField docks.length, byteField 0])
  else
    let (docks, stranded) := selection f.target s
    (docks.foldl (fun t d => holdDock d t) s, [byteField 0, byteField docks.length, byteField stranded.length])

/-- BATCH_OPEN, checks 2 to 4 and the opening (R104). A batch already open has its idle timer restarted (R117). -/
def batchOpen (fields : List Byte) (_p : Port) (s : State) : Answer :=
  let f := batchFields fields
  if s.batch.isSome then refuse .batchOpen (restartIdle s)
  else if !f.good then refuse .refusedRange s
  else
    let (s1, counts) := openingWork f (restartIdle { s with batch := some (f.record s.now) })
    (s1, .ok, counts)

/-! ## Taking a bike -/

/-- The dock of a BATCH_TAKE: the one named, or the lowest-numbered takeable one for 255 (R112, checks 3 and 4). -/
def takeStep (dock : Nat) (s : State) : Nat ⊕ Result :=
  if dock = 255 then
    match s.installedDocks.find? (fun d => takeable d s) with
    | some d => .inl d
    | none => .inr .dockNotReady
  else if s.installed ≤ dock then .inr .noDock
  else if takeable dock s then .inl dock
  else .inr .dockNotReady

/-- The dock begins to release for the batch; one taken from RETIRED has retire pending (R112). -/
def beginBatchRelease (d : Nat) (s : State) : State :=
  beginRelease d .batch (modDock d (fun k => if k.state = .retired then { k with retirePending := true } else k) s)

/-- BATCH_TAKE, checks 2 to 5 and the release (R112). Any batch request restarts the idle timer (R117). -/
def batchTake (fields : List Byte) (_p : Port) (s : State) : Answer :=
  if s.batch.isNone then refuse .noBatch s
  else
    let s1 := restartIdle s
    match takeStep (numAt fields 0 1) s1 with
    | .inr r => refuse r s1
    | .inl d =>
      match placeUnlatch d s1 with
      | none => refuse .busBusy s1
      | some s2 => (beginBatchRelease d s2, .ok, [byteField d])

/-! ## Closing and reading -/

/-- BATCH_CLOSE (R116). -/
def batchClose (_fields : List Byte) (_p : Port) (s : State) : Answer :=
  match s.batch with
  | none => refuse .noBatch s
  | some b =>
    let s1 := restartIdle s
    if batchReleases s1 = [] then (endBatch .closed s1, .ok, [byteField b.done, byteField b.pendingCount])
    else refuse .batchInFlight s1

/-- The reply fields of BATCH_READ (R120). -/
def batchReadFields (b : Batch) (s : State) : List ReplyField :=
  [byteField b.kind.code, wordField b.crew, longField b.opened, byteField b.target, byteField b.done,
   byteField b.pendingCount, byteField (reservedDocks s).length, byteField (vanHoldDocks s).length,
   byteField (batchReleases s).length, wordField b.idle, yesField b.expiryWaiting, byteField b.manifest.length] ++
  b.manifest.flatMap fun m => [bikeField m.bike, yesField m.done]

/-- BATCH_READ: the values before the restart it makes (R120, R117). -/
def batchRead (_fields : List Byte) (_p : Port) (s : State) : Answer :=
  match s.batch with
  | none => refuse .noBatch s
  | some b => (restartIdle s, .ok, batchReadFields b s)

end Sys2Proof.Machine
end

