-- ==== Sys2Proof/Machine/HireRequests.lean ====
section
/-! DEFINITION. The requests on hires: HIRE_START with its dock and card steps (R40 to R43, R70, R71), HIRE_QUERY (R97),
HIRE_READ (R98), HIRE_CLOSE_REMOTE (R99), HIRE_RESTORE (R100, R101) and TARIFF_SET (R91). -/

namespace Sys2Proof.Machine

/-! ## The dock step -/

/-- The dock step for a named dock: none is the pass (R41). -/
def namedDock (d : Nat) (wanted : BikeKind) (s : State) : Option Result :=
  if s.installed ≤ d then some .noDock
  else match verdict d s with
    | .vanHold => some .dockHeldVan
    | .notPermitted => some .notPermitted
    | .lowCharge => some .lowCharge
    | .notReady => some .dockNotReady
    | .hireable => if kindAt d wanted s then none else some .dockNotReady

/-- The docks that "any" considers (R42). -/
def candidates (wanted : BikeKind) (s : State) : List Nat :=
  s.installedDocks.filter fun d => verdict d s == .hireable && kindAt d wanted s

/-- The docked-since minute of the bike at a dock. -/
def sinceAt (d : Nat) (s : State) : Nat := ((s.dock d).bike.map Bike.dockedSince).getD 0

/-- Dock `a` is preferred to `b`: the smaller docked-since minute for STANDARD, the higher charge level, absent as 0, for
ELECTRIC, and then the lower number (R42). -/
def preferred (wanted : BikeKind) (s : State) (a b : Nat) : Bool :=
  match wanted with
  | .standard => sinceAt a s < sinceAt b s || (sinceAt a s == sinceAt b s && a < b)
  | .electric =>
    let la := (s.dock a).level.getD 0
    let lb := (s.dock b).level.getD 0
    lb < la || (la == lb && a < b)

/-- The dock step (R41, R42): the dock, or the refusal. -/
def dockStep (dock : Nat) (wanted : BikeKind) (s : State) : Nat ⊕ Result :=
  if dock = 255 then
    match bestBy (preferred wanted s) (candidates wanted s) with
    | some d => .inl d
    | none => .inr .noBike
  else match namedDock dock wanted s with
    | none => .inl dock
    | some r => .inr r

/-! ## The card step -/

/-- What the card step answers (R70, R71). -/
inductive CardStep where
  | refused (r : Result)
  | pending
  | pass (c : Card)
  deriving DecidableEq, Repr

/-- The card step (R70, R71). -/
def cardStep (id : Nat) (wanted : BikeKind) (s : State) : CardStep :=
  match findCard id s with
  | some c => match cardCheck c wanted s with
    | some r => .refused r
    | none => .pass c
  | none =>
    if s.link = .offline then .refused .offline
    else if Config.authPlaces ≤ s.authQueue.length then .refused .authBusy
    else if s.authQueue.any (fun e => e.card == id) then .refused .authBusy
    else .pending

/-- The auth tag that an allocation takes (R76). -/
def freeAuthTag (s : State) : Nat := firstFree 255 (s.authQueue.map AuthEntry.tag) s.authQueue.length s.lastTag

/-- The pending authorization of R71: an Auth Queue entry is made, the dock becomes CLAIMED, AUTH_NEEDED is raised. -/
def claimDock (card d : Nat) (wanted : BikeKind) (s : State) : State :=
  let tag := freeAuthTag s
  let e : AuthEntry :=
    { tag := tag, card := card, dock := d, wanted := wanted, remaining := s.settings.authTimeout, timedOut := false }
  raise (.authNeeded (s.authQueue.length + 1))
    (modDock d (fun k => { k with state := .claimed })
      { s with authQueue := s.authQueue ++ [e], lastTag := tag })

/-! ## Acceptance -/

/-- Steps 7 and 8 of R40 for a card that has passed: the UNLATCH is placed and the hire accepted, or BUS_BUSY (R43). -/
def startHire (c : Card) (d : Nat) (s : State) : State × Option Nat :=
  match (s.dock d).bike with
  | none => (s, none)
  | some b =>
    match placeUnlatch d s with
    | none => (s, none)
    | some s1 => (acceptHire c (b.id.getD 0) b.kind d s1, some (freeHireNumber s1))

/-- HIRE_START, steps 2 to 8 (R40). -/
def hireStart (fields : List Byte) (_p : Port) (s : State) : Answer :=
  let card := numAt fields 0 7
  let kind := numAt fields 7 1
  let dock := numAt fields 8 1
  let no (r : Result) : Answer := (s, r, [wordField 0, byteField dock])
  if 1 < kind ∨ card = 0 then no .refusedRange
  else if s.journal.held then no .journalHeld
  else if Config.hirePlaces ≤ s.hires.length then no .registerFull
  else
    match dockStep dock (fieldKind kind) s with
    | .inr r => no r
    | .inl d =>
      match cardStep card (fieldKind kind) s with
      | .refused r => no r
      | .pending => (claimDock card d (fieldKind kind) s, .pending, [byteField (freeAuthTag s), byteField d])
      | .pass c =>
        match startHire c d s with
        | (s1, some h) => (s1, .ok, [wordField h, byteField d])
        | (_, none) => no .busBusy

/-- The resumed hire of a grant: its result, and the hire number on acceptance (R44, steps 1 to 5). The grant has just
installed the card, so its card step is never the one of an absent card. -/
def resumeHire (card d : Nat) (wanted : BikeKind) (s : State) : State × Result × Nat :=
  match namedDock d wanted s with
  | some r => (s, r, 0)
  | none =>
    match cardStep card wanted s with
    | .refused r => (s, r, 0)
    | .pending => (s, .offline, 0)
    | .pass c =>
      if Config.hirePlaces ≤ s.hires.length then (s, .registerFull, 0)
      else match startHire c d s with
        | (s1, some h) => (s1, .ok, h)
        | (_, none) => (s, .busBusy, 0)

/-! ## Reading a hire -/

/-- HIRE_QUERY (R97). -/
def hireQuery (fields : List Byte) (_p : Port) (s : State) : Answer :=
  match findHire (numAt fields 0 2) s with
  | none => refuse .notFound s
  | some r =>
    if r.state = .starting then refuse .hireNotOut s
    else (s, .ok, [wordField r.number, byteField r.state.code, longField (r.start.getD 0), bikeField r.bike,
                   longField (hireDuration r s.now), moneyField (hireCharge r s.now)])

/-- The reply fields of HIRE_READ, in the order of R83 (R98). -/
def hireFields (r : Hire) : List ReplyField :=
  [wordField r.number, byteField r.state.code, cardField r.card, byteField r.policyIndex, bikeField r.bike,
   byteField r.kind.code] ++ optionField 1 r.dockFrom ++ optionField 4 r.start ++
  [wordField r.holdAmount, byteField r.origin.code, byteField r.terms.a, byteField r.terms.b, wordField r.terms.p,
   wordField r.terms.q, wordField r.terms.c, byteField r.terms.discount, wordField r.terms.maxDuration]

/-- HIRE_READ (R98). -/
def hireRead (fields : List Byte) (_p : Port) (s : State) : Answer :=
  match findHire (numAt fields 0 2) s with
  | none => refuse .notFound s
  | some r => (s, .ok, hireFields r)

/-! ## Remote close -/

/-- The end minute of a remote close, clamped into the range from the start to now (R93, R99). -/
def clampEnd (r : Hire) (endMinute now : Nat) : Nat := max (r.start.getD 0) (min endMinute now)

/-- HIRE_CLOSE_REMOTE, checks 2 to 4 and the close (R99). -/
def hireCloseRemote (fields : List Byte) (_p : Port) (s : State) : Answer :=
  let station := numAt fields 6 2
  if station = 0 then refuse .refusedRange s
  else
    match findHire (numAt fields 0 2) s with
    | none => refuse .notFound s
    | some r =>
      if r.state = .starting then refuse .hireNotOut s
      else
        let e := clampEnd r (numAt fields 2 4) s.now
        let s1 := closeHire r e (.remote station) s
        (s1, .ok, [wordField r.number, longField (hireDuration r e), moneyField (hireCharge r e),
                   moneyField (balanceOf r.card s1)])

/-! ## Restoring -/

/-- The terms lie in their ranges, in the order of R83: A, B, P, Q, C, d, max duration (R83, R90, R68). -/
def termChecks (t : Terms) : List Bool :=
  [t.a ≤ 240, 1 ≤ t.b && t.b ≤ 120, t.p ≤ 2000, t.q ≤ 1000, t.c ≤ 50000, t.discount ≤ 90,
   30 ≤ t.maxDuration && t.maxDuration ≤ 2880]

/-- The fields of HIRE_RESTORE (R100, R170). -/
structure Restore where
  hire  : Nat
  card  : Nat
  bike  : Nat
  kind  : Nat
  start : Nat
  hold  : Nat
  terms : Terms
  deriving DecidableEq, Repr

/-- The fields of a HIRE_RESTORE frame (R170). -/
def restoreFields (fields : List Byte) : Restore where
  hire := numAt fields 0 2
  card := numAt fields 2 7
  bike := numAt fields 9 3
  kind := numAt fields 12 1
  start := numAt fields 13 4
  hold := numAt fields 17 2
  terms := restoreTerms fields

/-- Step 1 of R100, field by field in the order the request carries them. -/
def restoreChecks (f : Restore) : List Bool :=
  [f.hire != 0, f.card != 0, f.bike != 0, f.kind ≤ 1, true, f.hold ≤ 20000] ++ termChecks f.terms

/-- The bike id stands in a dock record (R100, step 6). -/
def bikeDocked (b : Nat) (s : State) : Bool := s.installedDocks.any fun d => recordedId (s.dock d) == some b

/-- The refusal of a HIRE_RESTORE by the checks of R100 in order, with the fields it carries; none is the pass. -/
def restoreRefusal (f : Restore) (s : State) : Option (Result × List ReplyField) :=
  match firstBad (restoreChecks f) with
  | some i => some (.refusedRange, [byteField 1, byteField i])
  | none =>
    if s.now < f.start then some (.refusedRange, [byteField 2])
    else if (findHire f.hire s).isSome then some (.refusedRange, [byteField 3])
    else if s.hires.any (fun r => r.bike == f.bike) then some (.refusedRange, [byteField 4])
    else match findCard f.card s with
      | none => some (.notFound, [])
      | some c =>
        if bikeDocked f.bike s then some (.bikeDocked, [])
        else if Config.hirePlaces ≤ s.hires.length then some (.registerFull, [])
        else if 4 ≤ c.openCount then some (.cardLimit, [])
        else none

/-- The record that HIRE_RESTORE enters (R101). -/
def restoredHire (f : Restore) (policyIndex : Nat) : Hire where
  number := f.hire
  state := .out
  card := f.card
  policyIndex := policyIndex
  bike := f.bike
  kind := fieldKind f.kind
  dockFrom := none
  start := some f.start
  holdAmount := f.hold
  origin := .restored
  terms := f.terms

/-- The policy index of a card in the table (R63). -/
def policyIndexOf (id : Nat) (s : State) : Nat :=
  match findCard id s with
  | some c => c.policyIndex
  | none => 0

/-- HIRE_RESTORE (R100, R101). -/
def hireRestore (fields : List Byte) (_p : Port) (s : State) : Answer :=
  let f := restoreFields fields
  match restoreRefusal f s with
  | some (r, reply) => (s, r, reply)
  | none =>
    let r := restoredHire f (policyIndexOf f.card s)
    let s1 := placeHold f.card f.hold s
    let s2 := { s1 with hires := s1.hires ++ [r], lastHire := max s1.lastHire f.hire }
    if overdueNow s2 r then (makeOverdue r s2, .ok, [wordField f.hire, byteField HireState.overdue.code])
    else (s2, .ok, [wordField f.hire, byteField HireState.out.code])

/-! ## The Tariff Table -/

/-- The range checks of TARIFF_SET in the order of R90, the tariff number before all others (R91). -/
def tariffChecks (number : Nat) (t : Tariff) : List Bool :=
  [number ≤ 3, t.a ≤ 240, 1 ≤ t.b && t.b ≤ 120, t.p ≤ 2000, t.q ≤ 1000, t.c ≤ 50000]

/-- The tariff entry that TARIFF_SET carries (R170). -/
def tariffFields (fields : List Byte) : Tariff where
  a := numAt fields 1 1
  b := numAt fields 2 1
  p := numAt fields 3 2
  q := numAt fields 5 2
  c := numAt fields 7 2

/-- TARIFF_SET (R91). -/
def tariffSet (fields : List Byte) (_p : Port) (s : State) : Answer :=
  let number := numAt fields 0 1
  let t := tariffFields fields
  match firstBad (tariffChecks number t) with
  | some i => (s, .refusedRange, [byteField i])
  | none => ({ s with tariffs := s.tariffs.setIfInBounds number t }, .ok, [])

end Sys2Proof.Machine
end

