-- ==== Sys2Proof/Machine/CardRequests.lean ====
section
/-! DEFINITION. The requests on cards, policies and authorizations: CARD_SET (R64), CARD_REMOVE (R66), CARD_READ (R67),
POLICY_SET (R69), AUTH_LIST (R82), AUTH_GRANT (R79), AUTH_DENY (R80), LINK_STATE (R81). -/

namespace Sys2Proof.Machine

/-- The position, from 1, of the first card setting that R64 step 2 refuses. -/
def badCardSetting (cards : List CardSetting) : Option Nat :=
  (firstBad (cards.map fun c => c.card != 0 && c.flagsGood)).map (· + 1)

/-- CARD_SET (R64). -/
def cardSet (fields : List Byte) (_p : Port) (s : State) : Answer :=
  let count := numAt fields 0 1
  if count = 0 ∨ 8 < count then refuse .refusedRange s
  else
    match badCardSetting (cardSettings fields) with
    | some i => (s, .refusedRange, [byteField i])
    | none =>
      let (s1, t) := writeCards (cardSettings fields) { made := 0, replaced := 0, evicted := [], written := [] } s
      (s1, .ok, [byteField t.made, byteField t.replaced, byteField t.evicted.length] ++ t.evicted.map cardField)

/-- CARD_REMOVE (R66). -/
def cardRemove (fields : List Byte) (_p : Port) (s : State) : Answer :=
  let id := numAt fields 0 7
  match findCard id s with
  | none => refuse .notFound s
  | some c =>
    if 0 < c.openCount then refuse .cardInUse s
    else ({ s with cards := s.cards.filter fun x => x.id != id }, .ok, [])

/-- The reply fields of CARD_READ, in the order of R63 (R67). -/
def cardFields (c : Card) : List ReplyField :=
  [cardField c.id, yesField c.subscriber, yesField c.concession, yesField c.deposit, byteField c.standing.code,
   moneyField c.balance, moneyField c.held, byteField c.openCount, longField c.lastUse, moneyField c.available,
   byteField c.policyIndex]

/-- CARD_READ (R67). -/
def cardRead (fields : List Byte) (_p : Port) (s : State) : Answer :=
  match findCard (numAt fields 0 7) s with
  | none => refuse .notFound s
  | some c => (s, .ok, cardFields c)

/-! ## The Policy Table -/

/-- The policy entry that POLICY_SET carries (R170). -/
def policyFields (fields : List Byte) : Policy where
  tariff := numAt fields 1 1
  holdAmount := numAt fields 2 2
  maxHires := numAt fields 4 1
  electricPermitted := fieldBool (numAt fields 5 1)
  discount := numAt fields 6 1
  maxDuration := numAt fields 7 2

/-- The range checks of POLICY_SET in the order of R68, the index before all others; electric permitted is 0 or 1
(R69). -/
def policyChecks (index electric : Nat) (p : Policy) : List Bool :=
  [index ≤ 7, p.tariff ≤ 3, p.holdAmount ≤ 20000, p.maxHires ≤ 4, electric ≤ 1, p.discount ≤ 90,
   30 ≤ p.maxDuration && p.maxDuration ≤ 2880]

/-- POLICY_SET (R69). -/
def policySet (fields : List Byte) (_p : Port) (s : State) : Answer :=
  let index := numAt fields 0 1
  let entry := policyFields fields
  match firstBad (policyChecks index (numAt fields 5 1) entry) with
  | some i => (s, .refusedRange, [byteField i])
  | none => ({ s with policies := s.policies.setIfInBounds index entry }, .ok, [])

/-! ## The Auth Queue -/

/-- The reply fields of one Auth Queue entry (R82). -/
def authFields (e : AuthEntry) : List ReplyField :=
  [byteField e.tag, cardField e.card, byteField e.dock, byteField e.wanted.code, byteField e.remaining]

/-- AUTH_LIST (R82). -/
def authList (_fields : List Byte) (_p : Port) (s : State) : Answer :=
  (s, .ok, byteField s.authQueue.length :: s.authQueue.flatMap authFields)

/-- The card that a grant installs (R79). -/
def grantCard (fields : List Byte) (card : Nat) : CardSetting where
  card := card
  subscriber := numAt fields 1 1
  concession := numAt fields 2 1
  deposit := numAt fields 3 1
  standing := numAt fields 4 1
  balance := signed 4 (numAt fields 5 4)

/-- Steps 1 to 3 of a grant: the card installed, the entry removed, the dock out of CLAIMED; and the card evicted
(R79). -/
def installGrant (c : CardSetting) (e : AuthEntry) (s : State) : State × Option Nat :=
  let (s1, _, evicted) := writeCard [] c s
  (becomeHeld e.dock (dropAuth e.tag s1), evicted)

/-- AUTH_GRANT (R79, R44). -/
def authGrant (fields : List Byte) (_p : Port) (s : State) : Answer :=
  let tag := numAt fields 0 1
  if !(grantCard fields 0).flagsGood then refuse .refusedRange s
  else
    match findAuth tag s with
    | none => refuse .notFound s
    | some e =>
      let (s1, evicted) := installGrant (grantCard fields e.card) e s
      let (s2, r, h) := resumeHire e.card e.dock e.wanted s1
      (raise (.authDone tag r) s2, .ok,
        [byteField tag, byteField r.code, wordField h] ++ optionField 7 evicted)

/-- AUTH_DENY (R80). -/
def authDeny (fields : List Byte) (_p : Port) (s : State) : Answer :=
  match findAuth (numAt fields 0 1) s with
  | none => refuse .notFound s
  | some e => (endAuth e .cardBlocked s, .ok, [])

/-- Every authorization ends with the result OFFLINE, oldest first (R81). -/
def endAllAuths (s : State) : State := s.authQueue.foldl (fun t e => endAuth e .offline t) s

/-- LINK_STATE (R81). -/
def linkState (fields : List Byte) (_p : Port) (s : State) : Answer :=
  let v := numAt fields 0 1
  if 1 < v then refuse .refusedRange s
  else if v = 1 then ({ s with link := .online }, .ok, [])
  else if s.link = .online then (endAllAuths { s with link := .offline }, .ok, [])
  else (s, .ok, [])

end Sys2Proof.Machine
end

