-- ==== Sys2Proof/Machine/FaultRequests.lean ====
section
/-! DEFINITION. The requests on the Fault Unit: REPORT_FAULT (R122), DOCK_RESTORE (R131), BIKE_CLEAR (R136). -/

namespace Sys2Proof.Machine

/-- The category of a code (R121). -/
def categoryOf (code : Nat) : Option Category :=
  match code with
  | 0 => some .lockFault
  | 1 => some .dockSilent
  | 2 => some .tagUnreadable
  | 3 => some .auditMismatch
  | 4 => some .riderDock
  | 5 => some .crewDock
  | 6 => some .riderBrakes
  | 7 => some .riderTyre
  | 8 => some .riderOther
  | 9 => some .crewBike
  | 10 => some .batteryPoor
  | _ => none

/-- The category's target is a bike (R121). -/
def Category.ofBike : Category → Bool
  | .riderBrakes | .riderTyre | .riderOther | .crewBike | .batteryPoor => true
  | .lockFault | .dockSilent | .tagUnreadable | .auditMismatch | .riderDock | .crewDock => false

/-- The severity of a category in a REPORT_FAULT (R121). -/
def Category.severe : Category → Bool
  | .lockFault | .crewDock | .riderBrakes | .crewBike => true
  | .dockSilent | .tagUnreadable | .auditMismatch | .riderDock | .riderTyre | .riderOther | .batteryPoor => false

/-- The category is one the port may make (R122, check 3). -/
def Category.madeOn (c : Category) (p : Port) : Bool :=
  match p, c with
  | .terminal, .riderDock | .terminal, .riderBrakes | .terminal, .riderTyre | .terminal, .riderOther => true
  | .service, .crewDock | .service, .crewBike => true
  | _, _ => false

/-- A dock category of REPORT_FAULT, check 4 and the report (R122). -/
def reportDockFault (c : Category) (d : Nat) (s : State) : Answer :=
  if s.installed ≤ d then refuse .noDock s
  else
    let s1 := reportDock d c c.severe s
    (s1, .ok, [byteField c.code, bikeField d, byteField (s1.dock d).faultCount, byteField (s1.dock d).state.code,
               yesField (s1.dock d).retirePending])

/-- A bike category of REPORT_FAULT, checks 4 and 5 and the report (R122, R123). -/
def reportBikeFault (c : Category) (b : Nat) (s : State) : Answer :=
  if b = 0 then refuse .refusedRange s
  else if !masked c s && !recordable b s then refuse .notRecorded s
  else
    let s1 := reportBike b c c.severe s
    (s1, .ok, [byteField c.code, bikeField b, byteField (bikeCount b s1), yesField (quarantinedId b s1)])

/-- REPORT_FAULT, checks 2 to 5 and the report (R122). -/
def reportFault (fields : List Byte) (p : Port) (s : State) : Answer :=
  let target := numAt fields 1 3
  match categoryOf (numAt fields 0 1) with
  | none => refuse .refusedRange s
  | some c =>
    if !c.madeOn p then refuse .notPermitted s
    else if c.ofBike then reportBikeFault c target s
    else reportDockFault c target s

/-- The RETIRED dock is given back: its count 0, HELD with its stranded bike or VACANT (R131, R106, R107). -/
def restoreDock (d : Nat) (s : State) : State :=
  let s1 := modDock d (fun k => { k with faultCount := 0 }) s
  if (s1.dock d).bike.isSome then becomeHeld d s1 else becomeVacant d s1

/-- DOCK_RESTORE (R131). -/
def dockRestore (fields : List Byte) (_p : Port) (s : State) : Answer :=
  let d := numAt fields 0 1
  if s.installed ≤ d then refuse .noDock s
  else if (s.dock d).state ≠ .retired then refuse .dockNotReady s
  else
    let s1 := restoreDock d s
    (s1, .ok, [byteField (s1.dock d).state.code])

/-- BIKE_CLEAR (R136). -/
def bikeClear (fields : List Byte) (_p : Port) (s : State) : Answer :=
  let b := numAt fields 0 3
  if b = 0 then refuse .refusedRange s
  else
    match findBikeFault b s with
    | none => refuse .notFound s
    | some f => (dropBikeFault b s, .ok, [byteField f.count])

end Sys2Proof.Machine
end

