-- ==== Sys2Proof/Machine/Clock.lean ====
section
/-! DEFINITION. The expiries of the part's timers and the second tick that drives them (R183). A tick counts the clock,
minute and sub-count in one act, and marks what has come to its expiry; the expiry's own command acts on it, and at the
latest the next tick does (assumption log 1). -/

namespace Sys2Proof.Machine

/-- `s` with the marks of periodic expiries changed by `f`. -/
def modDue (f : Due → Due) (s : State) : State := { s with due := f s.due }

/-! ## The minute -/

/-- The coming tick completes a minute that the counter can still count (R183). -/
def minuteEnds (s : State) : Bool := 59 ≤ s.clock.second && s.clock.minute < Config.lastMinute

/-- The end of a minute, in one act: the sub-count becomes 0, the counter rises by 1, and the overdue check runs (R96,
R183). -/
def endMinute (s : State) : State := overdueCheck { s with clock := { minute := s.clock.minute + 1, second := 0 } }

/-- STATION_MINUTE_INCREASE: the act of the tick that completes the minute at the clock, taken before the rest of that
tick, which then leaves the clock alone (R96, R183; assumption log 1). -/
def onStationMinuteIncrease (s : State) : State :=
  if minuteEnds s then modDue (fun d => { d with minuteTaken := true }) (endMinute s) else s

/-! ## Windows, authorizations, the batch and senses -/

/-- The window timer of a dock has expired in phase `p`: the (w+1)-th tick has come (R45). -/
def windowDue (p : Phase) (k : Dock) : Bool :=
  k.phase == some p && (match k.window with
    | some w => w.limit + 1 ≤ w.ticks
    | none => false)

/-- RELEASE_WINDOW_EXPIRY (R47). -/
def onReleaseWindowExpiry (d : Nat) (s : State) : State :=
  if (s.dock d).state = .releasing ∧ windowDue .opened (s.dock d) then closeWith .locking d s else s

/-- EJECT_WINDOW_EXPIRY (R57). -/
def onEjectWindowExpiry (d : Nat) (s : State) : State :=
  if (s.dock d).state = .ejecting ∧ windowDue .ejectOpen (s.dock d) then closeWith .ejectLocking d s else s

/-- AUTH_TIMEOUT: the oldest entry whose remaining seconds a tick has found at 0 ends (R78). -/
def onAuthTimeout (s : State) : State :=
  match s.authQueue.find? (fun e => e.timedOut) with
  | some e => endAuth e .authTimeout s
  | none => s

/-- BATCH_IDLE_EXPIRY: the batch ends TIMED_OUT, or waits for its releases in flight (R118). -/
def onBatchIdleExpiry (s : State) : State :=
  if s.due.idle ∧ s.batch.isSome then
    let s1 := modDue (fun d => { d with idle := false }) s
    if batchReleases s = [] then endBatch .timedOut s1
    else modBatch (fun b => { b with expiryWaiting := true }) s1
  else s

/-- The sense timer of a dock has reached its 11th tick (R151). -/
def senseDue (k : Dock) : Bool :=
  match k.bike with
  | some b => match b.sense with
    | some n => Config.senseTicks ≤ n
    | none => false
  | none => false

/-- SENSE_TIMER_EXPIRY (R151). -/
def onSenseTimerExpiry (d : Nat) (s : State) : State :=
  if senseDue (s.dock d) then modDock d (fun k => { k with bike := k.bike.map Bike.senseAborted }) s else s

/-! ## The patrol -/

/-- The interval count runs: patrol enabled, the station READY, no audit running (R138). -/
def intervalRuns (s : State) : Bool :=
  s.settings.patrolEnable == 1 && s.station == .ready && s.audit.kind == .idle

/-- The cursor advances; from N-1 to 0 it completes a cycle (R139, R140). -/
def advanceCursor (s : State) : State :=
  let p := s.patrol
  if p.cursor + 1 < s.installed then { s with patrol := { p with cursor := p.cursor + 1 } }
  else
    { s with patrol := { p with cursor := 0, cycles := (p.cycles + 1) % 65536, postscaler := p.postscaler + 1 },
             due := { s.due with postscaler := s.settings.patrolPostscaler ≤ p.postscaler + 1 } }

/-- One visit attempt at the dock at the cursor (R139). -/
def visit (s : State) : State :=
  let d := s.patrol.cursor
  if inFlightState (s.dock d).state || !nothingInHand d s then advanceCursor s
  else
    match placeQuiet .status .patrol d s with
    | (s1, true) => advanceCursor s1
    | (s1, false) => s1

/-- PATROL_INTERVAL_EXPIRY (R139). -/
def onPatrolIntervalExpiry (s : State) : State :=
  if s.due.patrol ∧ intervalRuns s then
    visit { modDue (fun d => { d with patrol := false }) s with patrol := { s.patrol with interval := 0 } }
  else s

/-- PATROL_POSTSCALER_EXPIRY (R140). -/
def onPatrolPostscalerExpiry (s : State) : State :=
  if s.due.postscaler then
    raise (.patrolDone s.patrol.cycles)
      { modDue (fun d => { d with postscaler := false }) s with patrol := { s.patrol with postscaler := 0 } }
  else s

/-! ## The leak -/

/-- A dock's count after a leak (R127). -/
def leakDock (threshold : Nat) (k : Dock) : Dock :=
  if 0 < k.faultCount ∧ k.faultCount < threshold then { k with faultCount := k.faultCount - 1 } else k

/-- A Bike Fault Table entry after a leak, none when the leak removes it (R127). -/
def leakBike (threshold : Nat) (f : BikeFault) : Option BikeFault :=
  if 0 < f.count ∧ f.count < threshold then
    if f.count = 1 ∧ f.quarantined = false then none else some { f with count := f.count - 1 }
  else some f

/-- LEAK: the timer returns to 0 and the counts below their thresholds fall by 1 (R127). -/
def onLeak (s : State) : State :=
  if s.due.leak then
    let s1 := s.installedDocks.foldl (fun t d => modDock d (leakDock s.settings.dockThreshold) t) s
    { modDue (fun d => { d with leak := false }) s1 with
      leakTimer := 0, bikeFaults := s.bikeFaults.filterMap (leakBike s.settings.bikeThreshold) }
  else s

/-! ## The dock bus and the audit -/

/-- POLL_HOLDOFF_CLEAR: the mark clears at a second tick, and a poll is placed if the wire is low (R25). -/
def onPollHoldoffClear (low : Bool) (s : State) : State :=
  if s.due.holdoff then
    pollIfLow (sampleWire low (modBus (fun b => { b with holdoff := false })
      (modDue (fun d => { d with holdoff := false }) s)))
  else s

/-- A LATCHING dock whose re-read waits tries it again (R59). -/
def retryReread (d : Nat) (s : State) : State :=
  if (s.dock d).state = .latching ∧ rereadInHand d s = false then tryReread d s else s

/-- IDENT_REREAD_RETRY: the waiting LATCHING docks in increasing dock number (R59). -/
def onIdentRereadRetry (s : State) : State :=
  if s.due.reread then
    (s.installedDocks.foldl (fun t d => retryReread d t) (modDue (fun d => { d with reread := false }) s))
  else s

/-- AUDIT_PASS: the pass of a second tick while an audit runs (R145). -/
def onAuditPass (s : State) : State :=
  if s.due.auditPass then auditStep (modDue (fun d => { d with auditPass := false }) s) else s

/-! ## The second tick -/

/-- Every authorization whose countdown a tick has found at 0 ends, oldest first (R78). -/
def authTimeouts (s : State) : State :=
  (s.authQueue.filter (fun e => e.timedOut)).foldl (fun t _ => onAuthTimeout t) s

/-- The expiries of an earlier tick that are still waiting, in the order of the rows of the table (assumption log 1). -/
def serveDue (s : State) : State :=
  let s1 := s.installedDocks.foldl (fun t d => onReleaseWindowExpiry d t) s
  let s2 := s1.installedDocks.foldl (fun t d => onEjectWindowExpiry d t) s1
  let s3 := onBatchIdleExpiry (authTimeouts s2)
  let s4 := s3.installedDocks.foldl (fun t d => onSenseTimerExpiry d t) s3
  let s5 := onLeak (onPatrolPostscalerExpiry (onPatrolIntervalExpiry s4))
  let s6 := onPollHoldoffClear s5.bus.attentionLow s5
  onDockResponseTimeout (onAuditPass (onIdentRereadRetry s6))

/-- The tick at the clock: the sub-count rises by 1, and at 60 the minute ends; a counter at its top stays there while
the sub-count goes on (R183). Nothing where STATION_MINUTE_INCREASE has been taken for this tick (assumption log 1). -/
def tickClock (s : State) : State :=
  if s.due.minuteTaken then s
  else if minuteEnds s then endMinute s
  else { s with clock := { s.clock with second := if s.clock.second < 59 then s.clock.second + 1 else 0 } }

/-- The window and sense timers of a dock after a tick (R45, R151). -/
def tickDock (k : Dock) : Dock :=
  { k with window := k.window.map fun w => { w with ticks := w.ticks + 1 },
           bike := k.bike.map fun b => { b with sense := b.sense.map (· + 1) } }

/-- An Auth Queue entry after a tick: an entry at 0 has timed out, another falls by 1 (R78). -/
def tickAuth (e : AuthEntry) : AuthEntry :=
  if e.remaining = 0 then { e with timedOut := true } else { e with remaining := e.remaining - 1 }

/-- The idle timer after a tick: it stands at 0 or while it waits, else falls by 1 (R117). -/
def tickBatch (b : Batch) : Batch := if b.expiryWaiting then b else { b with idle := b.idle - 1 }

/-- The patrol interval count after a tick (R139). -/
def tickPatrol (runs : Bool) (p : Patrol) : Patrol := if runs then { p with interval := p.interval + 1 } else p

/-- The response timer after a tick (R35). -/
def tickInFlight (f : InFlight) : InFlight := { f with ticks := f.ticks.map (· + 1) }

/-- The idle timer has expired at this tick: it is running and stands at 0 (R117). -/
def idleExpires (s : State) : Bool :=
  match s.batch with
  | some b => !b.expiryWaiting && b.idle == 0
  | none => false

/-- What a tick brings to expiry (R25, R59, R117, R127, R139, R145). -/
def tickDue (s : State) : Due where
  minuteTaken := false
  idle := idleExpires s
  patrol := intervalRuns s && s.settings.patrolInterval ≤ s.patrol.interval + 1
  postscaler := s.due.postscaler
  leak := 3600 * s.settings.leakPeriod ≤ s.leakTimer + 1
  holdoff := s.bus.holdoff
  reread := s.installedDocks.any fun d => (s.dock d).state == .latching
  auditPass := s.audit.kind != .idle

/-- Every timer counts the tick (R183). -/
def countTick (s : State) : State :=
  { s with
    due := tickDue s
    docks := s.docks.map tickDock
    bus := { s.bus with inFlight := s.bus.inFlight.map tickInFlight }
    authQueue := s.authQueue.map tickAuth
    batch := s.batch.map tickBatch
    leakTimer := s.leakTimer + 1
    patrol := tickPatrol (intervalRuns s) s.patrol }

/-- SECOND_TICK (R183). -/
def onSecondTick (s : State) : State := countTick (tickClock (serveDue s))

end Sys2Proof.Machine
end

