-- ==== Sys2Proof/Machine/Reset.lean ====
section
/-! DEFINITION. The two starts of the station: the station reset with its nine steps (R187) and the power-on (R186), and
the RESET pin. -/

namespace Sys2Proof.Machine

/-! ## The parts of a station reset -/

/-- A dock record at a station reset (R8). -/
def resetDock (k : Dock) : Dock :=
  if k.state = .retired then
    { Dock.powerOn with state := .retired, bike := k.bike.map Bike.senseAborted, faultCount := k.faultCount }
  else { Dock.powerOn with faultCount := k.faultCount, retirePending := k.retirePending }

/-- Dock `d` is dropped at a station reset (R9). -/
def dropDock (d : Nat) (s : State) : State :=
  let s1 := match (s.dock d).bike with
    | some b => enterRecord (.bikeMissing (b.id.getD 0) d) s
    | none => s
  let s2 := match startingHireAt d s1 with
    | some r => cancelHire r s1
    | none => s1
  setDock d Dock.powerOn s2

/-- The docks from `a` up to, not including, `b`. -/
def docksFrom (a b : Nat) : List Nat := (List.range b).filter fun d => a ≤ d

/-- The next docks-installed value is applied (R9): dropped docks in increasing number, or new records as at
power-on. -/
def applyInstalled (s : State) : State :=
  let n := s.installed
  let m := s.settings.docksNext
  let s1 :=
    if m < n then (docksFrom m n).foldl (fun t d => dropDock d t) s
    else (docksFrom n m).foldl (fun t d => setDock d Dock.powerOn t) s
  { s1 with installed := m }

/-- The installed records become UNVERIFIED or stay RETIRED (R8). -/
def resetDocks (s : State) : State := s.installedDocks.foldl (fun t d => modDock d resetDock t) s

/-- An open batch ends with outcome RESET (R119). -/
def abortBatch (s : State) : State :=
  match s.batch with
  | some b =>
    { enterRecord (.batchClosed b.crew b.kind .reset b.done b.pendingCount) s with batch := none }
  | none => s

/-- A Port Interface at a station reset: a reply in transmission is sent to its end (R172). -/
def resetPort (x : PortState) : PortState := { PortState.powerOn with reply := x.reply, atSpacing := x.atSpacing }

/-- The journal raises its notices once the controllers have been cleared (R163). -/
def journalNotices (s : State) : State :=
  let s1 := if 0 < s.depth then raise (.journalData s.depth) s else s
  if s1.journal.held then raise (.journalHigh s1.depth) s1 else s1

/-- The audit of a start over the installed docks (R144, R147). -/
def startUpAudit (s : State) : Audit where
  kind := .startUp
  toDo := s.installedDocks
  outstanding := []
  mismatches := 0
  counted := []

/-- Steps 1 to 4: STARTING, the dock bus emptied with every lock due cleared, the timers stopped, the Auth Queue emptied
and the link OFFLINE (R187, R39, R76, R81). -/
def resetFirst (s : State) : State :=
  let s1 := resetBus { s with station := .starting, docks := s.docks.map fun k => { k with owed := none } }
  let s2 := pollIfLow s1
  { s2 with due := { Due.nothing with minuteTaken := s.due.minuteTaken, leak := s.due.leak }, authQueue := [], link := .offline }

/-- Step 7: the patrol and its audit state at their reset values (R138, R146). -/
def resetPatrol (s : State) : State :=
  { s with patrol := { cursor := 0, interval := 0, cycles := 0, postscaler := 0 },
           audit := { s.audit with kind := .idle } }

/-- Step 8: the ports cleared, then the journal's notices (R172, R163). -/
def resetPorts (s : State) : State :=
  journalNotices { s with terminal := resetPort s.terminal, uplink := resetPort s.uplink, service := resetPort s.service }

/-- Step 9: the start-up audit begins, with its first pass (R147, R145). -/
def beginStartUp (s : State) : State := auditStep { s with audit := startUpAudit s }

/-- A station reset, its steps in order (R187). -/
def stationReset (s : State) : State :=
  beginStartUp (resetPorts (resetPatrol (resetDocks (applyInstalled (abortBatch (resetFirst s))))))

/-! ## The rows -/

/-- POWER_ON: every block takes its power-on state (R186); a poll is placed if the wire is low (R25, R39), and the
start-up audit makes its first pass (R147). The commands that wait outside the part stay. -/
def onPowerOn (low : Bool) (s : State) : State :=
  auditStep (pollIfLow (sampleWire low { State.reset with pending := s.pending }))

/-- RESET_PIN_LOW: a station reset that takes effect once, with the part held until the pin returns high (R187). -/
def onResetPinLow (s : State) : State := if s.pinLow then s else stationReset { s with pinLow := true }

/-- RESET_PIN_HIGH: the hold ends, event polls are placed as R25 gives, and the start-up audit makes its first pass
(R187). -/
def onResetPinHigh (low : Bool) (s : State) : State :=
  if s.pinLow then auditStep (pollIfLow (sampleWire low { s with pinLow := false })) else s

end Sys2Proof.Machine
end

