-- ==== Sys2Proof/Machine/StationRequests.lean ====
section
/-! DEFINITION. The requests on the journal, the configuration, the clock and the audit: JOURNAL_PEEK (R161),
JOURNAL_RELEASE (R162), CONFIG_SET (R181), CONFIG_READ (R182), TIME_SET (R184), STATION_RESET (R187), FULL_AUDIT
(R144). -/

namespace Sys2Proof.Machine

/-! ## The journal -/

/-- JOURNAL_PEEK (R161). The HELD mark and the overrun mark, each "set or clear", are sent like a yes or no of R170: 1
set, 0 clear (DESIGN CHOICE, assumption log 27). -/
def journalPeek (fields : List Byte) (_p : Port) (s : State) : Answer :=
  let n := numAt fields 0 1
  if n = 0 ∨ 4 < n then refuse .refusedRange s
  else
    let oldest := s.journal.records.take n
    (s, .ok,
      [byteField oldest.length, wordField s.depth, yesField s.journal.held, yesField s.journal.overrun,
       wordField s.journal.lost, longField s.journal.nextSeq] ++ oldest.map fun r => .area r.bytes)

/-- The sequence number of the oldest record, or of the next to be entered (R162). -/
def oldestSeq (j : Journal) : Nat :=
  match j.records with
  | r :: _ => r.seq
  | [] => j.nextSeq

/-- JOURNAL_RELEASE (R162). -/
def journalRelease (fields : List Byte) (_p : Port) (s : State) : Answer :=
  let n := numAt fields 0 2
  if n = 0 ∨ s.depth < n then refuse .refusedRange s
  else
    let s1 := evalHeld { s with journal := { s.journal with records := s.journal.records.drop n } }
    (s1, .ok, [wordField s1.depth, longField (oldestSeq s1.journal)])

/-! ## The configuration -/

/-- The value of a setting by its field number (R180). -/
def Settings.get (field : Nat) (c : Settings) : Nat :=
  match field with
  | 1 => c.docksNext
  | 2 => c.releaseWindow
  | 3 => c.authTimeout
  | 4 => c.batchIdle
  | 5 => c.minKeep
  | 6 => c.dockThreshold
  | 7 => c.bikeThreshold
  | 8 => c.leakPeriod
  | 9 => c.categoryMask
  | 10 => c.patrolEnable
  | 11 => c.patrolInterval
  | 12 => c.patrolPostscaler
  | 13 => c.senseAge
  | 14 => c.minCharge
  | 15 => c.batteryFloor
  | 16 => c.upperWatermark
  | 17 => c.lowerWatermark
  | 18 => c.attributeEnable
  | 19 => c.stationNumber
  | _ => 0

/-- The settings with one field written (R180). -/
def Settings.write (field value : Nat) (c : Settings) : Settings :=
  match field with
  | 1 => { c with docksNext := value }
  | 2 => { c with releaseWindow := value }
  | 3 => { c with authTimeout := value }
  | 4 => { c with batchIdle := value }
  | 5 => { c with minKeep := value }
  | 6 => { c with dockThreshold := value }
  | 7 => { c with bikeThreshold := value }
  | 8 => { c with leakPeriod := value }
  | 9 => { c with categoryMask := value }
  | 10 => { c with patrolEnable := value }
  | 11 => { c with patrolInterval := value }
  | 12 => { c with patrolPostscaler := value }
  | 13 => { c with senseAge := value }
  | 14 => { c with minCharge := value }
  | 15 => { c with batteryFloor := value }
  | 16 => { c with upperWatermark := value }
  | 17 => { c with lowerWatermark := value }
  | 18 => { c with attributeEnable := value }
  | 19 => { c with stationNumber := value }
  | _ => c

/-- The range of a setting by its field number; the lower watermark's is 0 to 254 at this check (R180, R181). -/
def settingRange (field : Nat) : Option (Nat × Nat) :=
  match field with
  | 1 => some (8, 64)
  | 2 => some (10, 60)
  | 3 => some (5, 60)
  | 4 => some (5, 60)
  | 5 => some (0, 32)
  | 6 => some (1, 15)
  | 7 => some (1, 15)
  | 8 => some (1, 168)
  | 9 => some (0, 0x07FF)
  | 10 => some (0, 1)
  | 11 => some (1, 30)
  | 12 => some (1, 16)
  | 13 => some (5, 240)
  | 14 => some (0, 100)
  | 15 => some (0, 50)
  | 16 => some (64, 255)
  | 17 => some (0, 254)
  | 18 => some (0, 1)
  | 19 => some (1, 65535)
  | _ => none

/-- A setting has a field number and a value in its range (R181, check 2). -/
def ConfigSetting.inRange (c : ConfigSetting) : Bool :=
  match settingRange c.field with
  | some (low, high) => low ≤ c.value && c.value ≤ high
  | none => false

/-- A setting that writes a watermark (R181). -/
def ConfigSetting.isWatermark (c : ConfigSetting) : Bool := c.field == 16 || c.field == 17

/-- The settings written in one act, the later of two of one field winning (R181). -/
def writeSettings (list : List ConfigSetting) (c : Settings) : Settings :=
  list.foldl (fun acc x => acc.write x.field x.value) c

/-- The position, from 1, and the field number of the first setting that meets a test. -/
def firstSetting (test : ConfigSetting → Bool) (list : List ConfigSetting) : Option (Nat × Nat) :=
  match list.findIdx? test with
  | some i => some (i + 1, ((list[i]?).map ConfigSetting.field).getD 0)
  | none => none

/-- The position, from 1, and the field number of the last setting that writes a watermark, 0 and 0 when none does
(R181, check 3). -/
def lastWatermark (list : List ConfigSetting) : Nat × Nat :=
  match list.reverse.findIdx? ConfigSetting.isWatermark with
  | some i => (list.length - i, ((list.reverse[i]?).map ConfigSetting.field).getD 0)
  | none => (0, 0)

/-- The checks of CONFIG_SET in order: the refusal with its position and field number, none for the pass (R181). -/
def configRefusal (count : Nat) (list : List ConfigSetting) (c : Settings) : Option (Result × Nat × Nat) :=
  if count = 0 ∨ 8 < count then some (.refusedRange, 0, 0)
  else
    match firstSetting (fun x => !x.inRange) list with
    | some (i, f) => some (.refusedRange, i, f)
    | none =>
      let after := writeSettings list c
      if after.upperWatermark ≤ after.lowerWatermark then some (.refusedRange, lastWatermark list)
      else if c.stationNumber ≠ 0 then
        (firstSetting (fun x => x.field == 19) list).map fun x => (.refusedFixed, x)
      else none

/-- Patrol enable turned from 1 to 0 or from 0 to 1; a PATROL_DONE already decided is raised first (R138, R181). -/
def patrolTurned (old new : Nat) (s : State) : State :=
  if old = 1 ∧ new = 0 then
    let s1 := onPatrolPostscalerExpiry s
    { s1 with patrol := { s1.patrol with cursor := 0, cycles := 0, postscaler := 0 },
              due := { s1.due with patrol := false } }
  else if old = 0 ∧ new = 1 then { s with patrol := { s.patrol with interval := 0 }, due := { s.due with patrol := false } }
  else s

/-- The settings written, with the effects of the write (R181). -/
def applySettings (list : List ConfigSetting) (s : State) : State :=
  let c := writeSettings list s.settings
  let s1 := patrolTurned s.settings.patrolEnable c.patrolEnable { s with settings := c }
  if list.any ConfigSetting.isWatermark then evalHeld s1 else s1

/-- CONFIG_SET (R181). -/
def configSet (fields : List Byte) (_p : Port) (s : State) : Answer :=
  let count := numAt fields 0 1
  let list := configSettings fields
  match configRefusal count list s.settings with
  | some (r, i, f) => (s, r, [byteField i, byteField f])
  | none => (applySettings list s, .ok, [byteField count])

/-- CONFIG_READ (R182). -/
def configRead (_fields : List Byte) (_p : Port) (s : State) : Answer :=
  (s, .ok,
    ((List.range 19).map fun i => longField (s.settings.get (i + 1))) ++
    [longField s.installed, byteField s.station.code, longField s.clock.minute, byteField s.clock.second])

/-! ## The clock -/

/-- TIME_SET (R184, R96). -/
def timeSet (fields : List Byte) (_p : Port) (s : State) : Answer :=
  let v := numAt fields 0 4
  if v < s.clock.minute then refuse .refusedRange s
  else
    (overdueCheck { s with clock := { minute := v, second := 0 } }, .ok, [longField s.clock.minute, longField v])

/-! ## Reset and audit -/

/-- STATION_RESET: replied OK, and the reset takes effect in the same event (R187). -/
def stationResetRequest (_fields : List Byte) (_p : Port) (s : State) : Answer := (stationReset s, .ok, [])

/-- FULL_AUDIT (R144). -/
def fullAudit (_fields : List Byte) (p : Port) (s : State) : Answer :=
  if s.audit.isFull then refuse .busBusy s
  else
    (auditStep { s with audit :=
      { kind := .full p, toDo := s.installedDocks, outstanding := [], mismatches := 0, counted := [] } }, .ok, [])

end Sys2Proof.Machine
end

