-- ==== Sys2Proof/Machine/Ports.lean ====
section
/-! DEFINITION. The Port Interface: the checks of R169, the taking of a request and its reply (R168), the frames that
fail (R166), the port reset (R167), and the meanings of the rows that arrive on a port. -/

namespace Sys2Proof.Machine

/-! ## Taking a request -/

/-- The rule of the block that owns a request, by its code (R169). -/
def blockRule (code : Byte) : Option (List Byte → Port → State → Answer) :=
  if code = 0x01#8 then some takeNotice
  else if code = 0x02#8 then some peekNotice
  else if code = 0x03#8 then some endNotice
  else if code = 0x04#8 then some setNoticeMask
  else if code = 0x08#8 then some dockRead
  else if code = 0x09#8 then some configRead
  else if code = 0x10#8 then some hireStart
  else if code = 0x11#8 then some hireQuery
  else if code = 0x12#8 then some reportFault
  else if code = 0x13#8 then some dockList
  else if code = 0x20#8 then some cardSet
  else if code = 0x21#8 then some cardRemove
  else if code = 0x22#8 then some cardRead
  else if code = 0x23#8 then some authList
  else if code = 0x24#8 then some authGrant
  else if code = 0x25#8 then some authDeny
  else if code = 0x26#8 then some linkState
  else if code = 0x28#8 then some policySet
  else if code = 0x29#8 then some tariffSet
  else if code = 0x2A#8 then some attrSet
  else if code = 0x2C#8 then some hireCloseRemote
  else if code = 0x2D#8 then some hireRestore
  else if code = 0x2E#8 then some hireRead
  else if code = 0x30#8 then some journalPeek
  else if code = 0x31#8 then some journalRelease
  else if code = 0x34#8 then some configSet
  else if code = 0x35#8 then some timeSet
  else if code = 0x36#8 then some stationResetRequest
  else if code = 0x37#8 then some fullAudit
  else if code = 0x40#8 then some batchOpen
  else if code = 0x41#8 then some batchTake
  else if code = 0x42#8 then some batchClose
  else if code = 0x43#8 then some batchRead
  else if code = 0x44#8 then some dockRestore
  else if code = 0x45#8 then some bikeClear
  else none

/-- The reply to a request put in transmission (R165, R168). -/
def sendReply (p : Port) (code tag : Byte) (a : Answer) : State :=
  modPort p (fun x => { x with reply := some { code := replyCode code, tag := tag, result := a.2.1, fields := a.2.2 } }) a.1

/-- The answer to a request frame that is taken: the first failing check of R169 with no fields, or what the rule of
the owning block gives (R168, R169). -/
def answerTo (fr : Frame) (p : Port) (s : State) : Answer :=
  match portChecks fr.code p fr.fields s.station with
  | some r => refuse r s
  | none =>
    match blockRule fr.code with
    | some rule => rule fr.fields p s
    | none => refuse .unknownRequest s

/-- A request frame is taken, whole and in one event (R168). -/
def takeFrame (fr : Frame) (p : Port) (s : State) : State := sendReply p fr.code fr.tag (answerTo fr p s)

/-- The port receives nothing: the RESET pin is held low (R187) or the line stands at spacing since a BREAK (R167). -/
def deaf (p : Port) (s : State) : Bool := s.pinLow || (s.port p).atSpacing

/-- A request frame has completed with a good check (R166, R168): taken at once if no reply is in transmission and no
frame waits; the waiting frame if a reply is in transmission and none waits; else discarded. -/
def frameCompletes (fr : Frame) (p : Port) (s : State) : State :=
  if (s.port p).waiting.isSome then s
  else if (s.port p).reply.isSome then modPort p (fun x => { x with waiting := some fr }) s
  else takeFrame fr p s

/-- A request frame that a row brings has completed, unless the port is deaf; nothing of a partial frame is left
(R166). -/
def frameArrives (p : Port) (code tag : Byte) (fields : List Byte) (s : State) : State :=
  if deaf p s then s
  else
    frameCompletes { code := code, tag := tag, fields := fields } p (modPort p (fun x => { x with partialFrame := [] }) s)

/-! ## The port line -/

/-- The search resumed over the bytes that stand in the port's partial frame: each request frame it completes goes on to
R168 in turn, and the bytes of the attempt it comes to stand in are left (R166). The first argument bounds the number
of frames. -/
def searchOn : Nat → Port → State → State
  | 0, _, s => s
  | n + 1, p, s =>
    let received := (s.port p).partialFrame
    match search received.length received with
    | (some fr, rest) => searchOn n p (frameCompletes fr p (modPort p (fun x => { x with partialFrame := rest }) s))
    | (none, left) => modPort p (fun x => { x with partialFrame := left }) s

/-- REQUEST_FRAME_BAD_CHECK: the frame is discarded with no reply, and the search resumes at the byte after its start
byte, so over `bytes` (R166). -/
def onRequestFrameBadCheck (p : Port) (bytes : List Byte) (s : State) : State :=
  if deaf p s || !frameComplete bytes || frameChecks bytes then s
  else searchOn bytes.length p (modPort p (fun x => { x with partialFrame := bytes }) s)

/-- INTER_BYTE_TIMEOUT: the partial frame is discarded (R166). -/
def onInterByteTimeout (p : Port) (s : State) : State :=
  if deaf p s then s else modPort p (fun x => { x with partialFrame := [] }) s

/-- FRAMING_ERROR: the partial frame is discarded (R166). -/
def onFramingError (p : Port) (s : State) : State :=
  if deaf p s then s else modPort p (fun x => { x with partialFrame := [] }) s

/-- FRAME_ATTEMPT_ENDED: a length below 2 or above 250 ends the attempt (R166). -/
def onFrameAttemptEnded (p : Port) (length : Byte) (s : State) : State :=
  if deaf p s || goodLength length then s else modPort p (fun x => { x with partialFrame := [] }) s

/-- PORT_RESET: one reset for a line held at spacing (R167). -/
def onPortReset (p : Port) (s : State) : State :=
  if (s.port p).atSpacing then s else setPort p { PortState.powerOn with atSpacing := true } s

/-- LINE_RETURNS_TO_MARKING: the search for a start byte begins afresh (R167). -/
def onLineReturnsToMarking (p : Port) (s : State) : State :=
  if (s.port p).atSpacing then modPort p (fun x => { x with atSpacing := false, partialFrame := [] }) s else s

/-- REQUEST_FRAME_WAITING: a request frame of any code completes (R168). -/
def onRequestFrameWaiting (p : Port) (code tag : Byte) (fields : List Byte) (s : State) : State :=
  frameArrives p code tag fields s

/-- UNKNOWN_REQUEST: a request frame whose code the table does not have completes (R169). -/
def onUnknownRequest (p : Port) (code tag : Byte) (fields : List Byte) (s : State) : State :=
  frameArrives p code tag fields s

/-- REPLY_SENT: the last byte of the reply has been sent, and the waiting frame is taken (R168). -/
def onReplySent (p : Port) (s : State) : State :=
  if (s.port p).reply.isNone then s
  else
    let s1 := modPort p (fun x => { x with reply := none, waiting := none }) s
    match (s.port p).waiting with
    | some fr => takeFrame fr p s1
    | none => s1

/-! ## The requests -/

/-- TAKE_NOTICE (R175): its frame, of code 0x01, completes (R168, R169). -/
def onTakeNotice (p : Port) (tag : Byte) (fields : List Byte) (s : State) : State :=
  frameArrives p 0x01#8 tag fields s

/-- PEEK_NOTICE (R175): its frame, of code 0x02, completes (R168, R169). -/
def onPeekNotice (p : Port) (tag : Byte) (fields : List Byte) (s : State) : State :=
  frameArrives p 0x02#8 tag fields s

/-- END_NOTICE (R176): its frame, of code 0x03, completes (R168, R169). -/
def onEndNotice (p : Port) (tag : Byte) (fields : List Byte) (s : State) : State :=
  frameArrives p 0x03#8 tag fields s

/-- SET_NOTICE_MASK (R177): its frame, of code 0x04, completes (R168, R169). -/
def onSetNoticeMask (p : Port) (tag : Byte) (fields : List Byte) (s : State) : State :=
  frameArrives p 0x04#8 tag fields s

/-- DOCK_READ (R17): its frame, of code 0x08, completes (R168, R169). -/
def onDockRead (p : Port) (tag : Byte) (fields : List Byte) (s : State) : State :=
  frameArrives p 0x08#8 tag fields s

/-- CONFIG_READ (R182): its frame, of code 0x09, completes (R168, R169). -/
def onConfigRead (p : Port) (tag : Byte) (fields : List Byte) (s : State) : State :=
  frameArrives p 0x09#8 tag fields s

/-- HIRE_START (R40): its frame, of code 0x10, completes (R168, R169). -/
def onHireStart (p : Port) (tag : Byte) (fields : List Byte) (s : State) : State :=
  frameArrives p 0x10#8 tag fields s

/-- HIRE_QUERY (R97): its frame, of code 0x11, completes (R168, R169). -/
def onHireQuery (p : Port) (tag : Byte) (fields : List Byte) (s : State) : State :=
  frameArrives p 0x11#8 tag fields s

/-- REPORT_FAULT (R122): its frame, of code 0x12, completes (R168, R169). -/
def onReportFault (p : Port) (tag : Byte) (fields : List Byte) (s : State) : State :=
  frameArrives p 0x12#8 tag fields s

/-- DOCK_LIST (R18): its frame, of code 0x13, completes (R168, R169). -/
def onDockList (p : Port) (tag : Byte) (fields : List Byte) (s : State) : State :=
  frameArrives p 0x13#8 tag fields s

/-- CARD_SET (R64): its frame, of code 0x20, completes (R168, R169). -/
def onCardSet (p : Port) (tag : Byte) (fields : List Byte) (s : State) : State :=
  frameArrives p 0x20#8 tag fields s

/-- CARD_REMOVE (R66): its frame, of code 0x21, completes (R168, R169). -/
def onCardRemove (p : Port) (tag : Byte) (fields : List Byte) (s : State) : State :=
  frameArrives p 0x21#8 tag fields s

/-- CARD_READ (R67): its frame, of code 0x22, completes (R168, R169). -/
def onCardRead (p : Port) (tag : Byte) (fields : List Byte) (s : State) : State :=
  frameArrives p 0x22#8 tag fields s

/-- AUTH_LIST (R82): its frame, of code 0x23, completes (R168, R169). -/
def onAuthList (p : Port) (tag : Byte) (fields : List Byte) (s : State) : State :=
  frameArrives p 0x23#8 tag fields s

/-- AUTH_GRANT (R79): its frame, of code 0x24, completes (R168, R169). -/
def onAuthGrant (p : Port) (tag : Byte) (fields : List Byte) (s : State) : State :=
  frameArrives p 0x24#8 tag fields s

/-- AUTH_DENY (R80): its frame, of code 0x25, completes (R168, R169). -/
def onAuthDeny (p : Port) (tag : Byte) (fields : List Byte) (s : State) : State :=
  frameArrives p 0x25#8 tag fields s

/-- LINK_STATE (R81): its frame, of code 0x26, completes (R168, R169). -/
def onLinkState (p : Port) (tag : Byte) (fields : List Byte) (s : State) : State :=
  frameArrives p 0x26#8 tag fields s

/-- POLICY_SET (R69): its frame, of code 0x28, completes (R168, R169). -/
def onPolicySet (p : Port) (tag : Byte) (fields : List Byte) (s : State) : State :=
  frameArrives p 0x28#8 tag fields s

/-- TARIFF_SET (R91): its frame, of code 0x29, completes (R168, R169). -/
def onTariffSet (p : Port) (tag : Byte) (fields : List Byte) (s : State) : State :=
  frameArrives p 0x29#8 tag fields s

/-- ATTR_SET (R13): its frame, of code 0x2A, completes (R168, R169). -/
def onAttrSet (p : Port) (tag : Byte) (fields : List Byte) (s : State) : State :=
  frameArrives p 0x2A#8 tag fields s

/-- HIRE_CLOSE_REMOTE (R99): its frame, of code 0x2C, completes (R168, R169). -/
def onHireCloseRemote (p : Port) (tag : Byte) (fields : List Byte) (s : State) : State :=
  frameArrives p 0x2C#8 tag fields s

/-- HIRE_RESTORE (R100): its frame, of code 0x2D, completes (R168, R169). -/
def onHireRestore (p : Port) (tag : Byte) (fields : List Byte) (s : State) : State :=
  frameArrives p 0x2D#8 tag fields s

/-- HIRE_READ (R98): its frame, of code 0x2E, completes (R168, R169). -/
def onHireRead (p : Port) (tag : Byte) (fields : List Byte) (s : State) : State :=
  frameArrives p 0x2E#8 tag fields s

/-- JOURNAL_PEEK (R161): its frame, of code 0x30, completes (R168, R169). -/
def onJournalPeek (p : Port) (tag : Byte) (fields : List Byte) (s : State) : State :=
  frameArrives p 0x30#8 tag fields s

/-- JOURNAL_RELEASE (R162): its frame, of code 0x31, completes (R168, R169). -/
def onJournalRelease (p : Port) (tag : Byte) (fields : List Byte) (s : State) : State :=
  frameArrives p 0x31#8 tag fields s

/-- CONFIG_SET (R181): its frame, of code 0x34, completes (R168, R169). -/
def onConfigSet (p : Port) (tag : Byte) (fields : List Byte) (s : State) : State :=
  frameArrives p 0x34#8 tag fields s

/-- TIME_SET (R184): its frame, of code 0x35, completes (R168, R169). -/
def onTimeSet (p : Port) (tag : Byte) (fields : List Byte) (s : State) : State :=
  frameArrives p 0x35#8 tag fields s

/-- STATION_RESET (R187): its frame, of code 0x36, completes (R168, R169). -/
def onStationReset (p : Port) (tag : Byte) (fields : List Byte) (s : State) : State :=
  frameArrives p 0x36#8 tag fields s

/-- FULL_AUDIT (R144): its frame, of code 0x37, completes (R168, R169). -/
def onFullAudit (p : Port) (tag : Byte) (fields : List Byte) (s : State) : State :=
  frameArrives p 0x37#8 tag fields s

/-- BATCH_OPEN (R104): its frame, of code 0x40, completes (R168, R169). -/
def onBatchOpen (p : Port) (tag : Byte) (fields : List Byte) (s : State) : State :=
  frameArrives p 0x40#8 tag fields s

/-- BATCH_TAKE (R112): its frame, of code 0x41, completes (R168, R169). -/
def onBatchTake (p : Port) (tag : Byte) (fields : List Byte) (s : State) : State :=
  frameArrives p 0x41#8 tag fields s

/-- BATCH_CLOSE (R116): its frame, of code 0x42, completes (R168, R169). -/
def onBatchClose (p : Port) (tag : Byte) (fields : List Byte) (s : State) : State :=
  frameArrives p 0x42#8 tag fields s

/-- BATCH_READ (R120): its frame, of code 0x43, completes (R168, R169). -/
def onBatchRead (p : Port) (tag : Byte) (fields : List Byte) (s : State) : State :=
  frameArrives p 0x43#8 tag fields s

/-- DOCK_RESTORE (R131): its frame, of code 0x44, completes (R168, R169). -/
def onDockRestore (p : Port) (tag : Byte) (fields : List Byte) (s : State) : State :=
  frameArrives p 0x44#8 tag fields s

/-- BIKE_CLEAR (R136): its frame, of code 0x45, completes (R168, R169). -/
def onBikeClear (p : Port) (tag : Byte) (fields : List Byte) (s : State) : State :=
  frameArrives p 0x45#8 tag fields s

end Sys2Proof.Machine
end

