-- ==== Sys2Proof/Machine/Commands.lean ====
section
/-! DEFINITION. The meanings of the 75 rows of the table. No command stops the part (assumption log 4), so each answers
the state its rule gives. -/

namespace Sys2Proof.Machine

/-- What a command answers. -/
abbrev Answered := Host.Outcome State Fault Refusal

/-- POWER_ON (R186) -/
def execPowerOn (attentionLow : Bool) (s : State) : Answered := .next (onPowerOn attentionLow s)

/-- RESET_PIN_LOW (R187) -/
def execResetPinLow (s : State) : Answered := .next (onResetPinLow s)

/-- RESET_PIN_HIGH (R187) -/
def execResetPinHigh (attentionLow : Bool) (s : State) : Answered := .next (onResetPinHigh attentionLow s)

/-- SECOND_TICK (R183) -/
def execSecondTick (s : State) : Answered := .next (onSecondTick s)

/-- STATION_MINUTE_INCREASE (R96, R183) -/
def execStationMinuteIncrease (s : State) : Answered := .next (onStationMinuteIncrease s)

/-- RELEASE_WINDOW_EXPIRY (R47) -/
def execReleaseWindowExpiry (dock : Nat) (s : State) : Answered := .next (onReleaseWindowExpiry dock s)

/-- EJECT_WINDOW_EXPIRY (R57) -/
def execEjectWindowExpiry (dock : Nat) (s : State) : Answered := .next (onEjectWindowExpiry dock s)

/-- AUTH_TIMEOUT (R78) -/
def execAuthTimeout (s : State) : Answered := .next (onAuthTimeout s)

/-- BATCH_IDLE_EXPIRY (R118) -/
def execBatchIdleExpiry (s : State) : Answered := .next (onBatchIdleExpiry s)

/-- SENSE_TIMER_EXPIRY (R151) -/
def execSenseTimerExpiry (dock : Nat) (s : State) : Answered := .next (onSenseTimerExpiry dock s)

/-- PATROL_INTERVAL_EXPIRY (R139) -/
def execPatrolIntervalExpiry (s : State) : Answered := .next (onPatrolIntervalExpiry s)

/-- PATROL_POSTSCALER_EXPIRY (R140) -/
def execPatrolPostscalerExpiry (s : State) : Answered := .next (onPatrolPostscalerExpiry s)

/-- LEAK (R127) -/
def execLeak (s : State) : Answered := .next (onLeak s)

/-- POLL_HOLDOFF_CLEAR (R25) -/
def execPollHoldoffClear (attentionLow : Bool) (s : State) : Answered := .next (onPollHoldoffClear attentionLow s)

/-- IDENT_REREAD_RETRY (R59) -/
def execIdentRereadRetry (s : State) : Answered := .next (onIdentRereadRetry s)

/-- AUDIT_PASS (R145) -/
def execAuditPass (s : State) : Answered := .next (onAuditPass s)

/-- DOCK_ATTENTION_LOW (R25) -/
def execDockAttentionLow (s : State) : Answered := .next (onDockAttentionLow s)

/-- DOCK_COMMAND_SENT (R35) -/
def execDockCommandSent (s : State) : Answered := .next (onDockCommandSent s)

/-- DOCK_RESPONSE_TIMEOUT (R37) -/
def execDockResponseTimeout (s : State) : Answered := .next (onDockResponseTimeout s)

/-- DOCK_FRAME_IGNORED (R21) -/
def execDockFrameIgnored (bytes : List Byte) (attentionLow : Bool) (s : State) : Answered := .next (onDockFrameIgnored bytes attentionLow s)

/-- OPENED (R46) -/
def execOpened (dock : Byte) (s : State) : Answered := .next (onOpened dock s)

/-- LOCKED_WITH (R49) -/
def execLockedWith (dock : Byte) (tag : BitVec 24) (kind : Byte) (s : State) : Answered := .next (onLockedWith dock tag kind s)

/-- LOCKED_EMPTY (R49) -/
def execLockedEmpty (dock : Byte) (s : State) : Answered := .next (onLockedEmpty dock s)

/-- STATUS_IS (R141) -/
def execStatusIs (dock : Byte) (tag : BitVec 24) (flags : Byte) (s : State) : Answered := .next (onStatusIs dock tag flags s)

/-- SENSE_STARTED (R151) -/
def execSenseStarted (dock : Byte) (s : State) : Answered := .next (onSenseStarted dock s)

/-- NO_EVENT (R25) -/
def execNoEvent (dock : Byte) (s : State) : Answered := .next (onNoEvent dock s)

/-- EVENT_IS INSERTED (R54) -/
def execInserted (dock : Byte) (tag : BitVec 24) (kind : Byte) (attentionLow : Bool) (s : State) : Answered := .next (onInserted dock tag kind attentionLow s)

/-- EVENT_IS REMOVED (R62) -/
def execRemoved (dock : Byte) (attentionLow : Bool) (s : State) : Answered := .next (onRemoved dock attentionLow s)

/-- EVENT_IS LOCK_FAULT (R62) -/
def execLockFault (dock : Byte) (attentionLow : Bool) (s : State) : Answered := .next (onLockFault dock attentionLow s)

/-- EVENT_IS SENSE_DONE (R151) -/
def execSenseDone (dock : Byte) (level : Byte) (attentionLow : Bool) (s : State) : Answered := .next (onSenseDone dock level attentionLow s)

/-- REQUEST_FRAME_BAD_CHECK (R166) -/
def execRequestFrameBadCheck (port : Port) (bytes : List Byte) (s : State) : Answered := .next (onRequestFrameBadCheck port bytes s)

/-- INTER_BYTE_TIMEOUT (R166) -/
def execInterByteTimeout (port : Port) (s : State) : Answered := .next (onInterByteTimeout port s)

/-- FRAMING_ERROR (R166) -/
def execFramingError (port : Port) (s : State) : Answered := .next (onFramingError port s)

/-- PORT_RESET (R167) -/
def execPortReset (port : Port) (s : State) : Answered := .next (onPortReset port s)

/-- REQUEST_FRAME_WAITING (R168) -/
def execRequestFrameWaiting (port : Port) (code : Byte) (tag : Byte) (fields : List Byte) (s : State) : Answered := .next (onRequestFrameWaiting port code tag fields s)

/-- REPLY_SENT (R168) -/
def execReplySent (port : Port) (s : State) : Answered := .next (onReplySent port s)

/-- UNKNOWN_REQUEST (R169) -/
def execUnknownRequest (port : Port) (code : Byte) (tag : Byte) (fields : List Byte) (s : State) : Answered := .next (onUnknownRequest port code tag fields s)

/-- TAKE_NOTICE (R175) -/
def execTakeNotice (port : Port) (tag : Byte) (fields : List Byte) (s : State) : Answered := .next (onTakeNotice port tag fields s)

/-- PEEK_NOTICE (R175) -/
def execPeekNotice (port : Port) (tag : Byte) (fields : List Byte) (s : State) : Answered := .next (onPeekNotice port tag fields s)

/-- END_NOTICE (R176) -/
def execEndNotice (port : Port) (tag : Byte) (fields : List Byte) (s : State) : Answered := .next (onEndNotice port tag fields s)

/-- SET_NOTICE_MASK (R177) -/
def execSetNoticeMask (port : Port) (tag : Byte) (fields : List Byte) (s : State) : Answered := .next (onSetNoticeMask port tag fields s)

/-- DOCK_READ (R17) -/
def execDockRead (port : Port) (tag : Byte) (fields : List Byte) (s : State) : Answered := .next (onDockRead port tag fields s)

/-- CONFIG_READ (R182) -/
def execConfigRead (port : Port) (tag : Byte) (fields : List Byte) (s : State) : Answered := .next (onConfigRead port tag fields s)

/-- HIRE_START (R40) -/
def execHireStart (port : Port) (tag : Byte) (fields : List Byte) (s : State) : Answered := .next (onHireStart port tag fields s)

/-- HIRE_QUERY (R97) -/
def execHireQuery (port : Port) (tag : Byte) (fields : List Byte) (s : State) : Answered := .next (onHireQuery port tag fields s)

/-- REPORT_FAULT (R122) -/
def execReportFault (port : Port) (tag : Byte) (fields : List Byte) (s : State) : Answered := .next (onReportFault port tag fields s)

/-- DOCK_LIST (R18) -/
def execDockList (port : Port) (tag : Byte) (fields : List Byte) (s : State) : Answered := .next (onDockList port tag fields s)

/-- CARD_SET (R64) -/
def execCardSet (port : Port) (tag : Byte) (fields : List Byte) (s : State) : Answered := .next (onCardSet port tag fields s)

/-- CARD_REMOVE (R66) -/
def execCardRemove (port : Port) (tag : Byte) (fields : List Byte) (s : State) : Answered := .next (onCardRemove port tag fields s)

/-- CARD_READ (R67) -/
def execCardRead (port : Port) (tag : Byte) (fields : List Byte) (s : State) : Answered := .next (onCardRead port tag fields s)

/-- AUTH_LIST (R82) -/
def execAuthList (port : Port) (tag : Byte) (fields : List Byte) (s : State) : Answered := .next (onAuthList port tag fields s)

/-- AUTH_GRANT (R79) -/
def execAuthGrant (port : Port) (tag : Byte) (fields : List Byte) (s : State) : Answered := .next (onAuthGrant port tag fields s)

/-- AUTH_DENY (R80) -/
def execAuthDeny (port : Port) (tag : Byte) (fields : List Byte) (s : State) : Answered := .next (onAuthDeny port tag fields s)

/-- LINK_STATE (R81) -/
def execLinkState (port : Port) (tag : Byte) (fields : List Byte) (s : State) : Answered := .next (onLinkState port tag fields s)

/-- POLICY_SET (R69) -/
def execPolicySet (port : Port) (tag : Byte) (fields : List Byte) (s : State) : Answered := .next (onPolicySet port tag fields s)

/-- TARIFF_SET (R91) -/
def execTariffSet (port : Port) (tag : Byte) (fields : List Byte) (s : State) : Answered := .next (onTariffSet port tag fields s)

/-- ATTR_SET (R13) -/
def execAttrSet (port : Port) (tag : Byte) (fields : List Byte) (s : State) : Answered := .next (onAttrSet port tag fields s)

/-- HIRE_CLOSE_REMOTE (R99) -/
def execHireCloseRemote (port : Port) (tag : Byte) (fields : List Byte) (s : State) : Answered := .next (onHireCloseRemote port tag fields s)

/-- HIRE_RESTORE (R100) -/
def execHireRestore (port : Port) (tag : Byte) (fields : List Byte) (s : State) : Answered := .next (onHireRestore port tag fields s)

/-- HIRE_READ (R98) -/
def execHireRead (port : Port) (tag : Byte) (fields : List Byte) (s : State) : Answered := .next (onHireRead port tag fields s)

/-- JOURNAL_PEEK (R161) -/
def execJournalPeek (port : Port) (tag : Byte) (fields : List Byte) (s : State) : Answered := .next (onJournalPeek port tag fields s)

/-- JOURNAL_RELEASE (R162) -/
def execJournalRelease (port : Port) (tag : Byte) (fields : List Byte) (s : State) : Answered := .next (onJournalRelease port tag fields s)

/-- CONFIG_SET (R181) -/
def execConfigSet (port : Port) (tag : Byte) (fields : List Byte) (s : State) : Answered := .next (onConfigSet port tag fields s)

/-- TIME_SET (R184) -/
def execTimeSet (port : Port) (tag : Byte) (fields : List Byte) (s : State) : Answered := .next (onTimeSet port tag fields s)

/-- STATION_RESET (R187) -/
def execStationReset (port : Port) (tag : Byte) (fields : List Byte) (s : State) : Answered := .next (onStationReset port tag fields s)

/-- FULL_AUDIT (R144) -/
def execFullAudit (port : Port) (tag : Byte) (fields : List Byte) (s : State) : Answered := .next (onFullAudit port tag fields s)

/-- BATCH_OPEN (R104) -/
def execBatchOpen (port : Port) (tag : Byte) (fields : List Byte) (s : State) : Answered := .next (onBatchOpen port tag fields s)

/-- BATCH_TAKE (R112) -/
def execBatchTake (port : Port) (tag : Byte) (fields : List Byte) (s : State) : Answered := .next (onBatchTake port tag fields s)

/-- BATCH_CLOSE (R116) -/
def execBatchClose (port : Port) (tag : Byte) (fields : List Byte) (s : State) : Answered := .next (onBatchClose port tag fields s)

/-- BATCH_READ (R120) -/
def execBatchRead (port : Port) (tag : Byte) (fields : List Byte) (s : State) : Answered := .next (onBatchRead port tag fields s)

/-- DOCK_RESTORE (R131) -/
def execDockRestore (port : Port) (tag : Byte) (fields : List Byte) (s : State) : Answered := .next (onDockRestore port tag fields s)

/-- BIKE_CLEAR (R136) -/
def execBikeClear (port : Port) (tag : Byte) (fields : List Byte) (s : State) : Answered := .next (onBikeClear port tag fields s)

/-- FRAME_ATTEMPT_ENDED (R166) -/
def execFrameAttemptEnded (port : Port) (length : Byte) (s : State) : Answered := .next (onFrameAttemptEnded port length s)

/-- DOCK_FRAME_KIND_DISCARDED (R21) -/
def execDockFrameKindDiscarded (dock : Byte) (kind : Byte) (s : State) : Answered := .next (onDockFrameKindDiscarded dock kind s)

/-- LINE_RETURNS_TO_MARKING (R167) -/
def execLineReturnsToMarking (port : Port) (s : State) : Answered := .next (onLineReturnsToMarking port s)

end Sys2Proof.Machine
end

