-- ==== Sys2Proof/Machine/Dispatch.lean ====
section
/-! DEFINITION. The one dispatcher: every command of the table and its meaning. -/

namespace Sys2Proof.Machine

def exec (i : Instr) (s : State) : Host.Outcome State Fault Refusal :=
  match i with
  | .powerOn attentionLow => Sys2Proof.Machine.execPowerOn attentionLow s
  | .resetPinLow => Sys2Proof.Machine.execResetPinLow s
  | .resetPinHigh attentionLow => Sys2Proof.Machine.execResetPinHigh attentionLow s
  | .secondTick => Sys2Proof.Machine.execSecondTick s
  | .stationMinuteIncrease => Sys2Proof.Machine.execStationMinuteIncrease s
  | .releaseWindowExpiry dock => Sys2Proof.Machine.execReleaseWindowExpiry dock s
  | .ejectWindowExpiry dock => Sys2Proof.Machine.execEjectWindowExpiry dock s
  | .authTimeout => Sys2Proof.Machine.execAuthTimeout s
  | .batchIdleExpiry => Sys2Proof.Machine.execBatchIdleExpiry s
  | .senseTimerExpiry dock => Sys2Proof.Machine.execSenseTimerExpiry dock s
  | .patrolIntervalExpiry => Sys2Proof.Machine.execPatrolIntervalExpiry s
  | .patrolPostscalerExpiry => Sys2Proof.Machine.execPatrolPostscalerExpiry s
  | .leak => Sys2Proof.Machine.execLeak s
  | .pollHoldoffClear attentionLow => Sys2Proof.Machine.execPollHoldoffClear attentionLow s
  | .identRereadRetry => Sys2Proof.Machine.execIdentRereadRetry s
  | .auditPass => Sys2Proof.Machine.execAuditPass s
  | .dockAttentionLow => Sys2Proof.Machine.execDockAttentionLow s
  | .dockCommandSent => Sys2Proof.Machine.execDockCommandSent s
  | .dockResponseTimeout => Sys2Proof.Machine.execDockResponseTimeout s
  | .dockFrameIgnored bytes attentionLow => Sys2Proof.Machine.execDockFrameIgnored bytes attentionLow s
  | .opened dock => Sys2Proof.Machine.execOpened dock s
  | .lockedWith dock tag kind => Sys2Proof.Machine.execLockedWith dock tag kind s
  | .lockedEmpty dock => Sys2Proof.Machine.execLockedEmpty dock s
  | .statusIs dock tag flags => Sys2Proof.Machine.execStatusIs dock tag flags s
  | .senseStarted dock => Sys2Proof.Machine.execSenseStarted dock s
  | .noEvent dock => Sys2Proof.Machine.execNoEvent dock s
  | .inserted dock tag kind attentionLow => Sys2Proof.Machine.execInserted dock tag kind attentionLow s
  | .removed dock attentionLow => Sys2Proof.Machine.execRemoved dock attentionLow s
  | .lockFault dock attentionLow => Sys2Proof.Machine.execLockFault dock attentionLow s
  | .senseDone dock level attentionLow => Sys2Proof.Machine.execSenseDone dock level attentionLow s
  | .requestFrameBadCheck port bytes => Sys2Proof.Machine.execRequestFrameBadCheck port bytes s
  | .interByteTimeout port => Sys2Proof.Machine.execInterByteTimeout port s
  | .framingError port => Sys2Proof.Machine.execFramingError port s
  | .portReset port => Sys2Proof.Machine.execPortReset port s
  | .requestFrameWaiting port code tag fields => Sys2Proof.Machine.execRequestFrameWaiting port code tag fields s
  | .replySent port => Sys2Proof.Machine.execReplySent port s
  | .unknownRequest port code tag fields => Sys2Proof.Machine.execUnknownRequest port code tag fields s
  | .takeNotice port tag fields => Sys2Proof.Machine.execTakeNotice port tag fields s
  | .peekNotice port tag fields => Sys2Proof.Machine.execPeekNotice port tag fields s
  | .endNotice port tag fields => Sys2Proof.Machine.execEndNotice port tag fields s
  | .setNoticeMask port tag fields => Sys2Proof.Machine.execSetNoticeMask port tag fields s
  | .dockRead port tag fields => Sys2Proof.Machine.execDockRead port tag fields s
  | .configRead port tag fields => Sys2Proof.Machine.execConfigRead port tag fields s
  | .hireStart port tag fields => Sys2Proof.Machine.execHireStart port tag fields s
  | .hireQuery port tag fields => Sys2Proof.Machine.execHireQuery port tag fields s
  | .reportFault port tag fields => Sys2Proof.Machine.execReportFault port tag fields s
  | .dockList port tag fields => Sys2Proof.Machine.execDockList port tag fields s
  | .cardSet port tag fields => Sys2Proof.Machine.execCardSet port tag fields s
  | .cardRemove port tag fields => Sys2Proof.Machine.execCardRemove port tag fields s
  | .cardRead port tag fields => Sys2Proof.Machine.execCardRead port tag fields s
  | .authList port tag fields => Sys2Proof.Machine.execAuthList port tag fields s
  | .authGrant port tag fields => Sys2Proof.Machine.execAuthGrant port tag fields s
  | .authDeny port tag fields => Sys2Proof.Machine.execAuthDeny port tag fields s
  | .linkState port tag fields => Sys2Proof.Machine.execLinkState port tag fields s
  | .policySet port tag fields => Sys2Proof.Machine.execPolicySet port tag fields s
  | .tariffSet port tag fields => Sys2Proof.Machine.execTariffSet port tag fields s
  | .attrSet port tag fields => Sys2Proof.Machine.execAttrSet port tag fields s
  | .hireCloseRemote port tag fields => Sys2Proof.Machine.execHireCloseRemote port tag fields s
  | .hireRestore port tag fields => Sys2Proof.Machine.execHireRestore port tag fields s
  | .hireRead port tag fields => Sys2Proof.Machine.execHireRead port tag fields s
  | .journalPeek port tag fields => Sys2Proof.Machine.execJournalPeek port tag fields s
  | .journalRelease port tag fields => Sys2Proof.Machine.execJournalRelease port tag fields s
  | .configSet port tag fields => Sys2Proof.Machine.execConfigSet port tag fields s
  | .timeSet port tag fields => Sys2Proof.Machine.execTimeSet port tag fields s
  | .stationReset port tag fields => Sys2Proof.Machine.execStationReset port tag fields s
  | .fullAudit port tag fields => Sys2Proof.Machine.execFullAudit port tag fields s
  | .batchOpen port tag fields => Sys2Proof.Machine.execBatchOpen port tag fields s
  | .batchTake port tag fields => Sys2Proof.Machine.execBatchTake port tag fields s
  | .batchClose port tag fields => Sys2Proof.Machine.execBatchClose port tag fields s
  | .batchRead port tag fields => Sys2Proof.Machine.execBatchRead port tag fields s
  | .dockRestore port tag fields => Sys2Proof.Machine.execDockRestore port tag fields s
  | .bikeClear port tag fields => Sys2Proof.Machine.execBikeClear port tag fields s
  | .frameAttemptEnded port length => Sys2Proof.Machine.execFrameAttemptEnded port length s
  | .dockFrameKindDiscarded dock kind => Sys2Proof.Machine.execDockFrameKindDiscarded dock kind s
  | .lineReturnsToMarking port => Sys2Proof.Machine.execLineReturnsToMarking port s

end Sys2Proof.Machine
end

