-- ==== Sys2Proof/WellFormed.lean ====
section
/-! DEFINITION. Well-formed commands: the operands are such as the event of the row brings with it. `exec` is total and
does not ask for this; statements may. -/

namespace Sys2Proof

open Sys2Proof.Machine

/-- A dock number of one of the part's own timers (R1). -/
def dockInRange (d : Nat) : Bool := d < Config.docks

/-- The fields of a frame fit its length byte (R165). -/
def fieldsFit (fields : List Byte) : Bool := fields.length ≤ 248

/-- A dock unit's number, 0 to 63 (R19, R20). -/
def unitNumber (dock : Byte) : Bool := dock.toNat < Config.docks

/-- A complete reply frame on the dock bus: its start marker, a reply kind, and the length the kind gives (R20, R21). -/
def completeReply (bytes : List Byte) : Bool :=
  match bytes with
  | start :: _ :: kind :: _ => start == dockStart && replyFrameLength kind == some bytes.length
  | _ => false

/-- The operands are those of the row's own event. -/
def Instr.wellFormed : Instr → Bool
  | .releaseWindowExpiry d => dockInRange d
  | .ejectWindowExpiry d => dockInRange d
  | .senseTimerExpiry d => dockInRange d
  | .dockFrameIgnored bytes _ => completeReply bytes
  | .opened d => unitNumber d
  | .lockedWith d _ _ => unitNumber d
  | .lockedEmpty d => unitNumber d
  | .statusIs d _ _ => unitNumber d
  | .senseStarted d => unitNumber d
  | .noEvent d => d == 0xFF#8
  | .inserted d _ _ _ => unitNumber d
  | .removed d _ => unitNumber d
  | .lockFault d _ => unitNumber d
  | .senseDone d _ _ => unitNumber d
  | .requestFrameBadCheck _ bytes => frameComplete bytes && !frameChecks bytes
  | .requestFrameWaiting _ _ _ fields => fieldsFit fields
  | .unknownRequest _ code _ fields => (requestRow code).isNone && fieldsFit fields
  | .frameAttemptEnded _ length => !goodLength length
  | .dockFrameKindDiscarded _ kind => (replyFrameLength kind).isNone
  | .takeNotice _ _ f | .peekNotice _ _ f | .endNotice _ _ f | .setNoticeMask _ _ f | .dockRead _ _ f
  | .configRead _ _ f | .hireStart _ _ f | .hireQuery _ _ f | .reportFault _ _ f | .dockList _ _ f
  | .cardSet _ _ f | .cardRemove _ _ f | .cardRead _ _ f | .authList _ _ f | .authGrant _ _ f | .authDeny _ _ f
  | .linkState _ _ f | .policySet _ _ f | .tariffSet _ _ f | .attrSet _ _ f | .hireCloseRemote _ _ f
  | .hireRestore _ _ f | .hireRead _ _ f | .journalPeek _ _ f | .journalRelease _ _ f | .configSet _ _ f
  | .timeSet _ _ f | .stationReset _ _ f | .fullAudit _ _ f | .batchOpen _ _ f | .batchTake _ _ f
  | .batchClose _ _ f | .batchRead _ _ f | .dockRestore _ _ f | .bikeClear _ _ f => fieldsFit f
  | .powerOn _ | .resetPinLow | .resetPinHigh _ | .secondTick | .stationMinuteIncrease | .authTimeout
  | .batchIdleExpiry | .patrolIntervalExpiry | .patrolPostscalerExpiry | .leak | .pollHoldoffClear _
  | .identRereadRetry | .auditPass | .dockAttentionLow | .dockCommandSent | .dockResponseTimeout
  | .interByteTimeout _ | .framingError _ | .portReset _ | .replySent _ | .lineReturnsToMarking _ => true

end Sys2Proof
end

