-- ==== Sys2Proof/Safety.lean ====
section
/-! DEFINITION. The laws that the manual states of the whole station, in the terms the statements use: the records of a
dock agree with its state (R4), no two docks hold one bike (R6), the Dock Command Queue (R27), cards and hires agree
(R63, R84, R85), the Auth Queue (R76), the batch (R103), the journal (R153, R159), the notice controllers (R173), the
clock (R183), the settings (R180, R181). -/

namespace Sys2Proof.Machine

/-! ## Docks -/

/-- The cells "absent" and "no" of a row of R4: owner, reserved, van hold, retire pending. -/
def Dock.plain (k : Dock) : Bool := k.owner.isNone && !k.reserved && !k.vanHold

/-- The fields of a dock record agree with its state (R4). -/
def Dock.agrees (k : Dock) : Bool :=
  match k.state with
  | .vacant => k.bike.isNone && k.plain && !k.retirePending
  | .reserved => k.bike.isNone && k.owner.isNone && k.reserved && !k.vanHold && !k.retirePending
  | .latching => k.plain && k.bike.any fun b => b.id.isNone
  | .held => k.bike.isSome && k.owner.isNone && !k.reserved && !k.retirePending
  | .claimed => k.bike.isSome && k.plain
  | .releasing =>
    !k.reserved &&
      (match k.owner with
       | some (.hire _) => !k.vanHold && k.bike.any fun b => b.id.isSome
       | some .batch => k.bike.isSome
       | none => false)
  | .ejecting => k.bike.isNone && k.plain
  | .retired => k.plain && !k.retirePending
  | .unverified => k.bike.isNone && k.plain

/-- Every dock record agrees with its state (R4). -/
def dockLaw (s : State) : Bool := s.docks.toList.all Dock.agrees

/-- The bike ids that the installed docks record (R6). -/
def dockedIds (s : State) : List Nat := s.installedDocks.filterMap fun d => (s.dock d).bike.bind Bike.id

/-- A bike id stands in at most one dock record, and in none while a hire of it is OUT or OVERDUE (R6). -/
def bikeLaw (s : State) : Bool :=
  decide (dockedIds s).Nodup && (dockedIds s).all fun b => (openHireOf b s).isNone

/-! ## The dock bus -/

/-- The docks of the queued commands and of the command in flight (R27). -/
def busyDocks (s : State) : List Nat :=
  s.bus.queue.map Cmd.dock ++ (match s.bus.inFlight with
    | some f => match f.what with
      | .command c => [c.dock]
      | .poll => []
    | none => [])

/-- The queue has 16 places, each dock at most one command queued or in flight, and no command is for a dock at or above
N (R27). -/
def queueLaw (s : State) : Bool :=
  s.bus.queue.length ≤ Config.queuePlaces && decide (busyDocks s).Nodup && (busyDocks s).all (· < s.installed)

/-- A dock at or above N has no record in use, so its record stands as at power-on, and neither the patrol nor an audit
comes to it (R1, R7, R9, R138, R144). -/
def installedLaw (s : State) : Bool :=
  (List.range Config.docks).all (fun d => d < s.installed || s.dock d == Dock.powerOn) &&
    s.patrol.cursor < s.installed && s.audit.toDo.all (· < s.installed) && s.audit.outstanding.all (· < s.installed) &&
    s.audit.counted.all (· < s.installed)

/-! ## Cards, hires and authorizations -/

/-- The hires that name a card (R63). -/
def hiresOf (id : Nat) (s : State) : List Hire := s.hires.filter fun r => r.card == id

/-- Every card's balance lies in its range, and its open count and held amount agree with the hire records (R63). -/
def cardLaw (s : State) : Bool :=
  s.cards.length ≤ Config.cardPlaces && decide (s.cards.map Card.id).Nodup &&
    s.cards.all fun c =>
      Config.balanceLow ≤ c.balance && c.balance ≤ Config.balanceHigh && c.openCount == (hiresOf c.id s).length &&
        c.held == ((hiresOf c.id s).map Hire.holdAmount).sum

/-- The docks that release for a hire number. -/
def releasingFor (h : Nat) (s : State) : List Nat :=
  s.installedDocks.filter fun d => (s.dock d).state == .releasing && (s.dock d).owner == some (.hire h)

/-- Hire numbers and bikes are unique, every hire's card is in the table, and a STARTING hire is the release owner of
exactly the dock it names, or that dock is UNVERIFIED while the station is STARTING (R83, R84, R85). -/
def hireLaw (s : State) : Bool :=
  s.hires.length ≤ Config.hirePlaces && decide (s.hires.map Hire.number).Nodup &&
    decide (s.hires.map Hire.bike).Nodup &&
    s.hires.all (fun r => (findCard r.card s).isSome && (r.state == .starting || r.start.isSome) &&
      (r.state != .starting ||
        (match r.dockFrom with
         | some d => releasingFor r.number s == [d] ||
             (s.station == .starting && releasingFor r.number s == [] && (s.dock d).state == .unverified)
         | none => false))) &&
    s.installedDocks.all (fun d => match (s.dock d).owner with
      | some (.hire h) => s.hires.any fun r => r.number == h && r.state == .starting
      | some .batch => s.batch.isSome
      | none => true)

/-- The Auth Queue: at most 8 entries with distinct tags 1 to 255, cards and docks, naming exactly the CLAIMED docks; it
is empty while the link is OFFLINE (R76, R81). -/
def authLaw (s : State) : Bool :=
  s.authQueue.length ≤ Config.authPlaces && decide (s.authQueue.map AuthEntry.tag).Nodup &&
    s.authQueue.all (fun e => 1 ≤ e.tag && e.tag ≤ 255) && decide (s.authQueue.map AuthEntry.card).Nodup &&
    decide (s.authQueue.map AuthEntry.dock).Nodup &&
    s.authQueue.all (fun e => (s.dock e.dock).state == .claimed) &&
    s.installedDocks.all (fun d => (s.dock d).state != .claimed || s.authQueue.any fun e => e.dock == d) &&
    (s.link == .online || s.authQueue.isEmpty)

/-! ## Batch and faults -/

/-- No reservation or van hold without a batch; reservations only under DELIVER and never more than the pending
entries; van holds only under COLLECT (R103). -/
def batchLaw (s : State) : Bool :=
  match s.batch with
  | none => (reservedDocks s).isEmpty && (vanHoldDocks s).isEmpty
  | some b =>
    match b.kind with
    | .deliver => (vanHoldDocks s).isEmpty && (reservedDocks s).length ≤ b.pendingCount
    | .collect => (reservedDocks s).isEmpty

/-- The Bike Fault Table: at most 32 entries with distinct bike ids and counts of at most 15 (R132). -/
def bikeFaultLaw (s : State) : Bool :=
  s.bikeFaults.length ≤ Config.bikeFaultPlaces && decide (s.bikeFaults.map BikeFault.bike).Nodup &&
    s.bikeFaults.all fun f => f.count ≤ Config.faultTop

/-! ## The journal -/

/-- Sequence numbers rise by exactly one, with the wrap, from `n` on, and end at `last` (R153, R155). -/
def sequenceFrom : Nat → List Record → Nat → Bool
  | n, [], last => n == last
  | n, r :: rest, last => r.seq == n && sequenceFrom ((n + 1) % Config.sequenceNumbers) rest last

/-- At most 256 records with sequence numbers that rise by one up to the counter, and a full journal is HELD (R153,
R155, R159). -/
def journalLaw (j : Journal) : Bool :=
  j.records.length ≤ Config.journalPlaces && sequenceFrom (oldestSeq j) j.records j.nextSeq &&
    j.nextSeq < Config.sequenceNumbers && j.lost ≤ Config.lostTop &&
    (j.records.length < Config.journalPlaces || j.held) && (!j.overrun || 0 < j.lost)

/-! ## Ports, clock and settings -/

/-- A notice controller holds each kind of its port pending at most once and in service at most once, and its mask level
is 0 to 7 (R173). -/
def noticeLaw (p : Port) (x : PortState) : Bool :=
  decide (x.pending.map Notice.kind).Nodup && decide x.inService.Nodup &&
    x.pending.all (fun n => n.kind.port == p) && x.inService.all (fun k => k.port == p) && x.mask ≤ 7

/-- The notice controllers of the three ports (R173). -/
def noticesLaw (s : State) : Bool :=
  noticeLaw .terminal s.terminal && noticeLaw .uplink s.uplink && noticeLaw .service s.service

/-- The sub-count is 0 to 59 and the minute counter 32 bits (R183). -/
def clockLaw (s : State) : Bool := s.clock.second < 60 && s.clock.minute ≤ Config.lastMinute

/-- Every setting lies in its range (the station number may be unset) and the lower watermark below the upper (R180,
R181); N lies in 8 to 64 (R1). -/
def settingsLaw (s : State) : Bool :=
  (List.range 18).all (fun i => ({ field := i + 1, value := s.settings.get (i + 1) } : ConfigSetting).inRange) &&
    s.settings.stationNumber ≤ 65535 && s.settings.lowerWatermark < s.settings.upperWatermark &&
    8 ≤ s.installed && s.installed ≤ 64

/-! ## The audit -/

/-- The station is STARTING exactly while the start-up audit runs (R147, R185), an audit runs while a dock is to do or
outstanding, and every outstanding dock has the audit's STATUS queued or in flight (R144). -/
def auditLaw (s : State) : Bool :=
  (s.station == .starting) == (s.audit.kind == .startUp) &&
    (s.audit.kind != .idle || (s.audit.toDo.isEmpty && s.audit.outstanding.isEmpty)) &&
    s.audit.outstanding.all (fun d => ((queuedAt d s).toList ++ (inFlightAt d s).toList).any fun c =>
      c.owner == .patrol && c.kind == .status) &&
    decide s.audit.outstanding.Nodup

/-! ## Terms of the statements -/

/-- A dock record apart from what the Dock Bus Controller owes the dock (R27). -/
def Dock.unowed (k : Dock) : Dock := { k with owed := none }

/-- `t` is `s` but for the dock bus: what is queued, owed, polled and in flight (R27, R28, R32). -/
def BusOnly (s t : State) : Prop :=
  t = { s with bus := t.bus, docks := t.docks } ∧ ∀ d, (t.dock d).unowed = (s.dock d).unowed

/-- The port receives, no reply is in transmission and no frame waits, so that a frame is taken when it completes
(R168). -/
abbrev Free (p : Port) (s : State) : Prop :=
  deaf p s = false ∧ (s.port p).reply = none ∧ (s.port p).waiting = none

/-- A request frame of this code and these fields is taken at once and passes the checks of R169, so that it reaches
the block that owns it (R168). -/
abbrev Taken (code : Byte) (p : Port) (fields : List Byte) (s : State) : Prop :=
  Free p s ∧ portChecks code p fields s.station = none

/-- The request codes of R169, each with the command that is its frame's arrival. -/
def requestCommands : List (Byte × (Port → Byte → List Byte → Instr)) :=
    [(0x01#8, .takeNotice), (0x02#8, .peekNotice), (0x03#8, .endNotice), (0x04#8, .setNoticeMask),
     (0x08#8, .dockRead), (0x09#8, .configRead), (0x10#8, .hireStart), (0x11#8, .hireQuery),
     (0x12#8, .reportFault), (0x13#8, .dockList), (0x20#8, .cardSet), (0x21#8, .cardRemove), (0x22#8, .cardRead),
     (0x23#8, .authList), (0x24#8, .authGrant), (0x25#8, .authDeny), (0x26#8, .linkState), (0x28#8, .policySet),
     (0x29#8, .tariffSet), (0x2A#8, .attrSet), (0x2C#8, .hireCloseRemote), (0x2D#8, .hireRestore),
     (0x2E#8, .hireRead), (0x30#8, .journalPeek), (0x31#8, .journalRelease), (0x34#8, .configSet),
     (0x35#8, .timeSet), (0x36#8, .stationReset), (0x37#8, .fullAudit), (0x40#8, .batchOpen), (0x41#8, .batchTake),
     (0x42#8, .batchClose), (0x43#8, .batchRead), (0x44#8, .dockRestore), (0x45#8, .bikeClear)]

/-- The state after a request of port `p` whose effects make `t`: the reply is in transmission, and no partial
frame is left (R165, R166, R168). -/
def WithReply (code tag : Byte) (p : Port) (r : Result) (reply : List ReplyField) (t : State) : State :=
  setPort p { t.port p with
    partialFrame := []
    reply := some { code := code + 0x80#8, tag := tag, result := r, fields := reply } } t

/-- A request answered `r` with these fields, which changes nothing else. -/
def Reads (code tag : Byte) (p : Port) (r : Result) (reply : List ReplyField) (s : State) : State :=
  WithReply code tag p r reply s

/-- The record of a dock that an operation leaves HELD with the bike it has (R4, R45, R60). -/
def heldRecord (k : Dock) : Dock :=
  { k with state := .held, owner := none, reserved := false, identRetries := 0, phase := none, window := none,
           rereadAgain := false }

/-- The record of a dock that an operation leaves VACANT (R4, R45, R60). -/
def vacantRecord (k : Dock) : Dock :=
  { Dock.powerOn with state := .vacant, faultCount := k.faultCount, owed := k.owed }

/-- A bike record as an arrival makes it (R3). -/
def arrivedBike (id : Option Nat) (kind : BikeKind) (now : Nat) : Bike :=
  { id := id, kind := kind, dockedSince := now, charge := none, sense := none }

/-- Nothing is queued, in flight or owed for dock `d` (R34). -/
abbrev HandsFree (d : Nat) (s : State) : Prop :=
  (s.dock d).owed = none ∧ (∀ x ∈ s.bus.queue, x.dock ≠ d) ∧
    (∀ x n, s.bus.inFlight = some { what := .command x, ticks := n } → x.dock ≠ d)

/-- The command in flight (R27). -/
def InFlightIs (c : Cmd) (s : State) : Prop := ∃ n, s.bus.inFlight = some { what := .command c, ticks := n }

/-- The command has been placed and stands: queued, or already on the bus (R27, R28). -/
def Placed (c : Cmd) (s : State) : Prop := c ∈ s.bus.queue ∨ InFlightIs c s

/-- A LOCK or REJECT of the Release and Return Unit, for an operation in progress at dock `d`, is queued, in flight or
owed (R29). -/
def OwnStands (kind : CmdKind) (d : Nat) (s : State) : Prop :=
  Placed { kind := kind, dock := d, owner := .release, live := true } s ∨
    (s.dock d).owed = some { kind := kind, owner := .release, live := true }

/-- The bus goes on by R28 when the exchange on the bus `old` has ended and no lock is owed: `new` has taken the oldest
command of the lowest-numbered class that has one, the EVENT_POLL between classes 2 and 4, or is free. -/
def GoesOn (old new : Bus) : Prop :=
  new.partialFrame = [] ∧ new.handing = false ∧
  (old.queue = [] → old.pollSlot = false → new.queue = [] ∧ new.pollSlot = false ∧ new.inFlight = none) ∧
  (old.pollSlot = true → (∀ x ∈ old.queue, x.kind.class = 4) →
    new.queue = old.queue ∧ new.pollSlot = false ∧ new.inFlight = some { what := .poll, ticks := none }) ∧
  (∀ (older : List Cmd) (c : Cmd) (younger : List Cmd), old.queue = older ++ c :: younger →
    (∀ x ∈ old.queue, c.kind.class ≤ x.kind.class) → (∀ x ∈ older, x.kind.class ≠ c.kind.class) →
    (c.kind.class = 4 → old.pollSlot = false) →
    new.queue = older ++ younger ∧ new.pollSlot = old.pollSlot ∧
      new.inFlight = some { what := .command c, ticks := none })

/-- The exchange on the bus has ended: what is in flight, if anything, has just been taken, its last byte not sent (R35,
R36, R37). -/
def ExchangeOver (s : State) : Prop := ∀ f, s.bus.inFlight = some f → f.ticks = none

/-- An UNLATCH at dock `d` is refused: the dock has a command owed, in flight, or queued that does not give way to it, or
it has none and every place is full (R30). -/
abbrev UnlatchRefused (d : Nat) (s : State) : Prop :=
  (s.dock d).owed.isSome ∨ (∃ x, InFlightIs x s ∧ x.dock = d) ∨
    ((∃ x ∈ s.bus.queue, x.dock = d) ∧ ∀ x ∈ s.bus.queue, x.dock = d → x.kind ≠ .status ∧ x.kind ≠ .senseStart) ∨
    ((∀ x ∈ s.bus.queue, x.dock ≠ d) ∧ 16 ≤ s.bus.queue.length)

/-- No expiry of an earlier tick is waiting: no periodic timer, authorization, window, sense or response has come to its
expiry (assumption log 1). -/
def NothingWaits (s : State) : Prop :=
  s.due = Due.nothing ∧ (∀ e ∈ s.authQueue, e.timedOut = false) ∧
    (∀ d, d < s.installed → windowDue .opened (s.dock d) = false ∧ windowDue .ejectOpen (s.dock d) = false ∧
      senseDue (s.dock d) = false) ∧
    (∀ f, s.bus.inFlight = some f → responseDue f = false)

/-- The STATUS of an audit or of the patrol at dock `d` (R27, R139, R145). -/
def auditStatus (d : Nat) : Cmd := { kind := .status, dock := d, owner := .patrol, live := true }

/-- The Dock Bus Controller with nothing queued, placed or in flight (R39). -/
def emptyBus (low : Bool) : Bus where
  queue := []
  pollSlot := false
  holdoff := false
  inFlight := none
  attentionLow := low
  partialFrame := []
  handing := false

/-- How many docks the first pass of a start-up audit over `n` docks reaches: the 16 places of the queue, and one more
that the idle bus takes at once if no poll has it (R27, R28, R145). -/
def firstPass (low : Bool) (n : Nat) : Nat := min (if low then 16 else 17) n

/-- The Dock Bus Controller after the first pass of a start-up audit: a poll is on the bus if the wire is low, else the
STATUS for dock 0, and the STATUS commands of the other docks reached wait in order (R25, R28, R145). -/
def startBus (low : Bool) (n : Nat) : Bus :=
  { emptyBus low with
    queue := ((List.range (firstPass low n)).drop (if low then 0 else 1)).map auditStatus
    inFlight := some { what := if low then .poll else .command (auditStatus 0), ticks := none } }

/-- The audit state after that pass (R145). -/
def startAudit (low : Bool) (n : Nat) : Audit where
  kind := .startUp
  toDo := (List.range n).drop (firstPass low n)
  outstanding := List.range (firstPass low n)
  mismatches := 0
  counted := []

/-- `t` is `s` after the overdue check at the minute of `s`: every OUT hire that has reached its max duration is OVERDUE,
with a journal record for each in the order of start minute and hire number, and the notice raised (R96). -/
def OverdueChecked (s t : State) : Prop :=
  t = { s with
    hires := s.hires.map fun r => if r.state = .out ∧ r.terms.maxDuration ≤ s.clock.minute - r.start.getD s.clock.minute
      then { r with state := .overdue } else r
    journal := t.journal
    uplink := { s.uplink with pending := t.uplink.pending } } ∧
  ∃ l : List Hire,
    l.Perm (s.hires.filter fun r => r.state == .out && r.terms.maxDuration ≤ s.clock.minute - r.start.getD s.clock.minute) ∧
    l.Pairwise (fun a b => a.start.getD 0 < b.start.getD 0 ∨ (a.start.getD 0 = b.start.getD 0 ∧ a.number ≤ b.number)) ∧
    t.journal = (l.foldl (fun u r => enterRecord (.hireOverdue r.number r.card r.bike) u) s).journal ∧
    ∀ r, l.getLast? = some r → Notice.hireOverdue r.number ∈ t.uplink.pending

end Sys2Proof.Machine
end

