-- ==== Sys2Proof/Certificates/Slice0/Obligations.lean ====
section
/-! DEFINITION. The statements for the provers. Each is about every state unless it says otherwise; where it names what
may change it gives the whole next state, so that everything it does not name is unchanged. -/

section Statements

open Sys2Proof Sys2Proof.Machine

/-! ## The queue of commands, power-on and resets -/

/-- A step takes the command at the front of the queue and is exec of it with the queue's rest (R168: one event at a
time). On an empty queue the part idles, which is the model's choice (assumption log 9). -/
def Obligations.StepTakesFront : Prop :=
  (∀ (c : Instr) (rest : List Instr) (s : State), s.pending = c :: rest → step s = exec c { s with pending := rest }) ∧
  (∀ s : State, s.pending = [] → step s = .next s)

/-- The values that R7, R10, R63, R68, R76, R81, R83, R87, R90, R102, R132, R138, R155, R172, R180, R183 and R185 give
at power-on. -/
def Obligations.ResetValues : Prop :=
  let s := State.reset
  (∀ d, d < 64 → (s.dock d).state = .unverified ∧ (s.dock d).bike = none ∧ (s.dock d).owner = none ∧
    (s.dock d).reserved = false ∧ (s.dock d).vanHold = false ∧ (s.dock d).faultCount = 0 ∧
    (s.dock d).retirePending = false ∧ (s.dock d).owed = none ∧ (s.dock d).identRetries = 0) ∧
  s.installed = 64 ∧
  (∀ g, g < 16 → s.group g = { releasePermitted := true, returnPermitted := true, cls := .standard }) ∧
  (∀ i, i < 8 → s.policy i = { tariff := 0, holdAmount := 3000, maxHires := 1, electricPermitted := false,
                               discount := 0, maxDuration := 1440 }) ∧
  (∀ i, i < 4 → s.tariff i = { a := 30, b := 30, p := 100, q := 50, c := 1500 }) ∧
  ((List.range 19).map fun i => s.settings.get (i + 1)) =
    [64, 30, 20, 20, 4, 3, 2, 24, 0x0100, 1, 4, 1, 30, 25, 10, 224, 160, 0, 0] ∧
  s.cards = [] ∧ s.hires = [] ∧ s.authQueue = [] ∧ s.bikeFaults = [] ∧ s.batch = none ∧ s.lastHire = 0 ∧
  s.lastTag = 0 ∧ s.link = .offline ∧ s.station = .starting ∧ s.clock = { minute := 0, second := 0 } ∧
  s.patrol = { cursor := 0, interval := 0, cycles := 0, postscaler := 0 } ∧
  s.journal.records = [] ∧ s.journal.nextSeq = 1 ∧ s.journal.lost = 0 ∧ s.journal.held = false ∧
  s.journal.overrun = false ∧
  (∀ p, (s.port p).pending = [] ∧ (s.port p).inService = [] ∧ (s.port p).mask = 7)

/-- POWER_ON from any state: every table at its power-on value, an EVENT_POLL first if the attention wire is low, and
the first pass of the start-up audit up to a full Dock Command Queue (R186, R25, R39, R145, R147). The commands that
wait outside the part stay, which is the form of the model's queue. That the RESET pin is taken as high and every
receive line as marking right after POWER_ON, whatever they were before, is the model's choice (assumption log 3).
RESET_PIN_HIGH after a station reset by the pin: the hold ends, an EVENT_POLL is placed if the wire is low, and the
start-up audit makes its first pass (R187, R25, R145, R147). -/
def Obligations.StartUpBegins : Prop :=
  (∀ (low : Bool) (s : State),
     exec (.powerOn low) s = .next { State.reset with
       pending := s.pending, bus := startBus low 64, audit := startAudit low 64 }) ∧
  (∀ (low : Bool) (s : State), s.pinLow = true → 0 < s.installed → s.bus = emptyBus s.bus.attentionLow →
     s.audit = { kind := .startUp, toDo := List.range s.installed, outstanding := [], mismatches := 0, counted := [] } →
     (∀ d, d < s.installed → (s.dock d).owed = none) →
     exec (.resetPinHigh low) s = .next { s with
       pinLow := false, bus := startBus low s.installed, audit := startAudit low s.installed })

/-- A station reset, by the RESET pin and by STATION_RESET, of a station no dock of which is dropped (R187, R8, R9,
R39, R76, R81, R119, R138, R163, R172). The whole state after it, the Dock Table record by record. The RESET pin holds
the bus and the audit until it returns high; after a STATION_RESET the first pass follows at once. That STATION_RESET
reads the attention wire as last seen is the model's choice (assumption log 10), as is what becomes of the marks of the
second tick: a clock already counted for the coming tick and a leak that has come due stay, for the clock and the leak
timer run on (assumption log 1). A station reset that drops one dock (R9): its record is at power-on, its bike is
journaled missing, and a STARTING hire that names it is cancelled with its hold released (R89, R73). Several dropped
docks, and a drop with a batch open, are not stated. -/
def Obligations.StationReset : Prop :=
  (∀ s : State, s.installed ≤ s.settings.docksNext → 8 ≤ s.settings.docksNext → s.settings.docksNext ≤ 64 →
     let n := s.settings.docksNext
     let j := match s.batch with
       | some b => (enterRecord (.batchClosed b.crew b.kind .reset b.done b.pendingCount) s).journal
       | none => s.journal
     let notices := (if 0 < j.records.length then [Notice.journalData j.records.length] else []) ++
       (if j.held then [Notice.journalHigh j.records.length] else [])
     let docksReset (t : State) : Prop := ∀ d, d < n → t.dock d =
       if d < s.installed then
         if (s.dock d).state = .retired then
           { Dock.powerOn with
             state := .retired
             bike := (s.dock d).bike.map fun b => { b with sense := none }
             faultCount := (s.dock d).faultCount }
         else { Dock.powerOn with faultCount := (s.dock d).faultCount, retirePending := (s.dock d).retirePending }
       else Dock.powerOn
     let after (bus : Bus) (audit : Audit) (t : State) : State :=
       { s with
         docks := t.docks, station := .starting, installed := n, bus := bus, audit := audit, authQueue := [],
         link := .offline, batch := none, journal := j
         due := { Due.nothing with minuteTaken := s.due.minuteTaken, leak := s.due.leak }
         patrol := { cursor := 0, interval := 0, cycles := 0, postscaler := 0 }
         terminal := { PortState.powerOn with reply := s.terminal.reply, atSpacing := s.terminal.atSpacing }
         uplink := { PortState.powerOn with
           reply := s.uplink.reply, atSpacing := s.uplink.atSpacing, pending := notices }
         service := { PortState.powerOn with reply := s.service.reply, atSpacing := s.service.atSpacing } }
     (s.pinLow = false → ∃ t, exec .resetPinLow s = .next t ∧ docksReset t ∧
       t = { after (emptyBus s.bus.attentionLow)
               { kind := .startUp, toDo := List.range n, outstanding := [], mismatches := 0, counted := [] } t with
             pinLow := true }) ∧
     (∀ (p : Port) (tag : Byte) (fields : List Byte), Taken 0x36#8 p fields s →
       ∃ t, exec (.stationReset p tag fields) s = .next t ∧ docksReset t ∧
         t = modPort p (fun x => { x with reply := some { code := 0xB6#8, tag := tag, result := .ok, fields := [] } })
           (after (startBus s.bus.attentionLow n) (startAudit s.bus.attentionLow n) t))) ∧
  (∀ (s : State) (m : Nat), s.pinLow = false → s.settings.docksNext = m → s.installed = m + 1 → 8 ≤ m → m < 64 →
     s.batch = none →
     ∃ t, exec .resetPinLow s = .next t ∧ t.installed = m ∧ t.dock m = Dock.powerOn ∧
       ((s.dock m).bike = none → t.journal = s.journal) ∧
       (∀ b, (s.dock m).bike = some b → t.journal = (enterRecord (.bikeMissing (b.id.getD 0) m) s).journal) ∧
       (startingHireAt m s = none → t.hires = s.hires ∧ t.cards = s.cards) ∧
       (∀ r, startingHireAt m s = some r →
         r.state = .starting ∧ r.dockFrom = some m ∧ t.hires = s.hires.filter (fun x => x.number != r.number) ∧
           t.cards = s.cards.map fun c => if c.id = r.card then
             { c with held := c.held - r.holdAmount, openCount := c.openCount - 1 } else c) ∧
       t.settings = s.settings ∧ t.clock = s.clock ∧ t.policies = s.policies ∧ t.tariffs = s.tariffs ∧
       t.attrs = s.attrs ∧ t.bikeFaults = s.bikeFaults ∧ t.lastHire = s.lastHire ∧ t.lastTag = s.lastTag ∧
       t.leakTimer = s.leakTimer)

/-! ## The second tick and the clock -/

/-- A second tick at which no expiry of an earlier tick waits: at the clock the sub-count rises by 1; at 60 it becomes
0, the counter rises by 1 and the overdue check runs at the new minute, in one act; a counter at 4,294,967,295 stays
there (R96, R183). Every timer counts the tick, and what comes to its expiry is marked (R25, R35, R45, R59, R78, R117,
R127, R139, R145, R151). That an expiry is a mark which the row of its own takes up, and that STATION_MINUTE_INCREASE
may have taken the clock's part of the tick before it, which then leaves the clock alone, is the model's choice
(assumption log 1). -/
def Obligations.SecondTickCounts : Prop :=
  ∀ s : State, NothingWaits { s with due := { s.due with minuteTaken := false } } → s.clock.second < 60 →
    let runs := s.settings.patrolEnable = 1 ∧ s.station = .ready ∧ s.audit.kind = .idle
    let counted (u : State) : State := { u with
      docks := s.docks.map fun k => { k with
        window := k.window.map fun w => { w with ticks := w.ticks + 1 }
        bike := k.bike.map fun b => { b with sense := b.sense.map fun n => n + 1 } }
      bus := { s.bus with inFlight := s.bus.inFlight.map fun f => { f with ticks := f.ticks.map fun n => n + 1 } }
      authQueue := s.authQueue.map fun e =>
        if e.remaining = 0 then { e with timedOut := true } else { e with remaining := e.remaining - 1 }
      batch := s.batch.map fun b => if b.expiryWaiting then b else { b with idle := b.idle - 1 }
      leakTimer := s.leakTimer + 1
      patrol := if runs then { s.patrol with interval := s.patrol.interval + 1 } else s.patrol
      due := {
        minuteTaken := false
        idle := s.batch.any fun b => !b.expiryWaiting && b.idle == 0
        patrol := decide (runs ∧ s.settings.patrolInterval ≤ s.patrol.interval + 1)
        postscaler := false
        leak := decide (3600 * s.settings.leakPeriod ≤ s.leakTimer + 1)
        holdoff := s.bus.holdoff
        reread := s.installedDocks.any fun d => (s.dock d).state == .latching
        auditPass := s.audit.kind != .idle } }
    (s.due.minuteTaken = true → exec .secondTick s = .next (counted s)) ∧
    (s.due.minuteTaken = false → s.clock.second < 59 →
      exec .secondTick s = .next (counted { s with clock := { s.clock with second := s.clock.second + 1 } })) ∧
    (s.due.minuteTaken = false → s.clock.second = 59 → 4294967295 ≤ s.clock.minute →
      exec .secondTick s = .next (counted { s with clock := { s.clock with second := 0 } })) ∧
    (s.due.minuteTaken = false → s.clock.second = 59 → s.clock.minute < 4294967295 →
      (s.hires.map Hire.number).Nodup →
      ∃ u, OverdueChecked { s with clock := { minute := s.clock.minute + 1, second := 0 } } u ∧
        exec .secondTick s = .next (counted u))

/-- STATION_MINUTE_INCREASE with the sub-count at 59: the sub-count becomes 0, the counter rises by 1 and the overdue
check runs at the new minute, in one act (R96, R183); it is the clock's part of the tick to come, which is marked as
taken, and at another sub-count or with the counter at its top the row changes nothing (assumption log 1). TIME_SET: a
value below the station minute is refused with REFUSED_RANGE; any other becomes the minute with the sub-count 0, the
overdue check runs at it, and the reply carries the minute before and after (R184, R96). -/
def Obligations.MinutesAdvance : Prop :=
  (∀ s : State,
     (s.clock.second = 59 → s.clock.minute < 4294967295 → (s.hires.map Hire.number).Nodup →
       ∃ t, exec .stationMinuteIncrease s = .next t ∧ OverdueChecked { s with
         clock := { minute := s.clock.minute + 1, second := 0 }, due := { s.due with minuteTaken := true } } t) ∧
     (s.clock.second < 59 ∨ 4294967295 ≤ s.clock.minute → exec .stationMinuteIncrease s = .next s)) ∧
  (∀ (s : State) (p : Port) (tag : Byte) (fields : List Byte), (s.hires.map Hire.number).Nodup → Taken 0x35#8 p fields s →
     let v := numAt fields 0 4
     if v < s.clock.minute then
       exec (.timeSet p tag fields) s = .next (Reads 0x35#8 tag p .refusedRange [] s)
     else
       ∃ u, OverdueChecked { s with clock := { minute := v, second := 0 } } u ∧
         exec (.timeSet p tag fields) s = .next (WithReply 0x35#8 tag p .ok [.num 4 s.clock.minute, .num 4 v] u))

/-- The station minute never falls but at power-on, and the sub-count and the counter keep their ranges, at every step
from every state (R183, R184). -/
def Obligations.ClockNeverRunsBack : Prop :=
  ∀ s t : State, clockLaw s = true → step s = .next t →
    clockLaw t = true ∧ ((∀ low, s.pending.head? ≠ some (.powerOn low)) → s.clock.minute ≤ t.clock.minute)

/-! ## The Dock Table -/

/-- The hireable verdict, in the order of the table of R15, over the effective attributes of R11. -/
def Obligations.HireableVerdict : Prop :=
  ∀ (d : Nat) (s : State),
    let k := s.dock d
    let a := if s.settings.attributeEnable = 0 then { releasePermitted := true, returnPermitted := true, cls := .standard }
      else s.group (d / 4)
    let rider := (a.cls = .standard ∨ a.cls = .charging) ∧ a.releasePermitted = true
    let ready (b : Bike) := k.state = .held ∧ k.retirePending = false ∧ b.id.isSome ∧
      (∀ i f, b.id = some i → findBikeFault i s = some f → f.quarantined = false)
    let low (b : Bike) := b.kind = .electric ∧ a.cls = .charging ∧
      (∀ c, b.charge = some c → c.level < s.settings.minCharge)
    (k.vanHold = true → verdict d s = .vanHold) ∧
    (k.vanHold = false → ¬ rider → verdict d s = .notPermitted) ∧
    (k.vanHold = false → rider → ∀ b, k.bike = some b → ready b → low b → verdict d s = .lowCharge) ∧
    (k.vanHold = false → rider → ∀ b, k.bike = some b → ready b → ¬ low b → verdict d s = .hireable) ∧
    (k.vanHold = false → rider → ∀ b, k.bike = some b → ¬ ready b → verdict d s = .notReady) ∧
    (k.vanHold = false → rider → k.bike = none → verdict d s = .notReady)

/-- The return permission check is a matter of the effective attributes alone (R16): it passes exactly when the
effective class is STANDARD or CHARGING and return is permitted, whatever else two states differ in. The laws of the
Dock Table, the Auth Queue and the batch at every step from every state of which they hold: every dock record agrees
with its state (R4) and no two installed docks hold one bike (R6); the Auth Queue has at most 8 entries with distinct
tags, cards and docks, which are the CLAIMED docks, and is empty while the link is OFFLINE (R76, R81); without a batch
no dock is RESERVED or held for the van, and the reserved docks never pass the pending entries of a DELIVER batch
(R103). With them go the ranges of the settings, the form of a manifest, the law of the Dock Command Queue, and that a
dock at or above N stands at power-on with neither command nor visit (R1, R27). While the station stays READY, no
docked bike has an OUT or OVERDUE hire (R6), hires and cards agree (R63), and every STARTING hire is the release owner
of exactly the dock that it names and that holds its bike (R83, R84, R85). A start-up audit can leave a docked bike OUT
(assumption log 23). -/
def Obligations.ReturnPermission : Prop :=
  (∀ (d : Nat) (s : State),
     returnAllowed d s = true ↔
       ((effective d s).cls = .standard ∨ (effective d s).cls = .charging) ∧ (effective d s).returnPermitted = true) ∧
  (let good (s : State) : Prop := settingsLaw s = true ∧ queueLaw s = true ∧ installedLaw s = true ∧ dockLaw s = true ∧
     (dockedIds s).Nodup ∧ authLaw s = true ∧ batchLaw s = true ∧
     ∀ b, s.batch = some b → b.kind = .deliver → b.target = 0 ∧ (b.manifest.map ManifestEntry.bike).Nodup
   let whole (s : State) : Prop := good s ∧ s.station = .ready ∧ cardLaw s = true ∧ bikeLaw s = true ∧ hireLaw s = true ∧
     ∀ r ∈ s.hires, r.state = .starting → ∀ d, r.dockFrom = some d → (s.dock d).bike.bind Bike.id = some r.bike
   good State.reset ∧ (∀ s t : State, good s → step s = .next t → good t) ∧
   ∀ s t : State, whole s → step s = .next t → t.station = .ready → whole t)

/-- DOCK_READ and DOCK_LIST answer from the Dock Table and change nothing but the reply of their port, DOCK_LIST
refused with STARTING while the station starts and with NOT_HERE on the Uplink Port (R17, R18, R170). A release owner
is sent as a presence byte and two bytes, which hold the hire number, or for the batch a free value that no rule gives
(assumption log 8). -/
def Obligations.DockReadAndList : Prop :=
  ∀ (s : State) (p : Port) (tag : Byte) (fields : List Byte),
    (Taken 0x08#8 p fields s →
      let d := numAt fields 0 1
      let k := s.dock d
      let yes (b : Bool) : ReplyField := .num 1 b.toNat
      (s.installed ≤ d → exec (.dockRead p tag fields) s = .next (Reads 0x08#8 tag p .noDock [] s)) ∧
      (d < s.installed → exec (.dockRead p tag fields) s = .next (Reads 0x08#8 tag p .ok
        [.num 1 d, .num 1 k.state.code, yes k.bike.isSome, .num 3 ((k.bike.bind Bike.id).getD 0),
         .num 1 (match k.bike with | some b => b.kind.code | none => 0),
         .num 4 (match k.bike with | some b => b.dockedSince | none => 0),
         yes (k.bike.bind Bike.charge).isSome,
         .num 1 (match k.bike.bind Bike.charge with | some c => c.level | none => 0),
         yes (k.bike.bind Bike.sense).isSome, yes (quarantined k s), yes k.owner.isSome,
         .num 2 (match k.owner with | some (.hire h) => h | some .batch => Config.batchOwner.toNat | none => 0),
         yes k.reserved, yes k.vanHold, yes k.retirePending, yes k.owed.isSome, .num 1 k.faultCount, .num 1 k.identRetries,
         yes (s.group (d / 4)).releasePermitted, yes (s.group (d / 4)).returnPermitted, .num 1 (s.group (d / 4)).cls.code,
         yes (effective d s).releasePermitted, yes (effective d s).returnPermitted, .num 1 (effective d s).cls.code,
         .num 1 (verdict d s).code] s))) ∧
    (Taken 0x13#8 p fields s →
      let count (test : Nat → Bool) : ReplyField := .num 1 ((List.range s.installed).countP test)
      let hireableOf (kind : BikeKind) (d : Nat) : Bool :=
        verdict d s == .hireable && (s.dock d).bike.any fun b => b.kind == kind
      exec (.dockList p tag fields) s = .next (Reads 0x13#8 tag p .ok
        [count (hireableOf .standard), count (hireableOf .electric),
         count (fun d => (s.dock d).state == .vacant && returnAllowed d s),
         count (fun d => (s.dock d).state == .retired)] s)) ∧
    (Free p s → p ≠ .uplink → fields = [] → s.station = .starting →
      exec (.dockList p tag fields) s = .next (Reads 0x13#8 tag p .starting [] s)) ∧
    (Free p s → p = .uplink → exec (.dockList p tag fields) s = .next (Reads 0x13#8 tag p .notHere [] s))

/-- ATTR_SET: the checks in the order of R13 with what each refuses, and the entry replaced, with nothing else changed
(R13). On the Terminal and Service Ports it is refused with NOT_HERE. -/
def Obligations.AttrSet : Prop :=
  ∀ (s : State) (p : Port) (tag : Byte) (fields : List Byte),
   (Free p s → p ≠ .uplink → exec (.attrSet p tag fields) s = .next (Reads 0x2A#8 tag p .notHere [] s)) ∧
   (Free p s → p = .uplink → fields.length = 4 → s.station = .starting →
     exec (.attrSet p tag fields) s = .next (Reads 0x2A#8 tag p .starting [] s)) ∧
   (Taken 0x2A#8 p fields s →
     let g := numAt fields 0 1
     let release := numAt fields 1 1
     let ret := numAt fields 2 1
     let cls := numAt fields 3 1
     let good := g ≤ 15 ∧ cls < 4 ∧ release ≤ 1 ∧ ret ≤ 1
     let busy := ∃ d, d < s.installed ∧ d / 4 = g ∧ ((s.dock d).state = .claimed ∨ (s.dock d).state = .releasing ∨
       (s.dock d).state = .latching ∨ (s.dock d).state = .ejecting)
     (¬ good → exec (.attrSet p tag fields) s = .next (Reads 0x2A#8 tag p .refusedRange [] s)) ∧
     (good → busy → exec (.attrSet p tag fields) s = .next (Reads 0x2A#8 tag p .groupBusy [] s)) ∧
     (good → ¬ busy → ∃ a : Attributes, a.releasePermitted = decide (release = 1) ∧ a.returnPermitted = decide (ret = 1) ∧
       a.cls.code = cls ∧
       exec (.attrSet p tag fields) s =
         .next (WithReply 0x2A#8 tag p .ok [] { s with attrs := s.attrs.setIfInBounds g a })))

/-! ## The dock bus -/

/-- DOCK_ATTENTION_LOW, and POLL_HOLDOFF_CLEAR with the wire low, place an EVENT_POLL where the slot is empty and the
holdoff mark is clear (R25). On a busy bus it waits in its slot; on an idle bus with nothing queued it is taken at once
(R28). The mark clears whatever the wire's level. -/
def Obligations.AttentionPlacesPoll : Prop :=
  ∀ s : State, s.pinLow = false →
    (s.bus.pollSlot = false → s.bus.holdoff = false → s.bus.inFlight.isSome →
      exec .dockAttentionLow s = .next { s with bus := { s.bus with attentionLow := true, pollSlot := true } }) ∧
    (s.bus.pollSlot = false → s.bus.holdoff = false → s.bus.inFlight = none → s.bus.handing = false → s.bus.queue = [] →
      exec .dockAttentionLow s = .next { s with
        bus := { s.bus with attentionLow := true, inFlight := some { what := .poll, ticks := none } } }) ∧
    (s.bus.pollSlot = true ∨ s.bus.holdoff = true →
      exec .dockAttentionLow s = .next { s with bus := { s.bus with attentionLow := true } }) ∧
    (s.due.holdoff = true →
      exec (.pollHoldoffClear false) s = .next { s with
        due := { s.due with holdoff := false }, bus := { s.bus with attentionLow := false, holdoff := false } }) ∧
    (s.due.holdoff = true → s.bus.pollSlot = false → s.bus.inFlight.isSome →
      exec (.pollHoldoffClear true) s = .next { s with
        due := { s.due with holdoff := false }
        bus := { s.bus with attentionLow := true, holdoff := false, pollSlot := true } }) ∧
    (s.due.holdoff = true → s.bus.pollSlot = false → s.bus.inFlight = none → s.bus.handing = false → s.bus.queue = [] →
      exec (.pollHoldoffClear true) s = .next { s with
        due := { s.due with holdoff := false }
        bus := { s.bus with attentionLow := true, holdoff := false, inFlight := some { what := .poll, ticks := none } } })

/-- NO_EVENT ends the EVENT_POLL with the holdoff mark set (R25), and the bus takes what R28 gives: the oldest command
of the lowest-numbered class that has one, the EVENT_POLL between classes 2 and 4. Stated where no lock is due, so that
no placement of R32 comes between. -/
def Obligations.NoEventTakesNext : Prop :=
  ∀ s : State, pollInFlight s = true → s.pinLow = false → (∀ d, d < s.installed → (s.dock d).owed = none) →
    ∃ b : Bus, exec (.noEvent 0xFF#8) s = .next { s with bus := b } ∧
      b.holdoff = true ∧ b.attentionLow = s.bus.attentionLow ∧ GoesOn s.bus b

/-- DOCK_COMMAND_SENT starts the response timer of the command in flight at 0 (R35); a timer that runs, and a bus with
nothing in flight, are left alone, for the last byte is sent once (assumption log 4, 11). DOCK_RESPONSE_TIMEOUT: an
EVENT_POLL that two ticks have passed leaves the bus with the holdoff mark set (R25, R35, R37); a patrol visit's STATUS
that three ticks have passed leaves it with NO_REPLY and a DOCK_SILENT report below the threshold, journaled (R37,
R124, R143). Nothing of the exchange stays in flight, and the bus goes on by R28, said in full where no lock is due. A
closing LOCK of a hire's release: the dock is RETIRED with its bike stranded, the hire cancelled and the terminal told,
and the severe DOCK_SILENT counts against the RETIRED dock (R52, R37). One tick less ends nothing (R35). -/
def Obligations.ResponseTimer : Prop :=
  (∀ s : State,
     (∀ f : InFlight, s.bus.inFlight = some f →
       (f.ticks = none → exec .dockCommandSent s = .next { s with bus := { s.bus with inFlight := some { f with ticks := some 0 } } }) ∧
       (f.ticks.isSome → exec .dockCommandSent s = .next s)) ∧
     (s.bus.inFlight = none → exec .dockCommandSent s = .next s ∧ exec .dockResponseTimeout s = .next s)) ∧
  (∀ (s : State) (f : InFlight) (n : Nat), s.bus.inFlight = some f → f.ticks = some n →
     let quiet := s.pinLow = false ∧ ∀ d, d < s.installed → (s.dock d).owed = none
     (f.what = .poll → 2 ≤ n → ∃ t, exec .dockResponseTimeout s = .next t ∧ BusOnly s t ∧ t.bus.holdoff = true ∧
       ExchangeOver t ∧ (quiet → GoesOn s.bus t.bus)) ∧
     (f.what = .poll → n < 2 → exec .dockResponseTimeout s = .next s) ∧
     (∀ d : Nat, d < 64 → f.what = .command (auditStatus d) → d ∉ s.audit.outstanding →
       s.settings.categoryMask.testBit 1 = false → (s.dock d).faultCount + 1 < s.settings.dockThreshold →
       (s.dock d).faultCount < 15 → 3 ≤ n →
       ∃ t, exec .dockResponseTimeout s = .next t ∧ ExchangeOver t ∧ (quiet → GoesOn s.bus t.bus) ∧
         BusOnly (enterRecord (.dockFault d .dockSilent ((s.dock d).faultCount + 1))
           (setDock d { s.dock d with faultCount := (s.dock d).faultCount + 1 } s)) t) ∧
     (∀ (d h : Nat) (r : Hire), d < 64 → f.what = .command { kind := .lock, dock := d, owner := .release, live := true } →
       (s.dock d).state = .releasing → (s.dock d).phase = some .locking → (s.dock d).owner = some (.hire h) →
       findHire h s = some r → s.settings.categoryMask.testBit 1 = false → 3 ≤ n →
       let count := max (s.dock d).faultCount s.settings.dockThreshold
       ∃ t, exec .dockResponseTimeout s = .next t ∧ ExchangeOver t ∧
         BusOnly (enterRecord (.dockFault d .dockSilent count) (raise (.releaseLapsed d h) (raise (.dockRetired d)
           (enterRecord (.dockRetired d ((s.dock d).bike.map fun b => b.id.getD 0))
             { setDock d { vacantRecord (s.dock d) with
                 state := .retired, bike := (s.dock d).bike, faultCount := count } s with
               hires := s.hires.filter fun x => x.number != h
               cards := s.cards.map fun c => if c.id = r.card then
                 { c with held := c.held - r.holdAmount, openCount := c.openCount - 1 } else c })))) t) ∧
     (∀ c : Cmd, f.what = .command c → n < 3 → exec .dockResponseTimeout s = .next s))

/-- Frames that end no exchange (R21). DOCK_FRAME_IGNORED: a complete frame of a wrong check, of another dock than the
command's, or with nothing in flight, leaves everything but the search for the next frame and the wire level that the
row carries, which is the model's operand (assumption log 10). A reply to no command in flight, of a kind the command
does not admit, and an EVENT_IS of a dock at or above N (R26), are ignored like it. DOCK_FRAME_KIND_DISCARDED: a kind
byte that is none of R20's discards the frame, and the search resumes at the byte after its marker. While the part
drives the bus it takes in no frame (R19). -/
def Obligations.FramesIgnored : Prop :=
  ∀ s : State,
    let ignored : Host.Outcome State Fault Refusal := .next { s with bus := { s.bus with partialFrame := [] } }
    let ignoredAt (low : Bool) : Host.Outcome State Fault Refusal :=
      .next { s with bus := { s.bus with attentionLow := low, partialFrame := [] } }
    let other := [0x81#8, 0x82#8, 0x83#8, 0x84#8, 0x85#8, 0x86#8, 0x88#8, 0x89#8, 0x8A#8, 0x8B#8]
    (driverEnable s = false →
      (∀ (dock kind check : Byte) (rest : List Byte) (low : Bool),
        (check ≠ sumCheck (dock :: kind :: rest) ∨ s.bus.inFlight = none ∨
          (∃ c n, s.bus.inFlight = some { what := .command c, ticks := n } ∧ c.dock ≠ dock.toNat)) →
        exec (.dockFrameIgnored (0xA5#8 :: dock :: kind :: (rest ++ [check])) low) s = ignoredAt low) ∧
      (∀ dock : Byte, (∀ c n, s.bus.inFlight = some { what := .command c, ticks := n } → c.dock ≠ dock.toNat) →
        exec (.opened dock) s = ignored ∧ exec (.lockedEmpty dock) s = ignored ∧ exec (.senseStarted dock) s = ignored ∧
        (∀ tag kind, exec (.lockedWith dock tag kind) s = ignored) ∧
        (∀ tag flags, exec (.statusIs dock tag flags) s = ignored)) ∧
      (∀ (dock : Byte) (c : Cmd) (n : Option Nat), s.bus.inFlight = some { what := .command c, ticks := n } →
        (c.kind ≠ .unlatch → c.kind ≠ .reject → exec (.opened dock) s = ignored) ∧
        (c.kind ≠ .lock → exec (.lockedEmpty dock) s = ignored ∧
          ∀ tag kind, exec (.lockedWith dock tag kind) s = ignored) ∧
        (c.kind ≠ .status → ∀ tag flags, exec (.statusIs dock tag flags) s = ignored) ∧
        (c.kind ≠ .senseStart → exec (.senseStarted dock) s = ignored) ∧ exec (.noEvent dock) s = ignored) ∧
      (∀ (dock : Byte) (low : Bool), (s.installed ≤ dock.toNat ∨ pollInFlight s = false) →
        exec (.removed dock low) s = ignoredAt low ∧ exec (.lockFault dock low) s = ignoredAt low ∧
        (∀ tag kind, exec (.inserted dock tag kind low) s = ignoredAt low) ∧
        (∀ level, exec (.senseDone dock level low) s = ignoredAt low)) ∧
      (∀ dock kind : Byte, kind ∉ other → exec (.dockFrameKindDiscarded dock kind) s = .next { s with
        bus := { s.bus with partialFrame :=
          if dock = 0xA5#8 then [dock, kind] else if kind = 0xA5#8 then [kind] else [] } })) ∧
    (driverEnable s = true →
      (∀ (bytes : List Byte) (low : Bool), exec (.dockFrameIgnored bytes low) s =
        .next { s with bus := { s.bus with attentionLow := low } }) ∧
      (∀ dock kind : Byte, exec (.dockFrameKindDiscarded dock kind) s = .next s ∧ exec (.opened dock) s = .next s ∧
        exec (.lockedEmpty dock) s = .next s ∧ exec (.senseStarted dock) s = .next s ∧
        exec (.noEvent dock) s = .next s ∧ (∀ tag level, exec (.lockedWith dock tag level) s = .next s ∧
          exec (.statusIs dock tag level) s = .next s)) ∧
      (∀ (dock : Byte) (low : Bool),
        let sampled : Host.Outcome State Fault Refusal :=
          .next { s with bus := { s.bus with attentionLow := low } }
        exec (.removed dock low) s = sampled ∧ exec (.lockFault dock low) s = sampled ∧
        (∀ tag kind, exec (.inserted dock tag kind low) s = sampled) ∧
        (∀ level, exec (.senseDone dock level low) s = sampled)))

/-- The Dock Command Queue never holds more than its 16 places, and no dock ever has more than one command queued or in
flight, from every state of which this holds (R27). -/
def Obligations.QueueLawKept : Prop :=
  let good (s : State) : Prop := s.bus.queue.length ≤ 16 ∧ (busyDocks s).Nodup
  good State.reset ∧ ∀ s t : State, good s → step s = .next t → good t

/-- The placement of a LOCK or REJECT at a dock, the five rows of R29: what becomes of the queue and of what is owed,
and which command is dropped. The placement of an UNLATCH, the rows of R30, and of a STATUS or SENSE_START, R31:
refused where the dock has a command of its own in hand or the queue is full; a queued STATUS or SENSE_START gives way
to an UNLATCH and is dropped. -/
def Obligations.Placements : Prop :=
  (∀ (o : Owed) (d : Nat) (s : State),
     let c : Cmd := { kind := o.kind, dock := d, owner := o.owner, live := o.live }
     (∀ old : Owed, (s.dock d).owed = some old →
       lockChange o d s = (setDock d { s.dock d with owed := some o } s,
         some { kind := old.kind, dock := d, owner := old.owner, live := old.live })) ∧
     ((s.dock d).owed = none →
       (∀ x, InFlightIs x s → x.dock = d → lockChange o d s = (setDock d { s.dock d with owed := some o } s, none)) ∧
       ((∀ x, InFlightIs x s → x.dock ≠ d) →
         (∀ (before : List Cmd) (q : Cmd) (after : List Cmd), s.bus.queue = before ++ q :: after → q.dock = d →
           (∀ x ∈ before, x.dock ≠ d) → (∀ x ∈ after, x.dock ≠ d) →
           lockChange o d s = ({ s with bus := { s.bus with queue :=
             if q.kind = .lock ∨ q.kind = .reject then before ++ c :: after else before ++ after ++ [c] } }, some q)) ∧
         ((∀ x ∈ s.bus.queue, x.dock ≠ d) →
           lockChange o d s = if s.bus.queue.length < 16 then ({ s with bus := { s.bus with queue := s.bus.queue ++ [c] } }, none)
             else (setDock d { s.dock d with owed := some o } s, none))))) ∧
  (∀ (d : Nat) (s : State),
     let c : Cmd := { kind := .unlatch, dock := d, owner := .release, live := true }
     let onBus := ∃ x, InFlightIs x s ∧ x.dock = d
     let queued := ∃ x, x ∈ s.bus.queue ∧ x.dock = d
     ((s.dock d).owed.isSome ∨ onBus → unlatchChange d s = none) ∧
     ((s.dock d).owed = none → ¬ onBus →
       (∀ (before : List Cmd) (q : Cmd) (after : List Cmd), s.bus.queue = before ++ q :: after → q.dock = d →
         (∀ x ∈ before, x.dock ≠ d) →
         unlatchChange d s = if q.kind = .status ∨ q.kind = .senseStart then
           some ({ s with bus := { s.bus with queue := before ++ after ++ [c] } }, some q) else none) ∧
       (¬ queued → unlatchChange d s = if s.bus.queue.length < 16 then
         some ({ s with bus := { s.bus with queue := s.bus.queue ++ [c] } }, none) else none)) ∧
     (∀ (kind : CmdKind) (owner : PlacingUnit),
       ((s.dock d).owed.isSome ∨ onBus ∨ queued ∨ 16 ≤ s.bus.queue.length → placeQuiet kind owner d s = (s, false)) ∧
       ((s.dock d).owed = none → ¬ onBus → ¬ queued → s.bus.queue.length < 16 → s.bus.inFlight.isSome →
         placeQuiet kind owner d s = ({ s with bus := { s.bus with
           queue := s.bus.queue ++ [{ kind := kind, dock := d, owner := owner, live := true }] } }, true))))

/-! ## Release and return -/

/-- OPENED for the command in flight of a release in phase UNLATCHING or an ejection in phase REJECTING: the phase
moves on, the window timer starts with the release window setting, and the notice of the owner is raised (R45, R46,
R57). RELEASE_WINDOW_EXPIRY and EJECT_WINDOW_EXPIRY at a dock whose window timer has counted w + 1 ticks: the timer
stops, the phase becomes LOCKING, and a LOCK is placed, queued, on the bus or owed (R45, R47, R57, R29). At w ticks or
fewer nothing happens. -/
def Obligations.WindowTimer : Prop :=
  (∀ (s : State) (dock : Byte) (kind : CmdKind) (n : Nat),
     let d := dock.toNat
     let window : Window := { limit := s.settings.releaseWindow, ticks := 0 }
     let opened := setDock d { s.dock d with phase := some .opened, window := some window } s
     d < 64 →
     s.bus.inFlight = some { what := .command { kind := kind, dock := d, owner := .release, live := true }, ticks := some n } →
     (kind = .unlatch → (s.dock d).state = .releasing → (s.dock d).phase = some .unlatching →
       (∀ h, (s.dock d).owner = some (.hire h) →
         ∃ t, exec (.opened dock) s = .next t ∧ BusOnly (raise (.hireDockOpen d h) opened) t) ∧
       ((s.dock d).owner = some .batch →
         ∃ t, exec (.opened dock) s = .next t ∧ BusOnly (raise (.batchDockOpen d) opened) t)) ∧
     (kind = .reject → (s.dock d).state = .ejecting → (s.dock d).phase = some .rejecting →
       ∃ t, exec (.opened dock) s = .next t ∧
         BusOnly (setDock d { s.dock d with phase := some .ejectOpen, window := some window } s) t)) ∧
  (∀ (s : State) (d : Nat) (w : Window), d < 64 → (s.dock d).window = some w →
     ((s.dock d).state = .releasing → (s.dock d).phase = some .opened → w.limit + 1 ≤ w.ticks → HandsFree d s →
       ∃ t, exec (.releaseWindowExpiry d) s = .next t ∧
         BusOnly (setDock d { s.dock d with phase := some .locking, window := none } s) t ∧ OwnStands .lock d t) ∧
     ((s.dock d).state = .ejecting → (s.dock d).phase = some .ejectOpen → w.limit + 1 ≤ w.ticks → HandsFree d s →
       ∃ t, exec (.ejectWindowExpiry d) s = .next t ∧
         BusOnly (setDock d { s.dock d with phase := some .ejectLocking, window := none } s) t ∧ OwnStands .lock d t) ∧
     (w.ticks ≤ w.limit → exec (.releaseWindowExpiry d) s = .next s ∧ exec (.ejectWindowExpiry d) s = .next s))

/-- LOCKED_WITH for the closing LOCK of a hire's release, with the tag recorded or no tag: the lapse. The hire's record
is removed and its hold released, the dock is HELD with its bike, and the terminal is told (R49, R50, R73, R89). Stated
with no batch open and no retirement pending. INSERTED at a RELEASING dock with its own tag or none (R53): in phase
UNLATCHING it changes nothing; in phase OPEN or LOCKING it is the lapse of a hire's release, as above (R50).
LOCKED_WITH for the closing LOCK of a batch release (R114): the dock is HELD with its bike and its van hold; a dock
taken from RETIRED, whose retirement is pending, is RETIRED again with its bike stranded, journaled and told (R5). The
batch is unchanged. Stated with no expiry of the batch waiting. -/
def Obligations.LockedWithLapses : Prop :=
  (∀ (s : State) (dock : Byte) (tag : BitVec 24) (kind : Byte) (n : Nat) (h : Nat) (r : Hire),
     let d := dock.toNat
     d < 64 →
     s.bus.inFlight = some { what := .command { kind := .lock, dock := d, owner := .release, live := true }, ticks := some n } →
     (s.dock d).state = .releasing → (s.dock d).phase = some .locking → (s.dock d).owner = some (.hire h) →
     (s.dock d).retirePending = false → s.batch = none → findHire h s = some r →
     (tag.toNat = 0 ∨ (s.dock d).bike.bind Bike.id = some tag.toNat) →
     ∃ t, exec (.lockedWith dock tag kind) s = .next t ∧
       BusOnly (raise (.releaseLapsed d h) { setDock d (heldRecord (s.dock d)) s with
         hires := s.hires.filter fun x => x.number != h
         cards := s.cards.map fun c => if c.id = r.card then
           { c with held := c.held - r.holdAmount, openCount := c.openCount - 1 } else c }) t) ∧
  (∀ (s : State) (dock : Byte) (tag : BitVec 24) (kind : Byte) (low : Bool),
     let d := dock.toNat
     pollInFlight s = true → d < s.installed → d < 64 → (s.dock d).state = .releasing →
     (tag.toNat = 0 ∨ (s.dock d).bike.bind Bike.id = some tag.toNat) →
     ((s.dock d).phase = some .unlatching → ∃ t, exec (.inserted dock tag kind low) s = .next t ∧ BusOnly s t) ∧
     (∀ (h : Nat) (r : Hire), (s.dock d).phase = some .opened ∨ (s.dock d).phase = some .locking →
       (s.dock d).owner = some (.hire h) → (s.dock d).retirePending = false → s.batch = none → findHire h s = some r →
       ∃ t, exec (.inserted dock tag kind low) s = .next t ∧
         BusOnly (raise (.releaseLapsed d h) { setDock d (heldRecord (s.dock d)) s with
           hires := s.hires.filter fun x => x.number != h
           cards := s.cards.map fun c => if c.id = r.card then
             { c with held := c.held - r.holdAmount, openCount := c.openCount - 1 } else c }) t)) ∧
  (∀ (s : State) (dock : Byte) (tag : BitVec 24) (kind : Byte) (n : Nat) (b : Batch),
     let d := dock.toNat
     d < 64 →
     s.bus.inFlight = some { what := .command { kind := .lock, dock := d, owner := .release, live := true }, ticks := some n } →
     (s.dock d).state = .releasing → (s.dock d).phase = some .locking → (s.dock d).owner = some .batch →
     s.batch = some b → b.expiryWaiting = false →
     (tag.toNat = 0 ∨ (s.dock d).bike.bind Bike.id = some tag.toNat) →
     ((s.dock d).retirePending = false → (s.dock d).vanHold = true ∨ b.kind = .deliver →
       ∃ t, exec (.lockedWith dock tag kind) s = .next t ∧ BusOnly (setDock d (heldRecord (s.dock d)) s) t) ∧
     ((s.dock d).retirePending = true →
       ∃ t, exec (.lockedWith dock tag kind) s = .next t ∧
         BusOnly (raise (.dockRetired d) (enterRecord (.dockRetired d ((s.dock d).bike.map fun x => x.id.getD 0))
           (setDock d { vacantRecord (s.dock d) with state := .retired, bike := (s.dock d).bike } s))) t))

/-- The pull of a hire's release, by LOCKED_EMPTY for its closing LOCK or by REMOVED in any phase: the hire is OUT from
now, the dock VACANT, HIRE_START is journaled and BIKE_TAKEN raised (R48, R49, R53). Stated with no batch open and no
retirement pending. REMOVED at a dock that releases for a COLLECT batch is a collection (R48, R113): the dock is
VACANT, or RETIRED empty where its retirement is pending, journaled and told (R5); the done count rises, a PENDING
manifest entry of the bike is DONE; the bike's fault entry goes; BIKE_COLLECTED is journaled, BATCH_PROGRESS raised and
the idle timer restarted (R117). Stated for an identified bike, with no expiry of the batch waiting. -/
def Obligations.PullStartsHire : Prop :=
  (∀ (s : State) (dock : Byte) (h : Nat) (r : Hire),
     let d := dock.toNat
     let pulled := raise (.bikeTaken d h) (enterRecord (.hireStart h r.card r.bike d) { setDock d (vacantRecord (s.dock d)) s with
       hires := s.hires.map fun x => if x.number = h then { x with state := .out, start := some s.clock.minute } else x })
     d < 64 → (s.dock d).state = .releasing → (s.dock d).owner = some (.hire h) → (s.dock d).retirePending = false →
     s.batch = none → findHire h s = some r →
     (∀ n, s.bus.inFlight =
         some { what := .command { kind := .lock, dock := d, owner := .release, live := true }, ticks := some n } →
       (s.dock d).phase = some .locking →
       ∃ t, exec (.lockedEmpty dock) s = .next t ∧ BusOnly pulled t) ∧
     (∀ low : Bool, pollInFlight s = true → d < s.installed →
       ∃ t, exec (.removed dock low) s = .next t ∧ BusOnly pulled t)) ∧
  (∀ (s : State) (dock : Byte) (low : Bool) (b : Batch) (i : Nat),
     let d := dock.toNat
     let wanted := b.manifest.any fun m => !m.done && m.bike == i
     let after : Batch := { b with
       manifest := if wanted then b.manifest.map fun m => if m.bike = i then { m with done := true } else m else b.manifest
       done := min (b.done + 1) 255, idle := 60 * s.settings.batchIdle }
     let left (k : Dock) : State := { setDock d k s with
       batch := some after, bikeFaults := s.bikeFaults.filter fun f => f.bike != i, due := { s.due with idle := false } }
     let collected (u : State) : State := raise (.batchProgress after.done) (enterRecord (.bikeCollected i d b.crew) u)
     pollInFlight s = true → d < s.installed → d < 64 → (s.dock d).state = .releasing → (s.dock d).owner = some .batch →
     s.batch = some b → b.kind = .collect → b.expiryWaiting = false → (s.dock d).bike.bind Bike.id = some i →
     ((s.dock d).retirePending = false →
       ∃ t, exec (.removed dock low) s = .next t ∧ BusOnly (collected (left (vacantRecord (s.dock d)))) t) ∧
     ((s.dock d).retirePending = true →
       ∃ t, exec (.removed dock low) s = .next t ∧ BusOnly (collected (raise (.dockRetired d)
         (enterRecord (.dockRetired d none) (left { vacantRecord (s.dock d) with state := .retired })))) t))

/-- REMOVED at a HELD dock is a forced removal: BIKE_MISSING, a severe LOCK_FAULT report that raises the count to the
threshold, and so the dock RETIRED empty (R61, R124, R128, R129); at a VACANT or RESERVED dock it has no effect (R62).
Stated with no batch open and the category not masked. LOCK_FAULT is a severe report against the dock (R53, R60, R62,
R121): masked it changes nothing (R123); a HELD dock is RETIRED with its bike stranded, a dock in flight has its
retirement pending (R128, R129). -/
def Obligations.RemovalAndLockFault : Prop :=
  (∀ (s : State) (dock : Byte) (low : Bool), pollInFlight s = true → dock.toNat < s.installed → dock.toNat < 64 →
     let d := dock.toNat
     let n := max (s.dock d).faultCount s.settings.dockThreshold
     ((s.dock d).state = .held → (s.dock d).retirePending = false → s.batch = none →
       s.settings.categoryMask.testBit 0 = false →
       ∃ t, exec (.removed dock low) s = .next t ∧
         BusOnly (raise (.dockRetired d) (enterRecord (.dockRetired d none) (enterRecord (.dockFault d .lockFault n)
           (enterRecord (.bikeMissing (((s.dock d).bike.bind Bike.id).getD 0) d)
             (setDock d { vacantRecord (s.dock d) with state := .retired, faultCount := n } s))))) t) ∧
     ((s.dock d).state = .vacant ∨ (s.dock d).state = .reserved →
       ∃ t, exec (.removed dock low) s = .next t ∧ BusOnly s t)) ∧
  (∀ (s : State) (dock : Byte) (low : Bool), pollInFlight s = true → dock.toNat < s.installed → dock.toNat < 64 →
     let d := dock.toNat
     let n := max (s.dock d).faultCount s.settings.dockThreshold
     (s.settings.categoryMask.testBit 0 = true → ∃ t, exec (.lockFault dock low) s = .next t ∧ BusOnly s t) ∧
     (s.settings.categoryMask.testBit 0 = false → (s.dock d).state = .held →
       ∃ t, exec (.lockFault dock low) s = .next t ∧
         BusOnly (raise (.dockRetired d) (enterRecord (.dockRetired d ((s.dock d).bike.map fun b => b.id.getD 0))
           (enterRecord (.dockFault d .lockFault n) (setDock d { vacantRecord (s.dock d) with
             state := .retired, bike := (s.dock d).bike, faultCount := n } s)))) t) ∧
     (s.settings.categoryMask.testBit 0 = false →
       ((s.dock d).state = .releasing ∨ (s.dock d).state = .claimed ∨ (s.dock d).state = .latching ∨
         (s.dock d).state = .ejecting) →
       ∃ t, exec (.lockFault dock low) s = .next t ∧
         BusOnly (enterRecord (.dockFault d .lockFault n)
           (setDock d { s.dock d with faultCount := n, retirePending := true } s)) t))

/-- HIRE_START accepted at the dock named, or at the dock that "any" prefers, for a card that passes (R40 to R43, R70,
R72, R88): the UNLATCH placed, the dock RELEASING, the record with its frozen terms, the hold placed, and the reply.
Stated for a dock with nothing in hand and a queue with room. -/
def Obligations.HireStartAccepted : Prop :=
  ∀ (s : State) (p : Port) (tag : Byte) (fields : List Byte) (d : Nat) (b : Bike) (i : Nat) (c : Card),
    let card := numAt fields 0 7
    let wanted : BikeKind := if numAt fields 7 1 = 1 then .electric else .standard
    let pol := s.policy (4 * c.subscriber.toNat + 2 * c.concession.toNat + c.deposit.toNat)
    let tar := s.tariff pol.tariff
    let h := freeHireNumber s
    let since (e : Nat) : Nat := match (s.dock e).bike with | some x => x.dockedSince | none => 0
    let level (e : Nat) : Nat := match (s.dock e).bike.bind Bike.charge with | some x => x.level | none => 0
    let better (e : Nat) : Prop := if wanted = .standard then since d < since e ∨ (since d = since e ∧ d < e)
      else level e < level d ∨ (level d = level e ∧ d < e)
    let hireableOf (e : Nat) : Prop := verdict e s = .hireable ∧ ∃ x, (s.dock e).bike = some x ∧ x.kind = wanted
    Taken 0x10#8 p fields s → card ≠ 0 → numAt fields 7 1 ≤ 1 → s.journal.held = false → s.hires.length < 96 →
    d < s.installed → d < 64 → hireableOf d → (s.dock d).bike = some b → b.id = some i →
    (numAt fields 8 1 = d ∨
      (numAt fields 8 1 = 255 ∧ ∀ e, e < s.installed → e ≠ d → hireableOf e → better e)) →
    findCard card s = some c → c.standing = .good → c.openCount < pol.maxHires →
    (wanted = .electric → pol.electricPermitted = true) → (pol.holdAmount : Int) ≤ c.balance - c.held →
    HandsFree d s → s.bus.queue.length < 16 →
    ∃ t, exec (.hireStart p tag fields) s = .next t ∧
      Placed { kind := .unlatch, dock := d, owner := .release, live := true } t ∧
      BusOnly (WithReply 0x10#8 tag p .ok [.num 2 h, .num 1 d]
        { setDock d { s.dock d with
            state := .releasing, owner := some (.hire h), bike := some { b with sense := none }
            phase := some .unlatching, window := none } s with
          lastHire := h
          hires := s.hires ++ [{
            number := h, state := .starting, card := card
            policyIndex := 4 * c.subscriber.toNat + 2 * c.concession.toNat + c.deposit.toNat
            bike := i, kind := b.kind, dockFrom := some d, start := none, holdAmount := pol.holdAmount, origin := .home
            terms := { a := tar.a, b := tar.b, p := tar.p, q := tar.q, c := tar.c, discount := pol.discount,
                       maxDuration := pol.maxDuration } }]
          cards := s.cards.map fun x => if x.id = card then
            { x with held := x.held + pol.holdAmount, openCount := x.openCount + 1, lastUse := s.clock.minute } else x }) t

/-- HIRE_START refused at the dock step or before it, in the order of R40 and R41, with hire 0 and the dock of the
request in the reply; nothing else changes. The card step of HIRE_START at a named hireable dock of the kind wanted
(R70, R71): the refusals of a card in the table in their order, and for a card that is not there OFFLINE, AUTH_BUSY, or
the pending authorization, with its Auth Queue entry, the dock CLAIMED and AUTH_NEEDED raised. HIRE_START at a named
hireable dock for a card that passes is refused with BUS_BUSY where the UNLATCH is refused (R30, R40), and changes
nothing else. -/
def Obligations.HireStartRefused : Prop :=
  (∀ (s : State) (p : Port) (tag : Byte) (fields : List Byte), Taken 0x10#8 p fields s →
     let dock := numAt fields 8 1
     let wanted : BikeKind := if numAt fields 7 1 = 1 then .electric else .standard
     let no (r : Result) : Prop :=
       exec (.hireStart p tag fields) s = .next (Reads 0x10#8 tag p r [.num 2 0, .num 1 dock] s)
     let good := numAt fields 7 1 ≤ 1 ∧ numAt fields 0 7 ≠ 0
     let ofKind (d : Nat) : Prop := ∃ b, (s.dock d).bike = some b ∧ b.kind = wanted
     (¬ good → no .refusedRange) ∧
     (good → s.journal.held = true → no .journalHeld) ∧
     (good → s.journal.held = false → 96 ≤ s.hires.length → no .registerFull) ∧
     (good → s.journal.held = false → s.hires.length < 96 →
       (dock ≠ 255 → s.installed ≤ dock → no .noDock) ∧
       (dock < s.installed → dock ≠ 255 →
         (verdict dock s = .vanHold → no .dockHeldVan) ∧
         (verdict dock s = .notPermitted → no .notPermitted) ∧
         (verdict dock s = .lowCharge → no .lowCharge) ∧
         (verdict dock s = .notReady → no .dockNotReady) ∧
         (verdict dock s = .hireable → ¬ ofKind dock → no .dockNotReady)) ∧
       (dock = 255 → (∀ d, d < s.installed → verdict d s = .hireable → ¬ ofKind d) → no .noBike))) ∧
  (∀ (s : State) (p : Port) (tag : Byte) (fields : List Byte) (b : Bike), Taken 0x10#8 p fields s →
     let d := numAt fields 8 1
     let card := numAt fields 0 7
     let wanted : BikeKind := if numAt fields 7 1 = 1 then .electric else .standard
     let no (r : Result) : Prop :=
       exec (.hireStart p tag fields) s = .next (Reads 0x10#8 tag p r [.num 2 0, .num 1 d] s)
     numAt fields 7 1 ≤ 1 → card ≠ 0 → s.journal.held = false → s.hires.length < 96 → d < s.installed → d < 64 →
     verdict d s = .hireable → (s.dock d).bike = some b → b.kind = wanted →
     (∀ c, findCard card s = some c →
       let pol := s.policy (4 * c.subscriber.toNat + 2 * c.concession.toNat + c.deposit.toNat)
       (c.standing = .blocked → no .cardBlocked) ∧
       (c.standing = .good → pol.maxHires = 0 → no .notPermitted) ∧
       (c.standing = .good → pol.maxHires ≠ 0 → pol.maxHires ≤ c.openCount → no .cardLimit) ∧
       (c.standing = .good → c.openCount < pol.maxHires → wanted = .electric → pol.electricPermitted = false →
         no .electricNotAllowed) ∧
       (c.standing = .good → c.openCount < pol.maxHires → (wanted = .electric → pol.electricPermitted = true) →
         c.balance - c.held < (pol.holdAmount : Int) → no .funds)) ∧
     (findCard card s = none →
       (s.link = .offline → no .offline) ∧
       (s.link = .online → (8 ≤ s.authQueue.length ∨ ∃ e ∈ s.authQueue, e.card = card) → no .authBusy) ∧
       (s.link = .online → s.authQueue.length < 8 → (∀ e ∈ s.authQueue, e.card ≠ card) →
         exec (.hireStart p tag fields) s = .next
           (WithReply 0x10#8 tag p .pending [.num 1 (freeAuthTag s), .num 1 d]
             (raise (.authNeeded (s.authQueue.length + 1)) { setDock d { s.dock d with state := .claimed } s with
               lastTag := freeAuthTag s
               authQueue := s.authQueue ++ [{ tag := freeAuthTag s, card := card, dock := d, wanted := wanted,
                                              remaining := s.settings.authTimeout, timedOut := false }] }))))) ∧
  (∀ (s : State) (p : Port) (tag : Byte) (fields : List Byte) (b : Bike) (c : Card), Taken 0x10#8 p fields s →
     let d := numAt fields 8 1
     let card := numAt fields 0 7
     let wanted : BikeKind := if numAt fields 7 1 = 1 then .electric else .standard
     let pol := s.policy (4 * c.subscriber.toNat + 2 * c.concession.toNat + c.deposit.toNat)
     numAt fields 7 1 ≤ 1 → card ≠ 0 → s.journal.held = false → s.hires.length < 96 → d < s.installed → d < 64 →
     verdict d s = .hireable → (s.dock d).bike = some b → b.kind = wanted →
     findCard card s = some c → c.standing = .good → c.openCount < pol.maxHires →
     (wanted = .electric → pol.electricPermitted = true) → (pol.holdAmount : Int) ≤ c.balance - c.held →
     UnlatchRefused d s →
     exec (.hireStart p tag fields) s = .next (Reads 0x10#8 tag p .busBusy [.num 2 0, .num 1 d] s))

/-- INSERTED with a tag at a VACANT dock that takes rider returns, for a STANDARD bike that no other dock records: the
dock is HELD with the bike; an OUT or OVERDUE hire of it is closed with its charge, its card settled and HIRE_CLOSE
journaled; with no such hire RETURN_FOREIGN is journaled; the terminal is told (R54, R56, R74, R92 to R94). Stated with
no batch open and a charge that leaves the balance at 0 or above. A bike that arrives while another dock records it
(R6): a HELD or CLAIMED dock loses the id of its bike, with an AUDIT_MISMATCH report; a RETIRED one loses it with no
report; at a dock that releases it for a hire the pull is taken, and the arrival closes that hire at no charge (R48,
R56). Stated for a rider return at a VACANT dock of a bike that has no OUT or OVERDUE hire, below the threshold, with
no batch open. A delivery (R109, R110, R56): INSERTED with the tag of a PENDING manifest bike of an open DELIVER batch,
at a RESERVED dock, or at a VACANT one whose class is not CLOSED. The dock is HELD with the bike, the entry DONE and
counted, BIKE_DELIVERED journaled, BATCH_PROGRESS raised and the idle timer restarted (R117); where more docks stay
RESERVED than entries PENDING, the highest-numbered one is given back and VACANT. Stated for a STANDARD bike that no
other dock records and that has no hire. -/
def Obligations.RiderReturn : Prop :=
  (∀ (s : State) (dock : Byte) (tag : BitVec 24) (kind : Byte) (low : Bool),
     let d := dock.toNat
     let T := tag.toNat
     let docked := { vacantRecord (s.dock d) with
       state := .held, bike := some (arrivedBike (some T) .standard s.clock.minute) }
     pollInFlight s = true → d < s.installed → d < 64 → (s.dock d).state = .vacant → (s.dock d).retirePending = false →
     s.batch = none → returnAllowed d s = true → T ≠ 0 → kind ≠ 1#8 →
     (∀ e, e < s.installed → e ≠ d → (s.dock e).bike.bind Bike.id ≠ some T) →
     (∀ r c, openHireOf T s = some r → findCard r.card s = some c →
       let D := s.clock.minute - r.start.getD s.clock.minute
       let F := charge r.terms r.kind D
       (F : Int) ≤ c.balance →
       ∃ t, exec (.inserted dock tag kind low) s = .next t ∧
         BusOnly (raise (.returnDone d r.number F)
           (enterRecord (.hireClose r.number r.card T (.dock d) D F (c.balance - F)) { setDock d docked s with
             hires := s.hires.filter fun x => x.number != r.number
             cards := s.cards.map fun x => if x.id = r.card then
               { x with held := x.held - r.holdAmount, balance := max (x.balance - F) (-99999)
                        openCount := x.openCount - 1, lastUse := s.clock.minute } else x })) t) ∧
     (openHireOf T s = none →
       ∃ t, exec (.inserted dock tag kind low) s = .next t ∧
         BusOnly (raise (.returnDone d 0 0) (enterRecord (.returnForeign T d) (setDock d docked s))) t)) ∧
  (∀ (s : State) (dock : Byte) (tag : BitVec 24) (kind : Byte) (low : Bool) (e : Nat) (b : Bike),
     let d := dock.toNat
     let T := tag.toNat
     let n := (s.dock e).faultCount + 1
     let docked := { vacantRecord (s.dock d) with
       state := .held, bike := some (arrivedBike (some T) .standard s.clock.minute) }
     let nameless : Bike := { b with id := none, kind := .standard, charge := none, sense := none }
     let foreign (u : State) : State := raise (.returnDone d 0 0) (enterRecord (.returnForeign T d) (setDock d docked u))
     pollInFlight s = true → d < s.installed → d < 64 → (s.dock d).state = .vacant → (s.dock d).retirePending = false →
     s.batch = none → returnAllowed d s = true → T ≠ 0 → kind ≠ 1#8 →
     e < s.installed → e < 64 → e ≠ d → (s.dock e).bike = some b → b.id = some T →
     (∀ x, x < s.installed → x ≠ d → x ≠ e → (s.dock x).bike.bind Bike.id ≠ some T) → openHireOf T s = none →
     ((s.dock e).state = .held ∨ (s.dock e).state = .claimed → s.settings.categoryMask.testBit 3 = false →
       n < s.settings.dockThreshold → n ≤ 15 →
       ∃ t, exec (.inserted dock tag kind low) s = .next t ∧
         BusOnly (foreign (enterRecord (.dockFault e .auditMismatch n)
           (setDock e { s.dock e with bike := some nameless, faultCount := n } s))) t) ∧
     ((s.dock e).state = .retired →
       ∃ t, exec (.inserted dock tag kind low) s = .next t ∧
         BusOnly (foreign (setDock e { s.dock e with bike := some nameless } s)) t) ∧
     (∀ (h : Nat) (r : Hire) (c : Card), (s.dock e).state = .releasing → (s.dock e).owner = some (.hire h) →
       (s.dock e).retirePending = false → findHire h s = some r → r.bike = T → (∀ x ∈ s.hires, x.number = h → x = r) →
       findCard r.card s = some c → 0 ≤ c.balance →
       ∃ t, exec (.inserted dock tag kind low) s = .next t ∧
         BusOnly (raise (.returnDone d h 0) (enterRecord (.hireClose h r.card T (.dock d) 0 0 c.balance)
           (raise (.bikeTaken e h) (enterRecord (.hireStart h r.card T e)
             { setDock d docked (setDock e (vacantRecord (s.dock e)) s) with
               hires := s.hires.filter fun x => x.number != h
               cards := s.cards.map fun x => if x.id = r.card then
                 { x with held := x.held - r.holdAmount, balance := max x.balance (-99999)
                          openCount := x.openCount - 1, lastUse := s.clock.minute } else x })))) t)) ∧
  (∀ (s : State) (dock : Byte) (tag : BitVec 24) (kind : Byte) (low : Bool) (b : Batch),
     let d := dock.toNat
     let T := tag.toNat
     let after : Batch := { b with
       manifest := b.manifest.map fun m => if m.bike = T then { m with done := true } else m
       done := min (b.done + 1) 255, idle := 60 * s.settings.batchIdle, expiryWaiting := false }
     let reservedNow (e : Nat) : Prop := e < s.installed ∧ e ≠ d ∧ (s.dock e).state = .reserved ∧ (s.dock e).reserved = true
     let count := (List.range s.installed).countP fun e => e != d && (s.dock e).state == .reserved && (s.dock e).reserved
     let delivered := raise (.batchProgress after.done) (enterRecord (.bikeDelivered T d b.crew)
       { setDock d { vacantRecord (s.dock d) with
           state := .held, bike := some (arrivedBike (some T) .standard s.clock.minute) } s with
         batch := some after, due := { s.due with idle := false } })
     pollInFlight s = true → d < s.installed → d < 64 → (s.dock d).retirePending = false →
     s.batch = some b → b.kind = .deliver → T ≠ 0 → kind ≠ 1#8 → (∃ m ∈ b.manifest, m.bike = T ∧ m.done = false) →
     (s.dock d).state = .reserved ∨ ((s.dock d).state = .vacant ∧ (effective d s).cls ≠ .closed) →
     (∀ e, e < s.installed → e ≠ d → (s.dock e).bike.bind Bike.id ≠ some T) → openHireOf T s = none →
     (count ≤ after.pendingCount → ∃ t, exec (.inserted dock tag kind low) s = .next t ∧ BusOnly delivered t) ∧
     (∀ e, e < 64 → after.pendingCount < count → reservedNow e → (∀ x, reservedNow x → x ≤ e) →
       ∃ t, exec (.inserted dock tag kind low) s = .next t ∧
         BusOnly (setDock e { s.dock e with state := .vacant, reserved := false } delivered) t))

/-- INSERTED at a VACANT dock with no batch open: where the return permission check fails, the bike is refused, a
REJECT placed, the dock EJECTING and RETURN_REFUSED raised (R57); where it passes and the tag was not read, the dock is
LATCHING with an unidentified bike and the first re-read is placed (R59). Stated for a dock with nothing in hand and a
queue with room. INSERTED at a dock with a bike, HELD or CLAIMED (R55): its own tag or none changes nothing; at a HELD
dock another tag replaces the bike record, with AUDIT_MISMATCH journaled and reported. At a RETIRED dock (R58): the
stranded bike's own tag changes nothing; any other arrival is refused with a REJECT and RETURN_REFUSED, and a stranded
bike recorded there is journaled missing and cleared. Stated for a bike that no other dock records and that has no
hire, below the threshold, with no batch open. INSERTED at a RESERVED dock that is no delivery moves the reservation
on, before the arrival takes effect, to the lowest-numbered other dock that may be reserved, or drops it (R111): stated
for a refusal (R57) and for a rider return of a bike that no other dock records and that has no hire (R56), under a
DELIVER batch. -/
def Obligations.ArrivalRefusedOrLatched : Prop :=
  (∀ (s : State) (dock : Byte) (tag : BitVec 24) (kind : Byte) (low : Bool),
     let d := dock.toNat
     pollInFlight s = true → d < s.installed → d < 64 → (s.dock d).state = .vacant → (s.dock d).retirePending = false →
     s.batch = none → HandsFree d s → s.bus.queue.length < 16 →
     (returnAllowed d s = false →
       ∃ t, exec (.inserted dock tag kind low) s = .next t ∧ OwnStands .reject d t ∧
         BusOnly (raise (.returnRefused d)
           (setDock d { vacantRecord (s.dock d) with state := .ejecting, phase := some .rejecting } s)) t) ∧
     (returnAllowed d s = true → tag.toNat = 0 →
       ∃ t, exec (.inserted dock tag kind low) s = .next t ∧
         Placed { kind := .status, dock := d, owner := .release, live := true } t ∧
         BusOnly (setDock d { vacantRecord (s.dock d) with
           state := .latching, bike := some (arrivedBike none .standard s.clock.minute), identRetries := 1 } s) t)) ∧
  (∀ (s : State) (dock : Byte) (tag : BitVec 24) (kind : Byte) (low : Bool),
     let d := dock.toNat
     let T := tag.toNat
     let k := s.dock d
     let n := k.faultCount + 1
     let reject : Cmd := { kind := .reject, dock := d, owner := .release, live := false }
     let rejects (t : State) : Prop :=
       Placed reject t ∨ (t.dock d).owed = some { kind := .reject, owner := .release, live := false }
     pollInFlight s = true → d < s.installed → d < 64 →
     (k.state = .held ∨ k.state = .claimed → T = 0 ∨ k.bike.bind Bike.id = some T →
       ∃ t, exec (.inserted dock tag kind low) s = .next t ∧ BusOnly s t) ∧
     (k.state = .held → T ≠ 0 → k.bike.bind Bike.id ≠ some T → k.retirePending = false → s.batch = none →
       (∀ e, e < s.installed → e ≠ d → (s.dock e).bike.bind Bike.id ≠ some T) → openHireOf T s = none →
       s.settings.categoryMask.testBit 3 = false → n < s.settings.dockThreshold → n ≤ 15 →
       ∃ t, exec (.inserted dock tag kind low) s = .next t ∧
         BusOnly (enterRecord (.dockFault d .auditMismatch n)
           (enterRecord (.auditMismatch d (k.bike.bind Bike.id) (some T)) (setDock d { k with
             bike := some (arrivedBike (some T) (if kind = 1#8 then .electric else .standard) s.clock.minute)
             vanHold := false, faultCount := n } s))) t) ∧
     (∀ b, k.state = .retired → k.bike = some b → (T = 0 ∧ b.id = none) ∨ (T ≠ 0 ∧ b.id = some T) →
       ∃ t, exec (.inserted dock tag kind low) s = .next t ∧ BusOnly s t) ∧
     (∀ b, k.state = .retired → HandsFree d s → k.bike = some b → (T = 0 → b.id ≠ none) → (T ≠ 0 → b.id ≠ some T) →
       ∃ t, exec (.inserted dock tag kind low) s = .next t ∧ rejects t ∧
         BusOnly (enterRecord (.bikeMissing (b.id.getD 0) d)
           (raise (.returnRefused d) (setDock d { k with bike := none } s))) t) ∧
     (k.state = .retired → HandsFree d s → k.bike = none →
       ∃ t, exec (.inserted dock tag kind low) s = .next t ∧ rejects t ∧ BusOnly (raise (.returnRefused d) s) t)) ∧
  (∀ (s : State) (dock : Byte) (tag : BitVec 24) (kind : Byte) (low : Bool) (b : Batch) (moved : State),
     let d := dock.toNat
     let T := tag.toNat
     let mayReserve (e : Nat) : Prop := e < s.installed ∧ (s.dock e).state = .vacant ∧
       ((effective e s).cls = .vanOnly ∨ returnAllowed e s = true)
     pollInFlight s = true → d < s.installed → d < 64 → s.installed ≤ 64 → (s.dock d).state = .reserved →
     (s.dock d).retirePending = false → s.batch = some b → b.kind = .deliver → kind ≠ 1#8 →
     (∀ m ∈ b.manifest, m.bike = T → m.done = true) →
     (((∀ e, ¬ mayReserve e) ∧ moved = s) ∨
       (∃ e, mayReserve e ∧ (∀ x, mayReserve x → e ≤ x) ∧
         moved = setDock e { s.dock e with state := .reserved, reserved := true } s)) →
     (returnAllowed d s = false → HandsFree d s →
       ∃ t, exec (.inserted dock tag kind low) s = .next t ∧ OwnStands .reject d t ∧
         BusOnly (raise (.returnRefused d)
           (setDock d { vacantRecord (s.dock d) with state := .ejecting, phase := some .rejecting } moved)) t) ∧
     (returnAllowed d s = true → T ≠ 0 →
       (∀ e, e < s.installed → e ≠ d → (s.dock e).bike.bind Bike.id ≠ some T) → openHireOf T s = none →
       ∃ t, exec (.inserted dock tag kind low) s = .next t ∧
         BusOnly (raise (.returnDone d 0 0) (enterRecord (.returnForeign T d) (setDock d { vacantRecord (s.dock d) with
           state := .held, bike := some (arrivedBike (some T) .standard s.clock.minute) } moved))) t))

/-- IDENT_REREAD_RETRY places the waiting re-read of the one LATCHING dock that has none in hand, counting it in ident
retries (R59); with a re-read in hand at every LATCHING dock nothing is placed. The unread reply to the second re-read
leaves the bike HELD unidentified, with a TAG_UNREADABLE report and RETURN_UNIDENTIFIED journaled (R60, R124). INSERTED
at a LATCHING dock (R60): a tag ends identification in a rider return, with no new permission check; no tag restarts
it, with one re-read placed. At an EJECTING dock the arrival is taken as at a VACANT one (R54, R57): a rider return
where returns are permitted, else refused again with a new REJECT. Stated for a STANDARD bike that no other dock
records and that has no hire, no batch open and no retirement pending, and where a command is placed for a dock with
nothing in hand. -/
def Obligations.IdentificationRereads : Prop :=
  (∀ (s : State) (d : Nat),
     let reread : Cmd := { kind := .status, dock := d, owner := .release, live := true }
     d < s.installed → d < 64 → (s.dock d).state = .latching →
     (s.due.reread = true → (∀ e, e < s.installed → e ≠ d → (s.dock e).state ≠ .latching) → HandsFree d s →
       s.bus.queue.length < 16 → (s.dock d).rereadAgain = false →
       ∃ t, exec .identRereadRetry s = .next t ∧ Placed reread t ∧
         BusOnly { setDock d { s.dock d with identRetries := (s.dock d).identRetries + 1 } s with
           due := { s.due with reread := false } } t) ∧
     (s.due.reread = true → (∀ e, e < s.installed → e ≠ d → (s.dock e).state ≠ .latching) → Placed reread s →
       exec .identRereadRetry s = .next { s with due := { s.due with reread := false } }) ∧
     (∀ (dock : Byte) (flags : Byte) (n : Nat), dock.toNat = d → flags.getLsbD 0 = true →
       s.bus.inFlight = some { what := .command reread, ticks := some n } → (s.dock d).identRetries = 2 →
       (s.dock d).retirePending = false → s.batch = none → s.settings.categoryMask.testBit 2 = false →
       (s.dock d).faultCount + 1 < s.settings.dockThreshold → (s.dock d).faultCount < 15 →
       ∃ t, exec (.statusIs dock 0#24 flags) s = .next t ∧
         BusOnly (enterRecord (.returnUnidentified d)
           (enterRecord (.dockFault d .tagUnreadable ((s.dock d).faultCount + 1))
             (setDock d { heldRecord (s.dock d) with faultCount := (s.dock d).faultCount + 1 } s))) t)) ∧
  (∀ (s : State) (dock : Byte) (tag : BitVec 24) (kind : Byte) (low : Bool),
     let d := dock.toNat
     let T := tag.toNat
     let returned := raise (.returnDone d 0 0) (enterRecord (.returnForeign T d) (setDock d { vacantRecord (s.dock d) with
       state := .held, bike := some (arrivedBike (some T) .standard s.clock.minute) } s))
     let fresh := (∀ e, e < s.installed → e ≠ d → (s.dock e).bike.bind Bike.id ≠ some T) ∧ openHireOf T s = none
     pollInFlight s = true → d < s.installed → d < 64 → (s.dock d).retirePending = false → s.batch = none → kind ≠ 1#8 →
     ((s.dock d).state = .latching ∨ ((s.dock d).state = .ejecting ∧ returnAllowed d s = true) → T ≠ 0 → fresh →
       ∃ t, exec (.inserted dock tag kind low) s = .next t ∧ BusOnly returned t) ∧
     ((s.dock d).state = .latching → T = 0 → HandsFree d s → s.bus.queue.length < 16 →
       ∃ t, exec (.inserted dock tag kind low) s = .next t ∧
         Placed { kind := .status, dock := d, owner := .release, live := true } t ∧
         BusOnly (setDock d { s.dock d with identRetries := 1, rereadAgain := false } s) t) ∧
     ((s.dock d).state = .ejecting → returnAllowed d s = false → HandsFree d s →
       ∃ t, exec (.inserted dock tag kind low) s = .next t ∧ OwnStands .reject d t ∧
         BusOnly (raise (.returnRefused d)
           (setDock d { vacantRecord (s.dock d) with state := .ejecting, phase := some .rejecting } s)) t))

/-! ## Cards, policies and authorizations -/

/-- CARD_SET with one setting (R64, R65): a value out of range is refused with its position; the entry of a card in the
table is replaced in its flags, standing and clamped balance; a new entry is made where there is room; in a full table
the entry with no open hires that was used longest ago, the smaller id first, makes room; and a count other than 1 to 8
is refused. The reply's list of evicted cards, a count and the ids, is the model's reading of R170 (assumption log 18).
CARD_REMOVE: STARTING, NOT_FOUND, CARD_IN_USE for a card with open hires, else the entry is removed and nothing else
changes (R66). -/
def Obligations.CardSetAndRemove : Prop :=
  (∀ (s : State) (p : Port) (tag : Byte) (fields : List Byte), Taken 0x20#8 p fields s →
     let count := numAt fields 0 1
     let id := numAt fields 1 7
     let good := id ≠ 0 ∧ numAt fields 8 1 ≤ 1 ∧ numAt fields 9 1 ≤ 1 ∧ numAt fields 10 1 ≤ 1 ∧ numAt fields 11 1 ≤ 1
     let balance : Int := max (-99999) (min 999999 (signed 4 (numAt fields 12 4)))
     let written (c : Card) : Card := { c with
       subscriber := decide (numAt fields 8 1 = 1), concession := decide (numAt fields 9 1 = 1)
       deposit := decide (numAt fields 10 1 = 1), balance := balance
       standing := if numAt fields 11 1 = 1 then .blocked else .good }
     let new : Card := written { id := id, subscriber := false, concession := false, deposit := false, standing := .good,
                                 balance := 0, held := 0, openCount := 0, lastUse := s.clock.minute }
     let older (a b : Card) : Prop := a.lastUse < b.lastUse ∨ (a.lastUse = b.lastUse ∧ a.id < b.id)
     (count = 0 ∨ 8 < count → exec (.cardSet p tag fields) s = .next (Reads 0x20#8 tag p .refusedRange [] s)) ∧
     (count = 1 → ¬ good →
       exec (.cardSet p tag fields) s = .next (Reads 0x20#8 tag p .refusedRange [.num 1 1] s)) ∧
     (count = 1 → good → (findCard id s).isSome →
       exec (.cardSet p tag fields) s = .next (WithReply 0x20#8 tag p .ok [.num 1 0, .num 1 1, .num 1 0]
         { s with cards := s.cards.map fun c => if c.id = id then written c else c })) ∧
     (count = 1 → good → findCard id s = none → s.cards.length < 512 →
       exec (.cardSet p tag fields) s = .next (WithReply 0x20#8 tag p .ok [.num 1 1, .num 1 0, .num 1 0]
         { s with cards := s.cards ++ [new] })) ∧
     (∀ v : Card, count = 1 → good → findCard id s = none → 512 ≤ s.cards.length → v ∈ s.cards → v.openCount = 0 →
       (∀ c ∈ s.cards, c.openCount = 0 → c = v ∨ older v c) →
       exec (.cardSet p tag fields) s = .next (WithReply 0x20#8 tag p .ok [.num 1 1, .num 1 0, .num 1 1, .num 7 v.id]
         { s with cards := (s.cards.filter fun c => c.id != v.id) ++ [new] }))) ∧
  (∀ (s : State) (p : Port) (tag : Byte) (fields : List Byte),
     let id := numAt fields 0 7
     (Free p s → p = .uplink → fields.length = 7 → s.station = .starting →
       exec (.cardRemove p tag fields) s = .next (Reads 0x21#8 tag p .starting [] s)) ∧
     (Taken 0x21#8 p fields s →
       (findCard id s = none → exec (.cardRemove p tag fields) s = .next (Reads 0x21#8 tag p .notFound [] s)) ∧
       (∀ c, findCard id s = some c → 0 < c.openCount →
         exec (.cardRemove p tag fields) s = .next (Reads 0x21#8 tag p .cardInUse [] s)) ∧
       (∀ c, findCard id s = some c → c.openCount = 0 →
         exec (.cardRemove p tag fields) s =
           .next (WithReply 0x21#8 tag p .ok [] { s with cards := s.cards.filter fun x => x.id != id }))))

/-- CARD_READ: refused with STARTING while the station starts, NOT_FOUND for a card not in the table, else every field
of the entry with the available amount and the policy index; it changes nothing (R67, R63). -/
def Obligations.CardRead : Prop :=
  ∀ (s : State) (p : Port) (tag : Byte) (fields : List Byte),
    (Free p s → p = .uplink → fields.length = 7 → s.station = .starting →
      exec (.cardRead p tag fields) s = .next (Reads 0x22#8 tag p .starting [] s)) ∧
    (Taken 0x22#8 p fields s → findCard (numAt fields 0 7) s = none →
      exec (.cardRead p tag fields) s = .next (Reads 0x22#8 tag p .notFound [] s)) ∧
    (∀ c, Taken 0x22#8 p fields s → findCard (numAt fields 0 7) s = some c →
      exec (.cardRead p tag fields) s = .next (Reads 0x22#8 tag p .ok
        [.num 7 c.id, .num 1 c.subscriber.toNat, .num 1 c.concession.toNat, .num 1 c.deposit.toNat,
         .num 1 (if c.standing = .blocked then 1 else 0), .num 4 (twos 32 c.balance), .num 4 (twos 32 c.held),
         .num 1 c.openCount, .num 4 c.lastUse, .num 4 (twos 32 (c.balance - c.held)),
         .num 1 (4 * c.subscriber.toNat + 2 * c.concession.toNat + c.deposit.toNat)] s))

/-- POLICY_SET and TARIFF_SET replace one entry when every value lies in its range, and nothing else; any value out of
range refuses the request, which then changes nothing (R68, R69, R90, R91). -/
def Obligations.PolicyAndTariffSet : Prop :=
  ∀ (s : State) (p : Port) (tag : Byte) (fields : List Byte),
    (Taken 0x28#8 p fields s →
      let e : Policy := { tariff := numAt fields 1 1, holdAmount := numAt fields 2 2, maxHires := numAt fields 4 1,
                          electricPermitted := decide (numAt fields 5 1 = 1), discount := numAt fields 6 1,
                          maxDuration := numAt fields 7 2 }
      let good := numAt fields 0 1 ≤ 7 ∧ e.tariff ≤ 3 ∧ e.holdAmount ≤ 20000 ∧ e.maxHires ≤ 4 ∧ numAt fields 5 1 ≤ 1 ∧
        e.discount ≤ 90 ∧ 30 ≤ e.maxDuration ∧ e.maxDuration ≤ 2880
      (good → exec (.policySet p tag fields) s = .next (WithReply 0x28#8 tag p .ok []
        { s with policies := s.policies.setIfInBounds (numAt fields 0 1) e })) ∧
      (¬ good → ∃ i, exec (.policySet p tag fields) s = .next (Reads 0x28#8 tag p .refusedRange [.num 1 i] s))) ∧
    (Taken 0x29#8 p fields s →
      let e : Tariff := { a := numAt fields 1 1, b := numAt fields 2 1, p := numAt fields 3 2, q := numAt fields 5 2,
                          c := numAt fields 7 2 }
      let good := numAt fields 0 1 ≤ 3 ∧ e.a ≤ 240 ∧ 1 ≤ e.b ∧ e.b ≤ 120 ∧ e.p ≤ 2000 ∧ e.q ≤ 1000 ∧ e.c ≤ 50000
      (good → exec (.tariffSet p tag fields) s = .next (WithReply 0x29#8 tag p .ok []
        { s with tariffs := s.tariffs.setIfInBounds (numAt fields 0 1) e })) ∧
      (¬ good → ∃ i, exec (.tariffSet p tag fields) s = .next (Reads 0x29#8 tag p .refusedRange [.num 1 i] s)))

/-- AUTH_GRANT for a waiting entry whose card is not in the table and has room there: the card is installed, the entry
removed, the dock back in HELD, and the resumed hire decided (R79, R44). Stated for a blocked card, whose hire is
refused, and for a GOOD card under a policy that takes no hires; AUTH_DONE carries the result. A tag that is not there
answers NOT_FOUND. That the reply says "no card evicted" with a presence byte of 0 and seven zero bytes is the model's
reading of R170 (assumption log 18). An eviction, a card already in the table and a dock with retirement pending are
left out. AUTH_GRANT whose resumed hire is accepted (R44, R79): the card is installed with the hold, the entry removed,
the hire entered STARTING, the dock RELEASING with its UNLATCH placed, and AUTH_DONE raised with OK. Stated for a card
that is not in the table and has room there, and a dock with nothing in hand; the reply's last bytes as above. -/
def Obligations.AuthGrant : Prop :=
  (∀ (s : State) (p : Port) (tag : Byte) (fields : List Byte), Taken 0x24#8 p fields s →
     numAt fields 1 1 ≤ 1 → numAt fields 2 1 ≤ 1 → numAt fields 3 1 ≤ 1 → numAt fields 4 1 ≤ 1 →
     (findAuth (numAt fields 0 1) s = none →
       exec (.authGrant p tag fields) s = .next (Reads 0x24#8 tag p .notFound [] s)) ∧
     (∀ (e : AuthEntry) (b : Bike), findAuth (numAt fields 0 1) s = some e → findCard e.card s = none →
       s.cards.length < 512 → e.dock < s.installed → e.dock < 64 → (s.dock e.dock).retirePending = false → s.batch = none →
       (s.dock e.dock).bike = some b → b.kind = e.wanted →
       let new : Card := {
         id := e.card, subscriber := decide (numAt fields 1 1 = 1), concession := decide (numAt fields 2 1 = 1)
         deposit := decide (numAt fields 3 1 = 1), standing := if numAt fields 4 1 = 1 then .blocked else .good
         balance := max (-99999) (min 999999 (signed 4 (numAt fields 5 4))), held := 0, openCount := 0
         lastUse := s.clock.minute }
       let granted := { setDock e.dock (heldRecord (s.dock e.dock)) s with
         cards := s.cards ++ [new], authQueue := s.authQueue.filter fun x => x.tag != e.tag }
       let done (r : Result) : Prop := exec (.authGrant p tag fields) s =
         .next (WithReply 0x24#8 tag p .ok
           [.num 1 (numAt fields 0 1), .num 1 r.code, .num 2 0, .num 1 0, .num 7 0]
           (raise (.authDone (numAt fields 0 1) r) granted))
       verdict e.dock granted = .hireable →
         (numAt fields 4 1 = 1 → done .cardBlocked) ∧
         (numAt fields 4 1 = 0 → (s.policy (4 * numAt fields 1 1 + 2 * numAt fields 2 1 + numAt fields 3 1)).maxHires = 0 →
           done .notPermitted))) ∧
  (∀ (s : State) (p : Port) (tag : Byte) (fields : List Byte) (e : AuthEntry) (b : Bike) (i : Nat),
     Taken 0x24#8 p fields s → numAt fields 1 1 ≤ 1 → numAt fields 2 1 ≤ 1 → numAt fields 3 1 ≤ 1 → numAt fields 4 1 = 0 →
     findAuth (numAt fields 0 1) s = some e → findCard e.card s = none → s.cards.length < 512 → s.hires.length < 96 →
     e.dock < s.installed → e.dock < 64 → (s.dock e.dock).retirePending = false → s.batch = none →
     (s.dock e.dock).bike = some b → b.kind = e.wanted → b.id = some i → HandsFree e.dock s → s.bus.queue.length < 16 →
     let index := 4 * numAt fields 1 1 + 2 * numAt fields 2 1 + numAt fields 3 1
     let pol := s.policy index
     let tar := s.tariff pol.tariff
     let h := freeHireNumber s
     let balance : Int := max (-99999) (min 999999 (signed 4 (numAt fields 5 4)))
     let held := setDock e.dock (heldRecord (s.dock e.dock)) s
     verdict e.dock held = .hireable → 0 < pol.maxHires → (b.kind = .electric → pol.electricPermitted = true) →
     (pol.holdAmount : Int) ≤ balance →
     ∃ t, exec (.authGrant p tag fields) s = .next t ∧
       Placed { kind := .unlatch, dock := e.dock, owner := .release, live := true } t ∧
       BusOnly (WithReply 0x24#8 tag p .ok
         [.num 1 (numAt fields 0 1), .num 1 0, .num 2 h, .num 1 0, .num 7 0]
         (raise (.authDone (numAt fields 0 1) .ok) { setDock e.dock { heldRecord (s.dock e.dock) with
             state := .releasing, owner := some (.hire h), bike := some { b with sense := none }
             phase := some .unlatching } s with
           authQueue := s.authQueue.filter fun x => x.tag != e.tag
           lastHire := h
           cards := s.cards ++ [{
             id := e.card, subscriber := decide (numAt fields 1 1 = 1), concession := decide (numAt fields 2 1 = 1)
             deposit := decide (numAt fields 3 1 = 1), standing := .good, balance := balance, held := pol.holdAmount
             openCount := 1, lastUse := s.clock.minute }]
           hires := s.hires ++ [{
             number := h, state := .starting, card := e.card, policyIndex := index, bike := i, kind := b.kind
             dockFrom := some e.dock, start := none, holdAmount := pol.holdAmount, origin := .home
             terms := { a := tar.a, b := tar.b, p := tar.p, q := tar.q, c := tar.c, discount := pol.discount,
                        maxDuration := pol.maxDuration } }] })) t)

/-- An authorization ends (R77): AUTH_TIMEOUT for the oldest entry whose countdown has run out, with the result
AUTH_TIMEOUT (R78), and AUTH_DENY for the entry of the tag, with CARD_BLOCKED (R80). The entry is removed, the dock
goes back to HELD and the terminal is told. That AUTH_TIMEOUT changes nothing while no countdown is marked as run out
is the model's choice (assumption log 1). Stated with no batch open and no retirement pending. LINK_STATE: a value
above 1 is refused; 1 puts the link ONLINE; 0 puts it OFFLINE and ends every authorization, its docks back in HELD, the
last of them told in AUTH_DONE with OFFLINE; 0 on an OFFLINE link changes nothing (R81, R77). Stated, where
authorizations end, with no batch open and no retirement pending. -/
def Obligations.AuthorizationsEnd : Prop :=
  (∀ s : State, s.batch = none →
     let ended (e : AuthEntry) (r : Result) : State := raise (.authDone e.tag r)
       { setDock e.dock (heldRecord (s.dock e.dock)) s with authQueue := s.authQueue.filter fun x => x.tag != e.tag }
     (∀ (before : List AuthEntry) (e : AuthEntry) (after : List AuthEntry), s.authQueue = before ++ e :: after →
       (∀ x ∈ before, x.timedOut = false) → e.timedOut = true → (s.dock e.dock).retirePending = false →
       exec .authTimeout s = .next (ended e .authTimeout)) ∧
     ((∀ e ∈ s.authQueue, e.timedOut = false) → exec .authTimeout s = .next s) ∧
     (∀ (p : Port) (tag : Byte) (fields : List Byte), Taken 0x25#8 p fields s →
       (findAuth (numAt fields 0 1) s = none →
         exec (.authDeny p tag fields) s = .next (Reads 0x25#8 tag p .notFound [] s)) ∧
       (∀ e, findAuth (numAt fields 0 1) s = some e → (s.dock e.dock).retirePending = false →
         exec (.authDeny p tag fields) s =
           .next (WithReply 0x25#8 tag p .ok [] (ended e .cardBlocked))))) ∧
  (∀ (s : State) (p : Port) (tag : Byte) (fields : List Byte), Taken 0x26#8 p fields s →
     let v := numAt fields 0 1
     (1 < v → exec (.linkState p tag fields) s = .next (Reads 0x26#8 tag p .refusedRange [] s)) ∧
     (v = 1 → exec (.linkState p tag fields) s = .next (WithReply 0x26#8 tag p .ok [] { s with link := .online })) ∧
     (v = 0 → s.link = .offline → exec (.linkState p tag fields) s = .next (Reads 0x26#8 tag p .ok [] s)) ∧
     (v = 0 → s.link = .online → s.batch = none → (∀ e ∈ s.authQueue, (s.dock e.dock).retirePending = false) →
       ∃ u, exec (.linkState p tag fields) s = .next (WithReply 0x26#8 tag p .ok [] u) ∧
         u = { s with link := .offline, authQueue := [], docks := u.docks
                      terminal := { s.terminal with pending := u.terminal.pending } } ∧
         (∀ d, d < 64 → u.dock d = if s.authQueue.any (fun e => e.dock == d) then heldRecord (s.dock d) else s.dock d) ∧
         (∀ e, s.authQueue.getLast? = some e → Notice.authDone e.tag .offline ∈ u.terminal.pending) ∧
         (∀ n ∈ s.terminal.pending, n.kind ≠ .authDone → n ∈ u.terminal.pending)))

/-- AUTH_LIST: refused with STARTING while the station starts, else the number of entries and every entry, oldest
first; it changes nothing and restarts no countdown (R82). -/
def Obligations.AuthList : Prop :=
  ∀ (s : State) (p : Port) (tag : Byte) (fields : List Byte),
    (Free p s → p = .uplink → fields = [] → s.station = .starting →
      exec (.authList p tag fields) s = .next (Reads 0x23#8 tag p .starting [] s)) ∧
    (Taken 0x23#8 p fields s →
      exec (.authList p tag fields) s = .next (Reads 0x23#8 tag p .ok
        (.num 1 s.authQueue.length :: s.authQueue.flatMap fun e =>
          [.num 1 e.tag, .num 7 e.card, .num 1 e.dock, .num 1 (if e.wanted = .electric then 1 else 0),
           .num 1 e.remaining]) s))

/-- The Card Table's law at every step from every state of which it holds (R63, R64, R65, R74, R83): at most 512
entries with distinct ids, every balance in -99,999 to 999,999, every open count the number of the card's hires and
every held amount the sum of their holds. With it go what it rests on: at most 96 hires with distinct numbers, each of
a card in the table. -/
def Obligations.CardTableLawKept : Prop :=
  let good (s : State) : Prop := cardLaw s = true ∧ s.hires.length ≤ 96 ∧ (s.hires.map Hire.number).Nodup ∧
    ∀ r ∈ s.hires, (findCard r.card s).isSome
  good State.reset ∧ ∀ s t : State, good s → step s = .next t → good t

/-! ## Hires and charging -/

/-- The charge of a hire from its duration, frozen terms and kind, the seven steps of R92, and that it never exceeds
999,999 nor, under a day cap, the cap times the started 24-hour periods. -/
def Obligations.Charge : Prop :=
  ∀ (r : Hire) (S E : Nat), r.start = some S →
    let t := r.terms
    let D := if S ≤ E then E - S else 0
    let U := if r.kind = .electric then t.p + t.q else t.p
    let n := if D ≤ t.a then 0 else (D - t.a + t.b - 1) / t.b
    let R := n * U
    let k := if (D + 1439) / 1440 = 0 then 1 else (D + 1439) / 1440
    let K := if 0 < t.c then min R (t.c * k) else R
    let F := K * (100 - t.discount) / 100
    hireCharge r E = (if 999999 < F then 999999 else F) ∧
    hireCharge r E ≤ 999999 ∧ (t.c ≠ 0 → hireCharge r E ≤ t.c * k)

/-- HIRE_QUERY and HIRE_READ answer from the hire record and change nothing: STARTING while the station starts,
NOT_FOUND, HIRE_NOT_OUT for a STARTING hire at HIRE_QUERY, the duration and charge to now, and every field of the
record in R83's order (R97, R98, R170). -/
def Obligations.HireQueryAndRead : Prop :=
  ∀ (s : State) (p : Port) (tag : Byte) (fields : List Byte),
    let h := numAt fields 0 2
    let code (r : Hire) : Nat := match r.state with | .starting => 0 | .out => 1 | .overdue => 2
    (Free p s → p ≠ .service → fields.length = 2 → s.station = .starting →
      exec (.hireQuery p tag fields) s = .next (Reads 0x11#8 tag p .starting [] s)) ∧
    (Free p s → p = .uplink → fields.length = 2 → s.station = .starting →
      exec (.hireRead p tag fields) s = .next (Reads 0x2E#8 tag p .starting [] s)) ∧
    (Taken 0x11#8 p fields s →
      (findHire h s = none → exec (.hireQuery p tag fields) s = .next (Reads 0x11#8 tag p .notFound [] s)) ∧
      (∀ r, findHire h s = some r → r.state = .starting →
        exec (.hireQuery p tag fields) s = .next (Reads 0x11#8 tag p .hireNotOut [] s)) ∧
      (∀ r S, findHire h s = some r → r.state ≠ .starting → r.start = some S →
        exec (.hireQuery p tag fields) s = .next (Reads 0x11#8 tag p .ok
          [.num 2 r.number, .num 1 (code r), .num 4 S, .num 3 r.bike, .num 4 (s.clock.minute - S),
           .num 4 (twos 32 (hireCharge r s.clock.minute))] s))) ∧
    (Taken 0x2E#8 p fields s →
      (findHire h s = none → exec (.hireRead p tag fields) s = .next (Reads 0x2E#8 tag p .notFound [] s)) ∧
      (∀ r, findHire h s = some r →
        exec (.hireRead p tag fields) s = .next (Reads 0x2E#8 tag p .ok
          [.num 2 r.number, .num 1 (code r), .num 7 r.card, .num 1 r.policyIndex, .num 3 r.bike,
           .num 1 (if r.kind = .electric then 1 else 0), .num 1 r.dockFrom.isSome.toNat, .num 1 (r.dockFrom.getD 0),
           .num 1 r.start.isSome.toNat, .num 4 (r.start.getD 0), .num 2 r.holdAmount,
           .num 1 (if r.origin = .restored then 1 else 0), .num 1 r.terms.a, .num 1 r.terms.b, .num 2 r.terms.p,
           .num 2 r.terms.q, .num 2 r.terms.c, .num 1 r.terms.discount, .num 2 r.terms.maxDuration] s)))

/-- HIRE_CLOSE_REMOTE: the refusals in the order of R99, and the close: the end minute clamped between the start and
now, the record removed, the card settled, HIRE_CLOSE journaled with the remote station, and a GOOD card whose balance
falls below 0 BLOCKED and journaled (R74, R75, R94, R99). -/
def Obligations.HireCloseRemote : Prop :=
  ∀ (s : State) (p : Port) (tag : Byte) (fields : List Byte), Taken 0x2C#8 p fields s →
    let h := numAt fields 0 2
    let station := numAt fields 6 2
    (station = 0 → exec (.hireCloseRemote p tag fields) s = .next (Reads 0x2C#8 tag p .refusedRange [] s)) ∧
    (station ≠ 0 → findHire h s = none →
      exec (.hireCloseRemote p tag fields) s = .next (Reads 0x2C#8 tag p .notFound [] s)) ∧
    (∀ r, findHire h s = some r → station ≠ 0 → r.state = .starting →
      exec (.hireCloseRemote p tag fields) s = .next (Reads 0x2C#8 tag p .hireNotOut [] s)) ∧
    (∀ r S c, findHire h s = some r → r.start = some S → findCard r.card s = some c → station ≠ 0 → r.state ≠ .starting →
      let E := max S (min (numAt fields 2 4) s.clock.minute)
      let F := hireCharge r E
      let after := max (c.balance - F) (-99999)
      let settled (blocked : Bool) := { s with
        hires := s.hires.filter fun x => x.number != h
        cards := s.cards.map fun x => if x.id = r.card then
          { x with held := x.held - r.holdAmount, balance := max (x.balance - F) (-99999), openCount := x.openCount - 1
                   lastUse := s.clock.minute, standing := if blocked then .blocked else x.standing } else x }
      let close := Entry.hireClose h r.card r.bike (.remote station) (E - S) F after
      let reply := [ReplyField.num 2 h, .num 4 (E - S), .num 4 (twos 32 F), .num 4 (twos 32 after)]
      ((0 ≤ after ∨ c.standing = .blocked) → exec (.hireCloseRemote p tag fields) s =
        .next (WithReply 0x2C#8 tag p .ok reply (enterRecord close (settled false)))) ∧
      (after < 0 → c.standing = .good → exec (.hireCloseRemote p tag fields) s =
        .next (WithReply 0x2C#8 tag p .ok reply
          (enterRecord (.cardBlocked r.card after) (enterRecord close (settled true))))))

/-- HIRE_RESTORE enters the record it carries, OUT, with its hold placed unchecked and the last hire number raised to
it; one that has already reached its max duration becomes OVERDUE at once, journaled and told (R72, R100, R101). Stated
for a request that passes the checks of R100, and for the refusals of its eight steps in their order. -/
def Obligations.HireRestore : Prop :=
  ∀ (s : State) (p : Port) (tag : Byte) (fields : List Byte), Taken 0x2D#8 p fields s →
    let f := restoreFields fields
    let inRange := f.hire ≠ 0 ∧ f.card ≠ 0 ∧ f.bike ≠ 0 ∧ f.kind ≤ 1 ∧ f.hold ≤ 20000 ∧ f.terms.a ≤ 240 ∧
      1 ≤ f.terms.b ∧ f.terms.b ≤ 120 ∧ f.terms.p ≤ 2000 ∧ f.terms.q ≤ 1000 ∧ f.terms.c ≤ 50000 ∧
      f.terms.discount ≤ 90 ∧ 30 ≤ f.terms.maxDuration ∧ f.terms.maxDuration ≤ 2880
    let free := (∀ r ∈ s.hires, r.number ≠ f.hire) ∧ (∀ r ∈ s.hires, r.bike ≠ f.bike)
    let undocked := ∀ d, d < s.installed → (s.dock d).bike.bind Bike.id ≠ some f.bike
    let no (r : Result) (reply : List ReplyField) : Prop :=
      exec (.hireRestore p tag fields) s = .next (Reads 0x2D#8 tag p r reply s)
    (¬ inRange → ∃ i, no .refusedRange [.num 1 1, .num 1 i]) ∧
    (inRange → s.clock.minute < f.start → no .refusedRange [.num 1 2]) ∧
    (inRange → f.start ≤ s.clock.minute → (∃ r ∈ s.hires, r.number = f.hire) → no .refusedRange [.num 1 3]) ∧
    (inRange → f.start ≤ s.clock.minute → (∀ r ∈ s.hires, r.number ≠ f.hire) → (∃ r ∈ s.hires, r.bike = f.bike) →
      no .refusedRange [.num 1 4]) ∧
    (inRange → f.start ≤ s.clock.minute → free → findCard f.card s = none → no .notFound []) ∧
    (∀ c, findCard f.card s = some c → inRange → f.start ≤ s.clock.minute → free →
      (¬ undocked → no .bikeDocked []) ∧
      (undocked → 96 ≤ s.hires.length → no .registerFull []) ∧
      (undocked → s.hires.length < 96 → 4 ≤ c.openCount → no .cardLimit []) ∧
      (undocked → s.hires.length < 96 → c.openCount < 4 →
        let r (state : HireState) : Hire := {
          number := f.hire, state := state, card := f.card
          policyIndex := 4 * c.subscriber.toNat + 2 * c.concession.toNat + c.deposit.toNat
          bike := f.bike, kind := if f.kind = 1 then .electric else .standard, dockFrom := none, start := some f.start
          holdAmount := f.hold, origin := .restored, terms := f.terms }
        let entered (state : HireState) := { s with
          hires := s.hires ++ [r state], lastHire := max s.lastHire f.hire
          cards := s.cards.map fun x => if x.id = f.card then
            { x with held := x.held + f.hold, openCount := x.openCount + 1, lastUse := s.clock.minute } else x }
        (s.clock.minute - f.start < f.terms.maxDuration → exec (.hireRestore p tag fields) s =
          .next (WithReply 0x2D#8 tag p .ok [.num 2 f.hire, .num 1 1] (entered .out))) ∧
        (f.terms.maxDuration ≤ s.clock.minute - f.start → exec (.hireRestore p tag fields) s =
          .next (WithReply 0x2D#8 tag p .ok [.num 2 f.hire, .num 1 2]
            (raise (.hireOverdue f.hire) (enterRecord (.hireOverdue f.hire f.card f.bike) (entered .overdue)))))))

/-- The Hire Register holds at most 96 records with distinct numbers, none of them 0, at every step from every state of
which this holds, and the number an acceptance takes is free (R83, R87). -/
def Obligations.HireNumbersUnique : Prop :=
  let good (s : State) : Prop := s.hires.length ≤ 96 ∧ (s.hires.map Hire.number).Nodup ∧ ∀ r ∈ s.hires, r.number ≠ 0
  good State.reset ∧
  (∀ s : State, good s → freeHireNumber s ≠ 0 ∧ freeHireNumber s ≤ 65535 ∧ ∀ r ∈ s.hires, r.number ≠ freeHireNumber s) ∧
  ∀ s t : State, good s → step s = .next t → good t

/-! ## Batches -/

/-- BATCH_OPEN of a DELIVER batch, and of a COLLECT batch with a manifest (R104, R105, R107): the record, the idle
timer, and the docks RESERVED in the order of R105 or given a van hold; a value out of range opens none; a batch
already open refuses the request and has its idle timer restarted (R117). -/
def Obligations.BatchOpenManifest : Prop :=
  ∀ (s : State) (p : Port) (tag : Byte) (fields : List Byte), Taken 0x40#8 p fields s →
    let f := batchFields fields
    let good := f.kind ≤ 1 ∧ 1 ≤ f.crew ∧ f.crew ≤ 9999 ∧ f.count ≤ 16 ∧ (∀ b ∈ f.bikes, b ≠ 0) ∧ f.bikes.Nodup ∧
      ((1 ≤ f.count ∧ f.target = 0) ∨ (f.kind = 0 ∧ f.count = 0 ∧ 1 ≤ f.target ∧ f.target ≤ 16))
    let due := { s.due with idle := false }
    let batch (kind : BatchKind) : Batch := {
      kind := kind, crew := f.crew, opened := s.clock.minute, manifest := f.bikes.map fun b => { bike := b, done := false }
      target := f.target, done := 0, idle := 60 * s.settings.batchIdle, expiryWaiting := false }
    let canReserve (d : Nat) : Bool := (s.dock d).state == .vacant &&
      ((effective d s).cls == .vanOnly || returnAllowed d s)
    let order := (List.range s.installed).filter (fun d => canReserve d && (effective d s).cls == .vanOnly) ++
      (List.range s.installed).filter (fun d => canReserve d && (effective d s).cls != .vanOnly)
    let wanted := (List.range s.installed).filter fun d => (s.dock d).state == .held && (effective d s).cls != .closed &&
      f.bikes.any fun b => (s.dock d).bike.bind Bike.id == some b
    (∀ b, s.batch = some b → exec (.batchOpen p tag fields) s = .next (WithReply 0x40#8 tag p .batchOpen []
      { s with due := due, batch := some { b with idle := 60 * s.settings.batchIdle, expiryWaiting := false } })) ∧
    (s.batch = none → ¬ good → exec (.batchOpen p tag fields) s = .next (Reads 0x40#8 tag p .refusedRange [] s)) ∧
    (s.batch = none → good → f.kind = 1 → (∀ d, d < s.installed → (s.dock d).state ≠ .reserved) →
      ∃ u, exec (.batchOpen p tag fields) s = .next (WithReply 0x40#8 tag p .ok
          [.num 1 (order.take f.count).length, .num 1 0, .num 1 0] u) ∧
        u = { s with due := due, batch := some (batch .deliver), docks := u.docks } ∧
        ∀ d, d < 64 → u.dock d = if d ∈ order.take f.count then { s.dock d with state := .reserved, reserved := true }
          else s.dock d) ∧
    (s.batch = none → good → f.kind = 0 → f.target = 0 →
      ∃ u, exec (.batchOpen p tag fields) s = .next (WithReply 0x40#8 tag p .ok
          [.num 1 0, .num 1 wanted.length, .num 1 0] u) ∧
        u = { s with due := due, batch := some (batch .collect), docks := u.docks } ∧
        ∀ d, d < 64 → u.dock d = if d ∈ wanted then { s.dock d with vanHold := true } else s.dock d)

/-- BATCH_OPEN of a COLLECT batch with a target (R108): RETIRED docks with a stranded bike first, which are counted and
not held; then quarantined and unidentified bikes; then the others in the order of their docked-since minute and dock
number, for as long as at least min keep hireable docks are left. -/
def Obligations.BatchOpenTarget : Prop :=
  ∀ (s : State) (p : Port) (tag : Byte) (fields : List Byte) (sorted picked rest : List Nat), Taken 0x40#8 p fields s →
    let f := batchFields fields
    let open_ (d : Nat) : Bool := (s.dock d).state == .held && (effective d s).cls != .closed
    let doubtful (d : Nat) : Bool := quarantined (s.dock d) s || ((s.dock d).bike.bind Bike.id).isNone
    let since (d : Nat) : Nat := match (s.dock d).bike with | some b => b.dockedSince | none => 0
    let hireable (d : Nat) : Bool := verdict d s == .hireable
    let stranded := ((List.range s.installed).filter fun d =>
      (s.dock d).state == .retired && (s.dock d).bike.isSome && (effective d s).cls != .closed).take f.target
    let second := ((List.range s.installed).filter fun d => open_ d && doubtful d).take (f.target - stranded.length)
    let left := f.target - stranded.length - second.length
    let count := (List.range s.installed).countP hireable
    s.batch = none → f.kind = 0 → 1 ≤ f.crew → f.crew ≤ 9999 → f.count = 0 → 1 ≤ f.target → f.target ≤ 16 →
    sorted.Perm ((List.range s.installed).filter fun d => open_ d && !doubtful d) →
    sorted.Pairwise (fun a b => since a < since b ∨ (since a = since b ∧ a < b)) →
    sorted = picked ++ rest → picked.length ≤ left →
    (picked.countP hireable = 0 ∨ picked.countP hireable + s.settings.minKeep ≤ count) →
    (picked.length = left ∨ rest = [] ∨
      ∃ d more, rest = d :: more ∧ hireable d = true ∧ count ≤ picked.countP hireable + s.settings.minKeep) →
    ∃ u, exec (.batchOpen p tag fields) s = .next (WithReply 0x40#8 tag p .ok
        [.num 1 0, .num 1 (second.length + picked.length), .num 1 stranded.length] u) ∧
      u = { s with
        due := { s.due with idle := false }, docks := u.docks
        batch := some { kind := .collect, crew := f.crew, opened := s.clock.minute, manifest := [], target := f.target,
                        done := 0, idle := 60 * s.settings.batchIdle, expiryWaiting := false } } ∧
      ∀ d, d < 64 → u.dock d = if d ∈ second ++ picked then { s.dock d with vanHold := true } else s.dock d

/-- BATCH_TAKE: NO_BATCH, NO_DOCK and DOCK_NOT_READY, and the release of a dock that may be taken, named or the
lowest-numbered one: the UNLATCH placed and the dock RELEASING for the batch, with its retirement pending if it was
RETIRED; every request of an open batch restarts its idle timer (R112, R117). The release is stated for a dock with
nothing in hand and a queue with room; where the UNLATCH is refused (R30) the answer is BUS_BUSY. -/
def Obligations.BatchTakeReleases : Prop :=
  ∀ (s : State) (p : Port) (tag : Byte) (fields : List Byte), Taken 0x41#8 p fields s →
    let dock := numAt fields 0 1
    let canTake (d : Nat) : Prop := ((s.dock d).state = .held ∧ (s.dock d).vanHold = true) ∨
      ((s.dock d).state = .retired ∧ (s.dock d).bike.isSome ∧ (effective d s).cls ≠ .closed)
    (s.batch = none → exec (.batchTake p tag fields) s = .next (Reads 0x41#8 tag p .noBatch [] s)) ∧
    (∀ b, s.batch = some b →
      let restarted := { s with
        due := { s.due with idle := false }
        batch := some { b with idle := 60 * s.settings.batchIdle, expiryWaiting := false } }
      (dock ≠ 255 → s.installed ≤ dock →
        exec (.batchTake p tag fields) s = .next (WithReply 0x41#8 tag p .noDock [] restarted)) ∧
      (dock ≠ 255 → dock < s.installed → ¬ canTake dock →
        exec (.batchTake p tag fields) s = .next (WithReply 0x41#8 tag p .dockNotReady [] restarted)) ∧
      (dock = 255 → (∀ d, d < s.installed → ¬ canTake d) →
        exec (.batchTake p tag fields) s = .next (WithReply 0x41#8 tag p .dockNotReady [] restarted)) ∧
      (∀ d, d < s.installed → d < 64 → canTake d → (dock = d ∨ (dock = 255 ∧ ∀ e, e < d → ¬ canTake e)) →
        HandsFree d s → s.bus.queue.length < 16 →
        ∃ t, exec (.batchTake p tag fields) s = .next t ∧
          Placed { kind := .unlatch, dock := d, owner := .release, live := true } t ∧
          BusOnly (WithReply 0x41#8 tag p .ok [.num 1 d]
            (setDock d { s.dock d with
              state := .releasing, owner := some .batch, phase := some .unlatching, window := none
              bike := (s.dock d).bike.map fun b => { b with sense := none }
              retirePending := (s.dock d).retirePending || (s.dock d).state == .retired } restarted)) t) ∧
      (∀ d, d < s.installed → d < 64 → canTake d → (dock = d ∨ (dock = 255 ∧ ∀ e, e < d → ¬ canTake e)) →
        UnlatchRefused d s →
        exec (.batchTake p tag fields) s = .next (WithReply 0x41#8 tag p .busBusy [] restarted)))

/-- The end of a batch with no release of it in flight, by BATCH_CLOSE and by BATCH_IDLE_EXPIRY: every RESERVED dock
VACANT, every van hold off, BATCH_CLOSED journaled and BATCH_ENDED raised (R116, R118). With a release in flight
BATCH_CLOSE is refused with BATCH_IN_FLIGHT, and the expiry waits. BATCH_READ: NO_BATCH, or the record with its counts
as they stand before the restart of the idle timer that the request makes (R120, R117, R102). -/
def Obligations.BatchEndsAndRead : Prop :=
  (∀ s : State,
     let none_ := ∀ d, d < s.installed → ¬ ((s.dock d).state = .releasing ∧ (s.dock d).owner = some .batch)
     let ended (b : Batch) (outcome : BatchOutcome) (u : State) : Prop :=
       ∃ k : Vector Dock Config.docks,
         u = { raise (.batchEnded outcome) (enterRecord (.batchClosed b.crew b.kind outcome b.done b.pendingCount) s) with
           docks := k, batch := none, due := { s.due with idle := false } } ∧
         ∀ d, d < 64 → u.dock d = if d < s.installed then
             (if (s.dock d).state = .reserved ∧ (s.dock d).reserved = true then
               { s.dock d with state := .vacant, reserved := false, vanHold := false }
             else { s.dock d with vanHold := false })
           else s.dock d
     (∀ b, s.batch = some b → s.due.idle = true →
       (none_ → ∃ u, exec .batchIdleExpiry s = .next u ∧ ended b .timedOut u) ∧
       (¬ none_ → exec .batchIdleExpiry s = .next { s with
         due := { s.due with idle := false }, batch := some { b with expiryWaiting := true } })) ∧
     (∀ (p : Port) (tag : Byte) (fields : List Byte), Taken 0x42#8 p fields s →
       (s.batch = none → exec (.batchClose p tag fields) s = .next (Reads 0x42#8 tag p .noBatch [] s)) ∧
       (∀ b, s.batch = some b →
         (none_ → ∃ u, exec (.batchClose p tag fields) s = .next (WithReply 0x42#8 tag p .ok
             [.num 1 b.done, .num 1 b.pendingCount] u) ∧ ended b .closed u) ∧
         (¬ none_ → exec (.batchClose p tag fields) s = .next (WithReply 0x42#8 tag p .batchInFlight [] { s with
           due := { s.due with idle := false }
           batch := some { b with idle := 60 * s.settings.batchIdle, expiryWaiting := false } }))))) ∧
  (∀ (s : State) (p : Port) (tag : Byte) (fields : List Byte), Taken 0x43#8 p fields s →
     let count (test : Nat → Bool) : ReplyField := .num 1 ((List.range s.installed).filter test).length
     (s.batch = none → exec (.batchRead p tag fields) s = .next (Reads 0x43#8 tag p .noBatch [] s)) ∧
     (∀ b, s.batch = some b →
       exec (.batchRead p tag fields) s = .next (WithReply 0x43#8 tag p .ok
         ([.num 1 (if b.kind = .deliver then 1 else 0), .num 2 b.crew, .num 4 b.opened, .num 1 b.target, .num 1 b.done,
           .num 1 (if 0 < b.target then b.target - b.done else (b.manifest.filter fun m => !m.done).length),
           count (fun d => (s.dock d).state == .reserved && (s.dock d).reserved), count (fun d => (s.dock d).vanHold),
           count (fun d => (s.dock d).state == .releasing && (s.dock d).owner == some .batch), .num 2 b.idle,
           .num 1 b.expiryWaiting.toNat, .num 1 b.manifest.length] ++
           b.manifest.flatMap fun m => [.num 3 m.bike, .num 1 m.done.toNat])
         { s with
           due := { s.due with idle := false }
           batch := some { b with idle := 60 * s.settings.batchIdle, expiryWaiting := false } })))

/-! ## Faults -/

/-- REPORT_FAULT against a dock, by the terminal for RIDER_DOCK and by the service port for CREW_DOCK (R121, R122,
R124, R128): a minor report below the threshold counts one; a severe one raises the count to the threshold and retires
a VACANT or HELD dock; a masked category changes nothing (R123); a category that is not the port's, or no category, is
refused. DOCK_RESTORE gives a RETIRED dock back: its fault count is 0, and it is HELD with its stranded bike or VACANT;
a number with no dock and a dock that is not RETIRED are refused (R131). Stated with no batch open. -/
def Obligations.DockFaults : Prop :=
  (∀ (s : State) (p : Port) (tag : Byte) (fields : List Byte), Taken 0x12#8 p fields s →
     let c := numAt fields 0 1
     let d := numAt fields 1 3
     let k := s.dock d
     let n := max k.faultCount s.settings.dockThreshold
     let reply (count state : Nat) (pending : Bool) : List ReplyField :=
       [.num 1 c, .num 3 d, .num 1 count, .num 1 state, .num 1 pending.toNat]
     (10 < c → exec (.reportFault p tag fields) s = .next (Reads 0x12#8 tag p .refusedRange [] s)) ∧
     (c ≤ 10 → ¬ ((p = .terminal ∧ c ∈ [4, 6, 7, 8]) ∨ (p = .service ∧ c ∈ [5, 9])) →
       exec (.reportFault p tag fields) s = .next (Reads 0x12#8 tag p .notPermitted [] s)) ∧
     ((p = .terminal ∧ c = 4) ∨ (p = .service ∧ c = 5) →
       (s.installed ≤ d → exec (.reportFault p tag fields) s = .next (Reads 0x12#8 tag p .noDock [] s)) ∧
       (d < s.installed → s.settings.categoryMask.testBit c = true →
         exec (.reportFault p tag fields) s =
           .next (Reads 0x12#8 tag p .ok (reply k.faultCount k.state.code k.retirePending) s))) ∧
     (p = .terminal → c = 4 → d < s.installed → d < 64 → s.settings.categoryMask.testBit 4 = false →
       k.faultCount + 1 < s.settings.dockThreshold → k.faultCount < 15 →
       exec (.reportFault p tag fields) s =
         .next (WithReply 0x12#8 tag p .ok (reply (k.faultCount + 1) k.state.code k.retirePending)
           (enterRecord (.dockFault d .riderDock (k.faultCount + 1))
             (setDock d { k with faultCount := k.faultCount + 1 } s)))) ∧
     (p = .service → c = 5 → d < s.installed → d < 64 → s.settings.categoryMask.testBit 5 = false →
       (k.state = .vacant ∨ k.state = .held) →
       ∃ t, exec (.reportFault p tag fields) s = .next t ∧
         BusOnly (WithReply 0x12#8 tag p .ok (reply n 7 false)
           (raise (.dockRetired d) (enterRecord (.dockRetired d (k.bike.map fun b => b.id.getD 0))
             (enterRecord (.dockFault d .crewDock n) (setDock d { vacantRecord k with
               state := .retired, bike := k.bike, faultCount := n } s))))) t)) ∧
  (∀ (s : State) (p : Port) (tag : Byte) (fields : List Byte), Taken 0x44#8 p fields s →
     let d := numAt fields 0 1
     (s.installed ≤ d → exec (.dockRestore p tag fields) s = .next (Reads 0x44#8 tag p .noDock [] s)) ∧
     (d < s.installed → (s.dock d).state ≠ .retired →
       exec (.dockRestore p tag fields) s = .next (Reads 0x44#8 tag p .dockNotReady [] s)) ∧
     (d < s.installed → d < 64 → (s.dock d).state = .retired → (s.dock d).retirePending = false → s.batch = none →
       ((s.dock d).bike.isSome → exec (.dockRestore p tag fields) s = .next (WithReply 0x44#8 tag p .ok [.num 1 3]
         (setDock d { heldRecord (s.dock d) with faultCount := 0 } s))) ∧
       ((s.dock d).bike = none → exec (.dockRestore p tag fields) s = .next (WithReply 0x44#8 tag p .ok [.num 1 0]
         (setDock d { vacantRecord (s.dock d) with faultCount := 0 } s)))))

/-- REPORT_FAULT against a bike (R122, R125, R133, R135): a minor report makes an entry with count 1 where there is
room; a severe one raises the count to the threshold, so that the bike is quarantined, journaled and told; a bike id of
0 is refused, and in a full table of quarantined bikes the answer is NOT_RECORDED. -/
def Obligations.ReportBikeFault : Prop :=
  ∀ (s : State) (p : Port) (tag : Byte) (fields : List Byte), Taken 0x12#8 p fields s →
    let c := numAt fields 0 1
    let b := numAt fields 1 3
    let severe := c = 6 ∨ c = 9
    let n := s.settings.bikeThreshold
    let reply (count quarantined : Nat) : List ReplyField := [.num 1 c, .num 3 b, .num 1 count, .num 1 quarantined]
    let entry (count : Nat) (q : Bool) : BikeFault :=
      { bike := b, count := count, quarantined := q, lastReport := s.clock.minute }
    ∀ cat : Category, cat.code = c → (p = .terminal ∧ c ∈ [6, 7, 8]) ∨ (p = .service ∧ c = 9) →
    (b = 0 → exec (.reportFault p tag fields) s = .next (Reads 0x12#8 tag p .refusedRange [] s)) ∧
    (b ≠ 0 → findBikeFault b s = none → s.settings.categoryMask.testBit c = false →
      (32 ≤ s.bikeFaults.length → (∀ f ∈ s.bikeFaults, f.quarantined = true) →
        exec (.reportFault p tag fields) s = .next (Reads 0x12#8 tag p .notRecorded [] s)) ∧
      (s.bikeFaults.length < 32 → ¬ severe → 1 < n →
        exec (.reportFault p tag fields) s = .next (WithReply 0x12#8 tag p .ok (reply 1 0)
          (enterRecord (.bikeFault b cat 1) { s with bikeFaults := s.bikeFaults ++ [entry 1 false] }))) ∧
      (s.bikeFaults.length < 32 → severe →
        exec (.reportFault p tag fields) s = .next (WithReply 0x12#8 tag p .ok (reply n 1)
          (raise (.bikeQuarantined b) (enterRecord (.bikeQuarantined b) (enterRecord (.bikeFault b cat n)
            { s with bikeFaults := s.bikeFaults ++ [entry n true] }))))))

/-- BIKE_CLEAR: refused with STARTING while the station starts, with REFUSED_RANGE for a bike id of 0, with NOT_FOUND
where there is no entry; else the entry is removed, whether it is quarantined or not, and the reply carries the count
it held; no record and no notice (R136). -/
def Obligations.BikeClear : Prop :=
  ∀ (s : State) (p : Port) (tag : Byte) (fields : List Byte),
    let b := numAt fields 0 3
    (Free p s → p = .service → fields.length = 3 → s.station = .starting →
      exec (.bikeClear p tag fields) s = .next (Reads 0x45#8 tag p .starting [] s)) ∧
    (Taken 0x45#8 p fields s →
      (b = 0 → exec (.bikeClear p tag fields) s = .next (Reads 0x45#8 tag p .refusedRange [] s)) ∧
      (b ≠ 0 → findBikeFault b s = none →
        exec (.bikeClear p tag fields) s = .next (Reads 0x45#8 tag p .notFound [] s)) ∧
      (∀ f, findBikeFault b s = some f → b ≠ 0 →
        exec (.bikeClear p tag fields) s = .next (WithReply 0x45#8 tag p .ok [.num 1 f.count]
          { s with bikeFaults := s.bikeFaults.filter fun x => x.bike != b })))

/-- LEAK: every count above 0 and below its threshold falls by 1, an entry that falls to 0 unquarantined goes, and the
timer returns to 0; counts at or above the threshold stay (R127). That the row acts only on the mark of a tick that
brought the timer to its period, and else changes nothing, is the model's choice (assumption log 1). -/
def Obligations.LeakLowersCounts : Prop :=
  ∀ s : State,
    (s.due.leak = false → exec .leak s = .next s) ∧
    (s.due.leak = true → ∃ t, exec .leak s = .next t ∧
      t = { s with
        docks := t.docks, leakTimer := 0, due := { s.due with leak := false }
        bikeFaults := s.bikeFaults.filterMap fun f =>
          if 0 < f.count ∧ f.count < s.settings.bikeThreshold then
            (if f.count = 1 ∧ f.quarantined = false then none else some { f with count := f.count - 1 })
          else some f } ∧
      ∀ d, d < 64 → t.dock d =
        if d < s.installed ∧ 0 < (s.dock d).faultCount ∧ (s.dock d).faultCount < s.settings.dockThreshold then
          { s.dock d with faultCount := (s.dock d).faultCount - 1 } else s.dock d)

/-! ## Patrol, audits and battery sense -/

/-- PATROL_INTERVAL_EXPIRY makes one visit attempt at the cursor (R139): a dock in flight or with a command in hand is
passed over; else a STATUS is placed and the cursor goes on; with a full queue the cursor stays. From the last dock the
cursor returns to 0 and the cycle is counted (R140). PATROL_POSTSCALER_EXPIRY returns the postscaler to 0 and raises
PATROL_DONE with the cycle count (R140). That either row acts only on its mark, and else changes nothing, is the
model's choice (assumption log 1). Stated for a busy bus, so that the STATUS waits. -/
def Obligations.PatrolVisits : Prop :=
  ∀ s : State,
    let d := s.patrol.cursor
    let inFlight := (s.dock d).state = .latching ∨ (s.dock d).state = .claimed ∨ (s.dock d).state = .releasing ∨
      (s.dock d).state = .ejecting
    let zero : Patrol := { s.patrol with interval := 0 }
    let advanced := if d + 1 < s.installed then
        { s with patrol := { zero with cursor := d + 1 }, due := { s.due with patrol := false } }
      else { s with
        patrol := { zero with cursor := 0, cycles := (s.patrol.cycles + 1) % 65536, postscaler := s.patrol.postscaler + 1 }
        due := { s.due with
          patrol := false, postscaler := decide (s.settings.patrolPostscaler ≤ s.patrol.postscaler + 1) } }
    (s.due.patrol = true → s.settings.patrolEnable = 1 → s.station = .ready → s.audit.kind = .idle →
      (inFlight ∨ ¬ HandsFree d s → exec .patrolIntervalExpiry s = .next advanced) ∧
      (¬ inFlight → HandsFree d s → s.bus.inFlight.isSome → s.bus.queue.length < 16 →
        exec .patrolIntervalExpiry s = .next { advanced with
          bus := { s.bus with queue := s.bus.queue ++ [auditStatus d] } }) ∧
      (¬ inFlight → HandsFree d s → 16 ≤ s.bus.queue.length → exec .patrolIntervalExpiry s = .next { s with
        patrol := zero, due := { s.due with patrol := false } })) ∧
    (s.due.postscaler = true → exec .patrolPostscalerExpiry s = .next (raise (.patrolDone s.patrol.cycles) { s with
      patrol := { s.patrol with postscaler := 0 }, due := { s.due with postscaler := false } })) ∧
    (s.due.patrol = false → exec .patrolIntervalExpiry s = .next s) ∧
    (s.due.postscaler = false → exec .patrolPostscalerExpiry s = .next s)

/-- STATUS_IS for a patrol visit, compared with the dock record (R141, R142): a HELD dock whose bike is reported
changes nothing; a HELD dock reported empty is VACANT, journaled missing, with an AUDIT_MISMATCH report; a HELD dock
found with its lock open has a LOCK placed for it. Stated below the threshold, with no batch open, at docks that need
no battery sense. The other rows of R141. A VACANT or RESERVED dock reported empty is left alone; a bike found there is
journaled in AUDIT_MISMATCH, handled as an arrival (R54, R56, R57, R59) with its reservation moved on first (R111), and
reported. A HELD or CLAIMED dock with another bike takes its record (R55), a CLAIMED one with its authorization refused
first; a CLAIMED dock reported empty loses authorization and bike. At a RETIRED dock the stranded bike is cleared,
recorded or replaced, an OUT or OVERDUE hire of it closed, and nothing reported. Stated for a bike that no other dock
records and that, but at a RETIRED dock, has no hire; below the threshold; with no batch but at a RESERVED dock, whose
batch does not want the bike. -/
def Obligations.StatusCompared : Prop :=
  (∀ (s : State) (dock : Byte) (tag : BitVec 24) (flags : Byte) (n : Nat) (b : Bike) (i : Nat),
     let d := dock.toNat
     let count := (s.dock d).faultCount + 1
     d < 64 → s.bus.inFlight = some { what := .command (auditStatus d), ticks := some n } → d ∉ s.audit.outstanding →
     (s.dock d).state = .held → (s.dock d).bike = some b → b.id = some i → (effective d s).cls ≠ .charging →
     (flags.getLsbD 0 = true → flags.getLsbD 2 = true → (tag.toNat = 0 ∨ tag.toNat = i) →
       ∃ t, exec (.statusIs dock tag flags) s = .next t ∧ BusOnly s t) ∧
     (flags.getLsbD 0 = true → flags.getLsbD 2 = false → (tag.toNat = 0 ∨ tag.toNat = i) → HandsFree d { s with
         bus := { s.bus with inFlight := none } } →
       ∃ t, exec (.statusIs dock tag flags) s = .next t ∧ BusOnly s t ∧
         (Placed { kind := .lock, dock := d, owner := .patrol, live := true } t ∨
           (t.dock d).owed = some { kind := .lock, owner := .patrol, live := true })) ∧
     (flags.getLsbD 0 = false → (s.dock d).retirePending = false → s.batch = none →
       s.settings.categoryMask.testBit 3 = false → count < s.settings.dockThreshold → count ≤ 15 →
       ∃ t, exec (.statusIs dock tag flags) s = .next t ∧
         BusOnly (enterRecord (.dockFault d .auditMismatch count)
           (enterRecord (.bikeMissing i d) (setDock d { vacantRecord (s.dock d) with faultCount := count } s))) t)) ∧
  (∀ (s : State) (dock : Byte) (tag : BitVec 24) (flags : Byte) (n : Nat),
     let d := dock.toNat
     let T := tag.toNat
     let k := s.dock d
     let count := k.faultCount + 1
     let X := k.bike.bind Bike.id
     let found : Option Nat := if T = 0 then none else some T
     let bike := arrivedBike found (if T = 0 then .standard else if flags.getLsbD 1 then .electric else .standard) s.clock.minute
     let after (t : State) : Prop := ∃ u, exec (.statusIs dock tag flags) s = .next u ∧ BusOnly t u
     let freeHands := HandsFree d { s with bus := { s.bus with inFlight := none } }
     let unknown := T = 0 ∨ ((∀ e, e < s.installed → e ≠ d → (s.dock e).bike.bind Bike.id ≠ some T) ∧ openHireOf T s = none)
     let mayReserve (e : Nat) : Prop := e < s.installed ∧ (s.dock e).state = .vacant ∧
       ((effective e s).cls = .vanOnly ∨ returnAllowed e s = true)
     let reported := k.retirePending = false ∧ s.settings.categoryMask.testBit 3 = false ∧
       count < s.settings.dockThreshold ∧ count ≤ 15
     d < 64 → s.bus.inFlight = some { what := .command (auditStatus d), ticks := some n } → d ∉ s.audit.outstanding →
     (k.state = .vacant ∨ k.state = .reserved → flags.getLsbD 0 = false → after s) ∧
     (∀ moved : State, flags.getLsbD 0 = true → reported → unknown → s.installed ≤ 64 →
       (k.state = .vacant ∧ s.batch = none ∧ moved = s) ∨
         (k.state = .reserved ∧ (∃ b, s.batch = some b ∧ b.kind = .deliver ∧ ∀ m ∈ b.manifest, m.bike = T → m.done = true) ∧
           (((∀ e, ¬ mayReserve e) ∧ moved = s) ∨ (∃ e, mayReserve e ∧ (∀ x, mayReserve x → e ≤ x) ∧
             moved = setDock e { s.dock e with state := .reserved, reserved := true } s))) →
       let vacant := { vacantRecord k with faultCount := count }
       let journaled (r : Dock) : State := enterRecord (.auditMismatch d none found) (setDock d r moved)
       (returnAllowed d s = false → freeHands →
         ∃ u, exec (.statusIs dock tag flags) s = .next u ∧ OwnStands .reject d u ∧
           BusOnly (enterRecord (.dockFault d .auditMismatch count) (raise (.returnRefused d)
             (journaled { vacant with state := .ejecting, phase := some .rejecting }))) u) ∧
       (returnAllowed d s = true → T ≠ 0 →
         after (enterRecord (.dockFault d .auditMismatch count) (raise (.returnDone d 0 0)
           (enterRecord (.returnForeign T d) (journaled { vacant with state := .held, bike := some bike }))))) ∧
       (returnAllowed d s = true → T = 0 → freeHands → s.bus.queue.length < 16 →
         ∃ u, exec (.statusIs dock tag flags) s = .next u ∧
           Placed { kind := .status, dock := d, owner := .release, live := true } u ∧
           BusOnly (enterRecord (.dockFault d .auditMismatch count)
             (journaled { vacant with state := .latching, bike := some bike, identRetries := 1 })) u)) ∧
     (k.state = .held → flags.getLsbD 0 = true → T ≠ 0 → X ≠ some T → reported → unknown → s.batch = none →
       after (enterRecord (.dockFault d .auditMismatch count) (enterRecord (.auditMismatch d X found)
         (setDock d { k with bike := some bike, vanHold := false, faultCount := count } s)))) ∧
     (k.state = .claimed → flags.getLsbD 0 = true → T = 0 ∨ X = some T → after s) ∧
     (∀ e : AuthEntry, k.state = .claimed → authAt d s = some e → reported → s.batch = none →
       let refused (r : Dock) : State := raise (.authDone e.tag .dockNotReady)
         { setDock d { r with faultCount := count } s with authQueue := s.authQueue.filter fun x => x.tag != e.tag }
       (flags.getLsbD 0 = false → after (enterRecord (.dockFault d .auditMismatch count)
         (enterRecord (.bikeMissing (X.getD 0) d) (refused (vacantRecord k))))) ∧
       (flags.getLsbD 0 = true → T ≠ 0 → X ≠ some T → unknown → after (enterRecord (.dockFault d .auditMismatch count)
         (enterRecord (.auditMismatch d X found) (refused { heldRecord k with bike := some bike, vanHold := false }))))) ∧
     (k.state = .retired → flags.getLsbD 0 = false → k.bike = none → after s) ∧
     (∀ b, k.state = .retired → k.bike = some b →
       (flags.getLsbD 0 = false → after (enterRecord (.bikeMissing (b.id.getD 0) d) (setDock d { k with bike := none } s))) ∧
       (flags.getLsbD 0 = true → T = 0 ∨ X = some T → after s)) ∧
     (k.state = .retired → flags.getLsbD 0 = true → k.bike = none ∨ (T ≠ 0 ∧ X ≠ some T) →
       let stranded := enterRecord (.auditMismatch d X found) (setDock d { k with bike := some bike } s)
       (unknown → after stranded) ∧
       (∀ r c, T ≠ 0 → (∀ e, e < s.installed → e ≠ d → (s.dock e).bike.bind Bike.id ≠ some T) →
         openHireOf T s = some r → findCard r.card s = some c →
         let D := s.clock.minute - r.start.getD s.clock.minute
         let F := charge r.terms r.kind D
         (F : Int) ≤ c.balance →
         after (enterRecord (.hireClose r.number r.card T (.dock d) D F (c.balance - F)) { stranded with
           hires := s.hires.filter fun x => x.number != r.number
           cards := s.cards.map fun x => if x.id = r.card then
             { x with held := x.held - r.holdAmount, balance := max (x.balance - F) (-99999)
                      openCount := x.openCount - 1, lastUse := s.clock.minute } else x }))))

/-- FULL_AUDIT in a READY station whose docks are all settled with nothing in hand, on a busy bus: the reply is OK, and
the first pass places a STATUS at the first 16 docks (R144, R145); a full audit that runs refuses another with
BUS_BUSY. AUDIT_PASS places the STATUS of a dock that is to do while the queue has room, and stops at a full queue
(R145); an audit with nothing to do or outstanding ends, the start-up audit with the station READY and START_DONE, a
full one with AUDIT_DONE at the asking port, and the patrol interval starts at 0 where patrol is enabled (R146, R147,
R185). The start-up audit's last STATUS, at an UNVERIFIED dock that is reported empty: the dock is VACANT and the
station READY, with START_DONE (R147, R148, R185). Stated for a dock that no STARTING hire names, with no batch open,
no retirement pending and a count below the threshold. INSERTED and REMOVED at an UNVERIFIED dock resolve it (R148,
R149): VACANT, or HELD with the bike, identified or not, and the dock leaves the audit's to-do set. Stated for a
STANDARD bike that no other dock records and that has no hire, for a dock that no STARTING hire names, with other docks
to do, no batch open, no retirement pending and a count below the threshold. -/
def Obligations.Audits : Prop :=
  (∀ (s : State) (p : Port) (tag : Byte) (fields : List Byte), Taken 0x37#8 p fields s →
     (∀ q, s.audit.kind = .full q → exec (.fullAudit p tag fields) s = .next (Reads 0x37#8 tag p .busBusy [] s)) ∧
     ((∀ q, s.audit.kind ≠ .full q) → s.pinLow = false → 0 < s.installed →
       (∃ n, s.bus.inFlight = some { what := .poll, ticks := n }) →
       s.bus.queue = [] → (∀ d, d < s.installed → (s.dock d).owed = none ∧ ((s.dock d).state = .vacant ∨
         (s.dock d).state = .reserved ∨ (s.dock d).state = .held ∨ (s.dock d).state = .retired)) →
       exec (.fullAudit p tag fields) s = .next (WithReply 0x37#8 tag p .ok [] { s with
         bus := { s.bus with queue := (List.range (min 16 s.installed)).map auditStatus }
         audit := { kind := .full p, toDo := (List.range s.installed).drop 16
                    outstanding := List.range (min 16 s.installed), mismatches := 0, counted := [] } }))) ∧
  (∀ s : State, s.due.auditPass = true →
     let due := { s.due with auditPass := false }
     let ended (n : Notice) (station : StationState) : State := raise n { s with
       station := station, audit := { s.audit with kind := .idle }
       patrol := if s.settings.patrolEnable = 1 then { s.patrol with interval := 0 } else s.patrol
       due := if s.settings.patrolEnable = 1 then { due with patrol := false } else due }
     (∀ (d : Nat) (rest : List Nat), s.audit.kind = .startUp → s.pinLow = false → s.audit.toDo = d :: rest →
       s.audit.outstanding = [] → HandsFree d s → s.bus.inFlight.isSome →
       (s.bus.queue.length = 15 → exec .auditPass s = .next { s with
         due := due, bus := { s.bus with queue := s.bus.queue ++ [auditStatus d] }
         audit := { s.audit with toDo := rest, outstanding := [d] } }) ∧
       (16 ≤ s.bus.queue.length → exec .auditPass s = .next { s with due := due })) ∧
     (s.audit.toDo = [] → s.audit.outstanding = [] →
       (s.audit.kind = .startUp → exec .auditPass s = .next (ended .startDone .ready)) ∧
       (s.audit.kind = .full .uplink → exec .auditPass s = .next (ended (.uplinkAuditDone s.audit.mismatches) s.station)) ∧
       (s.audit.kind = .full .service → exec .auditPass s = .next (ended (.serviceAuditDone s.audit.mismatches) s.station)))) ∧
  (∀ (s : State) (dock : Byte) (tag : BitVec 24) (flags : Byte) (n : Nat),
     let d := dock.toNat
     let enabled := s.settings.patrolEnable = 1
     d < 64 → s.pinLow = false → s.bus.inFlight = some { what := .command (auditStatus d), ticks := some n } →
     s.audit.kind = .startUp → s.audit.toDo = [] → s.audit.outstanding = [d] → (s.dock d).state = .unverified →
     flags.getLsbD 0 = false → (∀ r ∈ s.hires, r.state = .starting → r.dockFrom ≠ some d) → s.batch = none →
     (s.dock d).retirePending = false → (s.dock d).faultCount < s.settings.dockThreshold →
     ∃ t, exec (.statusIs dock tag flags) s = .next t ∧
       BusOnly (raise .startDone { setDock d (vacantRecord (s.dock d)) s with
         station := .ready
         audit := { s.audit with kind := .idle, outstanding := [] }
         patrol := if enabled then { s.patrol with interval := 0 } else s.patrol
         due := if enabled then { s.due with patrol := false } else s.due }) t) ∧
  (∀ (s : State) (dock : Byte) (low : Bool),
     let d := dock.toNat
     let resolved (k : Dock) : State := { setDock d k s with audit := { s.audit with toDo := s.audit.toDo.erase d } }
     pollInFlight s = true → d < s.installed → d < 64 → (s.dock d).state = .unverified →
     (s.dock d).retirePending = false → s.batch = none → (∀ r ∈ s.hires, r.state = .starting → r.dockFrom ≠ some d) →
     (s.dock d).faultCount < s.settings.dockThreshold → s.audit.toDo.erase d ≠ [] →
     (∃ t, exec (.removed dock low) s = .next t ∧ BusOnly (resolved (vacantRecord (s.dock d))) t) ∧
     (∀ (tag : BitVec 24) (kind : Byte), kind ≠ 1#8 →
       tag.toNat = 0 ∨ ((∀ e, e < s.installed → e ≠ d → (s.dock e).bike.bind Bike.id ≠ some tag.toNat) ∧
         openHireOf tag.toNat s = none) →
       ∃ t, exec (.inserted dock tag kind low) s = .next t ∧ BusOnly (resolved { vacantRecord (s.dock d) with
         state := .held
         bike := some (arrivedBike (if tag.toNat = 0 then none else some tag.toNat) .standard s.clock.minute) }) t))

/-- Battery sense (R151): SENSE_STARTED starts the sense timer of an ELECTRIC bike at 0; SENSE_DONE stores the level,
taken as 100 above 100, with the current minute, and reports BATTERY_POOR against an identified bike below the battery
floor; SENSE_TIMER_EXPIRY at the 11th tick ends the sense with no level, and earlier does nothing. -/
def Obligations.BatterySense : Prop :=
  ∀ (s : State) (dock : Byte) (b : Bike),
    let d := dock.toNat
    d < 64 → (s.dock d).bike = some b →
    (∀ n, s.bus.inFlight =
        some { what := .command { kind := .senseStart, dock := d, owner := .patrol, live := true }, ticks := some n } →
      b.kind = .electric → b.sense = none →
      ∃ t, exec (.senseStarted dock) s = .next t ∧
        BusOnly (setDock d { s.dock d with bike := some { b with sense := some 0 } } s) t) ∧
    (∀ (level : Byte) (low : Bool) (m : Nat), b.sense = some m → pollInFlight s = true → d < s.installed →
      let stored := setDock d { s.dock d with bike := some { b with
        charge := some { level := min level.toNat 100, minute := s.clock.minute }, sense := none } } s
      ((b.id = none ∨ s.settings.batteryFloor ≤ min level.toNat 100) →
        ∃ t, exec (.senseDone dock level low) s = .next t ∧ BusOnly stored t) ∧
      (∀ i, b.id = some i → min level.toNat 100 < s.settings.batteryFloor →
        ∃ t, exec (.senseDone dock level low) s = .next t ∧ BusOnly (reportBike i .batteryPoor false stored) t)) ∧
    (∀ m, b.sense = some m →
      (11 ≤ m → exec (.senseTimerExpiry d) s =
        .next (setDock d { s.dock d with bike := some { b with sense := none } } s)) ∧
      (m < 11 → exec (.senseTimerExpiry d) s = .next s))

/-! ## The Station Journal -/

/-- A record handed to the journal (R154, R155, R159, R160): with room and no loss it is appended with the sequence
number, the station number and the minute, JOURNAL_DATA raised at a rise from 0, and the HELD mark set at the upper
watermark with JOURNAL_HIGH; at depth 256 it is lost and counted; after a loss an OVERRUN record fronts it. -/
def Obligations.JournalEntry : Prop :=
  ∀ (e : Entry) (s : State),
    let j := s.journal
    let record (n : Nat) (x : Entry) : Record :=
      { seq := n, station := s.settings.stationNumber, minute := s.clock.minute, entry := x }
    let next (n : Nat) : Nat := (n + 1) % 4294967296
    let depth := j.records.length
    (depth < 256 → j.overrun = false → enterRecord e s = { s with
        journal := { j with
          records := j.records ++ [record j.nextSeq e], nextSeq := next j.nextSeq
          held := if j.held then decide (s.settings.lowerWatermark < depth + 1)
            else decide (s.settings.upperWatermark ≤ depth + 1) }
        uplink := { s.uplink with pending :=
          let p := if depth = 0 then raiseIn (.journalData 1) s.uplink.pending else s.uplink.pending
          if j.held = false ∧ s.settings.upperWatermark ≤ depth + 1 then raiseIn (.journalHigh (depth + 1)) p else p } }) ∧
    (256 ≤ depth → enterRecord e s = { s with
      journal := { j with lost := min (j.lost + 1) 65535, overrun := true } }) ∧
    (depth = 255 → j.overrun = true → (enterRecord e s).journal.records = j.records ++ [record j.nextSeq (.overrun j.lost)] ∧
      (enterRecord e s).journal.lost = 1 ∧ (enterRecord e s).journal.overrun = true ∧
      (enterRecord e s).journal.nextSeq = next j.nextSeq) ∧
    (depth < 255 → j.overrun = true → (enterRecord e s).journal.records =
        j.records ++ [record j.nextSeq (.overrun j.lost), record (next j.nextSeq) e] ∧
      (enterRecord e s).journal.lost = 0 ∧ (enterRecord e s).journal.overrun = false ∧
      (enterRecord e s).journal.nextSeq = next (next j.nextSeq))

/-- JOURNAL_PEEK shows the oldest records as their 32 bytes and changes nothing (R157, R161); JOURNAL_RELEASE removes
the n oldest, clears the HELD mark at the lower watermark, or sets it at the upper, and answers with the depth and the
sequence number of the oldest record left or of the next one (R159, R162). That the reply shows each mark as one byte,
1 for set and 0 for clear, is the model's choice (assumption log 27). -/
def Obligations.JournalPeekAndRelease : Prop :=
  ∀ (s : State) (p : Port) (tag : Byte) (fields : List Byte),
    let j := s.journal
    (Taken 0x30#8 p fields s →
      let n := numAt fields 0 1
      (n = 0 ∨ 4 < n → exec (.journalPeek p tag fields) s = .next (Reads 0x30#8 tag p .refusedRange [] s)) ∧
      (1 ≤ n → n ≤ 4 → exec (.journalPeek p tag fields) s = .next (Reads 0x30#8 tag p .ok
        ([.num 1 (min n j.records.length), .num 2 j.records.length, .num 1 j.held.toNat, .num 1 j.overrun.toNat,
          .num 2 j.lost, .num 4 j.nextSeq] ++ (j.records.take n).map fun r => .area r.bytes) s))) ∧
    (Taken 0x31#8 p fields s →
      let n := numAt fields 0 2
      (n = 0 ∨ j.records.length < n →
        exec (.journalRelease p tag fields) s = .next (Reads 0x31#8 tag p .refusedRange [] s)) ∧
      (1 ≤ n → n ≤ j.records.length →
        let left := j.records.drop n
        let high := j.held = false ∧ s.settings.upperWatermark ≤ left.length
        exec (.journalRelease p tag fields) s = .next (WithReply 0x31#8 tag p .ok
          [.num 2 left.length, .num 4 (match left with | r :: _ => r.seq | [] => j.nextSeq)]
          { s with
            journal := { j with
              records := left
              held := if j.held then decide (s.settings.lowerWatermark < left.length)
                else decide (s.settings.upperWatermark ≤ left.length) }
            uplink := if high then { s.uplink with pending := raiseIn (.journalHigh left.length) s.uplink.pending }
              else s.uplink })))

/-- The settings keep their ranges, with the lower watermark below the upper and 8 to 64 docks installed, and the
journal keeps at most 256 records whose sequence numbers rise by one up to the counter, a full journal HELD, at every
step from every state of which this holds (R1, R153, R155, R159, R160, R180, R181). -/
def Obligations.JournalAndSettingsLawKept : Prop :=
  let good (s : State) : Prop := settingsLaw s = true ∧ journalLaw s.journal = true
  good State.reset ∧ ∀ s t : State, good s → step s = .next t → good t

/-! ## Notices -/

/-- TAKE_NOTICE and PEEK_NOTICE choose the pending notice of the numerically lowest priority within the mask level,
among equals the one that entered the list first (R175): its code, its parameter and the number still pending within
the mask; TAKE moves its kind in service, PEEK changes nothing; with none within the mask both answer NONE. Stated for
a list that holds each kind once (R173). That PEEK's count takes in the notice shown is the model's reading (assumption
log 24). -/
def Obligations.TakeAndPeekNotice : Prop :=
  ∀ (s : State) (p : Port) (tag : Byte) (fields : List Byte),
    let x := s.port p
    let within (l : List Notice) : Nat := (l.filter fun m => m.kind.priority ≤ x.mask).length
    let none_ := ∀ m ∈ x.pending, x.mask < m.kind.priority
    let nothing : List ReplyField := [.num 1 0, .area (List.replicate 8 0#8), .num 1 0]
    (none_ →
      (Taken 0x01#8 p fields s → exec (.takeNotice p tag fields) s = .next (Reads 0x01#8 tag p .ok nothing s)) ∧
      (Taken 0x02#8 p fields s → exec (.peekNotice p tag fields) s = .next (Reads 0x02#8 tag p .ok nothing s))) ∧
    (∀ (before : List Notice) (n : Notice) (after : List Notice), x.pending = before ++ n :: after →
      n.kind.priority ≤ x.mask → (x.pending.map Notice.kind).Nodup →
      (∀ m ∈ before, n.kind.priority < m.kind.priority) → (∀ m ∈ after, n.kind.priority ≤ m.kind.priority) →
      (Taken 0x01#8 p fields s → exec (.takeNotice p tag fields) s = .next (WithReply 0x01#8 tag p .ok
        [.num 1 n.kind.code, .area n.parameter, .num 1 (within (before ++ after))]
        (setPort p { x with
          pending := before ++ after
          inService := if n.kind ∈ x.inService then x.inService else x.inService ++ [n.kind] } s))) ∧
      (Taken 0x02#8 p fields s → exec (.peekNotice p tag fields) s = .next (Reads 0x02#8 tag p .ok
        [.num 1 n.kind.code, .area n.parameter, .num 1 (within x.pending)] s)))

/-- END_NOTICE: a code that is none of the port's is refused with REFUSED_RANGE; a kind in service is removed and its
code answered; a kind that is not is NOT_FOUND, even while it is pending; ANY removes the kind in service of the
numerically lowest priority, among equals the one taken most recently; the pending list is untouched (R176).
SET_NOTICE_MASK: a level above 7 is refused and the mask unchanged; else the mask level becomes it and the reply
carries the level before; a notice is pending whatever the mask, and ATTN follows the lists and the mask at once (R174,
R177). -/
def Obligations.NoticeEndAndMask : Prop :=
  (∀ (s : State) (p : Port) (tag : Byte) (fields : List Byte), Taken 0x03#8 p fields s →
     let x := s.port p
     let code := numAt fields 0 1
     let done (k : NoticeKind) (left : List NoticeKind) : Prop := exec (.endNotice p tag fields) s =
       .next (WithReply 0x03#8 tag p .ok [.num 1 k.code] (setPort p { x with inService := left } s))
     (code ≠ 255 → (∀ k : NoticeKind, k.port = p → k.code ≠ code) →
       exec (.endNotice p tag fields) s = .next (Reads 0x03#8 tag p .refusedRange [] s)) ∧
     (∀ k : NoticeKind, k.port = p → k.code = code → k ∉ x.inService →
       exec (.endNotice p tag fields) s = .next (Reads 0x03#8 tag p .notFound [] s)) ∧
     (∀ (before : List NoticeKind) (k : NoticeKind) (after : List NoticeKind), x.inService = before ++ k :: after →
       k.port = p → k.code = code → k ∉ before → done k (before ++ after)) ∧
     (code = 255 → x.inService = [] →
       exec (.endNotice p tag fields) s = .next (Reads 0x03#8 tag p .notFound [] s)) ∧
     (∀ (before : List NoticeKind) (k : NoticeKind) (after : List NoticeKind), x.inService = before ++ k :: after →
       code = 255 → k ∉ before →
       (∀ m ∈ before, k.priority ≤ m.priority) → (∀ m ∈ after, k.priority < m.priority) → done k (before ++ after))) ∧
  (∀ (s : State) (p : Port) (tag : Byte) (fields : List Byte), Taken 0x04#8 p fields s →
     let x := s.port p
     let level := numAt fields 0 1
     (7 < level → exec (.setNoticeMask p tag fields) s = .next (Reads 0x04#8 tag p .refusedRange [] s)) ∧
     (level ≤ 7 → ∃ t, exec (.setNoticeMask p tag fields) s = .next t ∧
       t = WithReply 0x04#8 tag p .ok [.num 1 x.mask] (setPort p { x with mask := level } s) ∧
       (attn p t = true ↔ ∃ n ∈ x.pending, n.kind.priority ≤ level ∧ ∀ k ∈ x.inService, n.kind.priority < k.priority)))

/-- A notice controller holds each kind of its port pending at most once and in service at most once, with a mask level
of 0 to 7, at every step from every state of which this holds (R173, R175). -/
def Obligations.NoticesLawKept : Prop :=
  noticesLaw State.reset = true ∧ ∀ s t : State, noticesLaw s = true → step s = .next t → noticesLaw t = true

/-! ## The configuration and the ports -/

/-- CONFIG_SET with one setting (R180, R181): a count other than 1 to 8, a field or value out of range, and a station
number already set are refused with their position and field; a setting other than patrol enable and the watermarks is
written and nothing else changes; turning patrol off stops it at cursor 0, with the counts at 0 (R138); a lower
watermark not below the upper is refused. A PATROL_DONE that a tick has already brought due is ruled out by a premise
(assumption log 1). CONFIG_READ answers the nineteen settings, N, the station state and the clock, and changes nothing
(R182). That N is sent in four bytes is the model's reading (assumption log 19). -/
def Obligations.Configuration : Prop :=
  (∀ (s : State) (p : Port) (tag : Byte) (fields : List Byte), Taken 0x34#8 p fields s →
     let count := numAt fields 0 1
     let field := numAt fields 1 1
     let v := numAt fields 2 4
     let inRange := ∃ low high, settingRange field = some (low, high) ∧ low ≤ v ∧ v ≤ high
     let written := { s with settings := s.settings.write field v }
     let no (r : Result) (i f : Nat) : Prop :=
       exec (.configSet p tag fields) s = .next (Reads 0x34#8 tag p r [.num 1 i, .num 1 f] s)
     let done (u : State) : Prop :=
       exec (.configSet p tag fields) s = .next (WithReply 0x34#8 tag p .ok [.num 1 1] u)
     (count = 0 ∨ 8 < count → no .refusedRange 0 0) ∧
     (count = 1 → ¬ inRange → no .refusedRange 1 field) ∧
     (count = 1 → inRange → s.settings.lowerWatermark < s.settings.upperWatermark →
       (field = 19 → s.settings.stationNumber ≠ 0 → no .refusedFixed 1 19) ∧
       (field ≠ 10 → field ≠ 16 → field ≠ 17 → (field = 19 → s.settings.stationNumber = 0) → done written) ∧
       (field = 10 → s.settings.patrolEnable = v → done written) ∧
       (field = 10 → s.settings.patrolEnable = 1 → v = 0 → s.due.postscaler = false → done { written with
         patrol := { s.patrol with cursor := 0, cycles := 0, postscaler := 0 }, due := { s.due with patrol := false } }) ∧
       (field = 10 → s.settings.patrolEnable = 0 → v = 1 → done { written with
         patrol := { s.patrol with interval := 0 }, due := { s.due with patrol := false } }) ∧
       (field = 17 → s.settings.upperWatermark ≤ v → no .refusedRange 1 17) ∧
       (field = 16 → v ≤ s.settings.lowerWatermark → no .refusedRange 1 16) ∧
       (field = 16 → s.settings.lowerWatermark < v → s.journal.held = false → v ≤ s.journal.records.length →
         done (raise (.journalHigh s.journal.records.length) { written with journal := { s.journal with held := true } })) ∧
       (field = 16 → s.settings.lowerWatermark < v → s.journal.held = false → s.journal.records.length < v → done written))) ∧
  (∀ (s : State) (p : Port) (tag : Byte) (fields : List Byte), Taken 0x09#8 p fields s →
     let c := s.settings
     exec (.configRead p tag fields) s = .next (Reads 0x09#8 tag p .ok
       [.num 4 c.docksNext, .num 4 c.releaseWindow, .num 4 c.authTimeout, .num 4 c.batchIdle, .num 4 c.minKeep,
        .num 4 c.dockThreshold, .num 4 c.bikeThreshold, .num 4 c.leakPeriod, .num 4 c.categoryMask, .num 4 c.patrolEnable,
        .num 4 c.patrolInterval, .num 4 c.patrolPostscaler, .num 4 c.senseAge, .num 4 c.minCharge, .num 4 c.batteryFloor,
        .num 4 c.upperWatermark, .num 4 c.lowerWatermark, .num 4 c.attributeEnable, .num 4 c.stationNumber,
        .num 4 s.installed, .num 1 (if s.station = .ready then 1 else 0), .num 4 s.clock.minute, .num 1 s.clock.second] s))

/-- What discards a partial frame (R166): an inter-byte timeout, a framing error, a length out of range, and a whole
frame whose check is wrong, after which the search goes on at the byte after its start byte; nothing but the port's
partial frame changes, unless that search completes a frame, which then goes on to R168 like a frame of its own. That
this frame is taken within REQUEST_FRAME_BAD_CHECK, with no event between, is the model's choice (assumption log 21). A
port that the RESET pin or a BREAK keeps from receiving takes none of them. PORT_RESET puts a port at its power-on
state with its line held at spacing, once for a BREAK; LINE_RETURNS_TO_MARKING lets it receive afresh (R167, R172). -/
def Obligations.PortLine : Prop :=
  (∀ (s : State) (p : Port) (length : Byte) (bytes : List Byte),
     let emptied := .next (setPort p { s.port p with partialFrame := [] } s)
     (s.pinLow = false → (s.port p).atSpacing = false →
       exec (.interByteTimeout p) s = emptied ∧ exec (.framingError p) s = emptied ∧
       (length.toNat < 2 ∨ 250 < length.toNat → exec (.frameAttemptEnded p length) s = emptied) ∧
       (frameComplete (length :: bytes) = true → frameChecks (length :: bytes) = false → 0x7E#8 ∉ length :: bytes →
         exec (.requestFrameBadCheck p (length :: bytes)) s = emptied) ∧
       (∀ inner : List Byte, frameComplete (length :: (bytes ++ 0x7E#8 :: inner)) = true →
         frameChecks (length :: (bytes ++ 0x7E#8 :: inner)) = false → 0x7E#8 ∉ length :: bytes →
         (∃ n more, inner = n :: more ∧ 2 ≤ n.toNat ∧ n.toNat ≤ 250 ∧ more.length < n.toNat + 2) →
         exec (.requestFrameBadCheck p (length :: (bytes ++ 0x7E#8 :: inner))) s =
           .next (setPort p { s.port p with partialFrame := 0x7E#8 :: inner } s)) ∧
       (∀ (code tag : Byte) (fields : List Byte) (t : State), fields.length ≤ 248 → 0x7E#8 ∉ length :: bytes →
         frameComplete (length :: (bytes ++ requestBytes code tag fields)) = true →
         frameChecks (length :: (bytes ++ requestBytes code tag fields)) = false →
         exec (.requestFrameWaiting p code tag fields) s = .next t → (t.port p).partialFrame = [] →
         exec (.requestFrameBadCheck p (length :: (bytes ++ requestBytes code tag fields))) s = .next t)) ∧
     (s.pinLow = true ∨ (s.port p).atSpacing = true →
       exec (.interByteTimeout p) s = .next s ∧ exec (.framingError p) s = .next s ∧
       exec (.frameAttemptEnded p length) s = .next s ∧ exec (.requestFrameBadCheck p bytes) s = .next s)) ∧
  (∀ (s : State) (p : Port),
     ((s.port p).atSpacing = false → exec (.portReset p) s = .next (setPort p {
       partialFrame := [], waiting := none, reply := none, pending := [], inService := [], mask := 7
       atSpacing := true } s)) ∧
     ((s.port p).atSpacing = true → exec (.portReset p) s = .next s ∧
       exec (.lineReturnsToMarking p) s = .next (setPort p { s.port p with atSpacing := false, partialFrame := [] } s)))

/-- Taking requests one at a time (R168, R169): a frame that completes while a reply is sent waits, and with one
waiting a further one is discarded; REPLY_SENT ends the reply and takes the waiting frame, which is refused by the
checks of R169, or has the effect that its request has when it arrives at a port with nothing in transmission (stated
for a port that stands in no partial frame); an unknown code is answered UNKNOWN_REQUEST under its code + 0x80, or 0xFF
from a code of 0x80 or above; the checks of R169 refuse in their order. That REQUEST_FRAME_WAITING with a known code is
that request's command is the model's reading (assumption log 22). That REPLY_SENT with no reply in transmission
changes nothing is the model's reading (assumption log 4), and that a frame brought by a row leaves no partial frame is
its choice (assumption log 2). -/
def Obligations.FramesTakenInTurn : Prop :=
  ∀ (s : State) (p : Port) (code tag : Byte) (fields : List Byte),
    let x := s.port p
    let answered (c t : Byte) (r : Result) : Reply :=
      { code := if c.toNat < 128 then c + 0x80#8 else 0xFF#8, tag := t, result := r, fields := [] }
    (deaf p s = false →
      (x.waiting.isSome → exec (.requestFrameWaiting p code tag fields) s =
        .next (setPort p { x with partialFrame := [] } s)) ∧
      (x.waiting = none → x.reply.isSome → exec (.requestFrameWaiting p code tag fields) s =
        .next (setPort p { x with
          partialFrame := [], waiting := some { code := code, tag := tag, fields := fields } } s)) ∧
      (x.waiting = none → x.reply = none → requestRow code = none → exec (.unknownRequest p code tag fields) s =
        .next (setPort p { x with partialFrame := [], reply := some (answered code tag .unknownRequest) } s))) ∧
    (x.reply.isSome →
      (x.waiting = none → exec (.replySent p) s = .next (setPort p { x with reply := none } s)) ∧
      (∀ (f : Frame) (r : Result), x.waiting = some f → portChecks f.code p f.fields s.station = some r →
        exec (.replySent p) s =
          .next (setPort p { x with waiting := none, reply := some (answered f.code f.tag r) } s)) ∧
      (∀ request ∈ requestCommands, deaf p s = false → x.partialFrame = [] →
        x.waiting = some { code := request.1, tag := tag, fields := fields } →
        exec (.replySent p) s = exec (request.2 p tag fields) (setPort p { x with reply := none, waiting := none } s))) ∧
    (∀ request ∈ requestCommands, exec (.requestFrameWaiting p request.1 tag fields) s = exec (request.2 p tag fields) s) ∧
    (requestRow code).isSome = requestCommands.any (fun request => request.1 == code) ∧
    (x.reply = none → exec (.replySent p) s = .next s) ∧
    (requestRow code = none → portChecks code p fields s.station = some .unknownRequest) ∧
    (∀ row, requestRow code = some row → row.takenOn p = false → portChecks code p fields s.station = some .notHere) ∧
    (∀ row, requestRow code = some row → row.takenOn p = true → row.size.agrees fields = false →
      portChecks code p fields s.station = some .badLength) ∧
    (∀ row, requestRow code = some row → row.takenOn p = true → row.size.agrees fields = true → row.starting = false →
      s.station = .starting → portChecks code p fields s.station = some .starting)

/-- The bytes of a request frame are a complete frame whose check agrees, for every code, tag and field area that the
length byte can give, and a number read back from its bytes is the number (R165, R166). Every reply frame of a dock
unit reads back as its dock number, kind and fields, the two worked examples of R20 among them. A journal record is 32
bytes, from which its sequence number, station number, minute and kind code read back at the places of R157, and the
settlement word of a HIRE_CLOSE holds the place marker, the charge, the balance after and the duration in their places
(R157, R158). -/
def Obligations.BytesReadBack : Prop :=
  ((∀ (code tag : Byte) (fields : List Byte), fields.length ≤ 248 →
     ∃ length more, requestBytes code tag fields = 0x7E#8 :: length :: more ∧ length.toNat = fields.length + 2 ∧
       frameComplete (length :: more) = true ∧ frameChecks (length :: more) = true ∧
       more.take length.toNat = code :: tag :: fields ∧ more.length = length.toNat + 2) ∧
   (∀ (width v : Nat) (rest : List Byte), v < 256 ^ width → numAt (beBytes width v ++ rest) 0 width = v) ∧
   (∀ (dock : Byte) (r : DockReply), readReply (replyBytes dock r) = some (dock, r)) ∧
   (∀ owner live, (OnBus.command { kind := .lock, dock := 5, owner := owner, live := live }).bytes =
     [0xA5#8, 0x05#8, 0x02#8, 0x07#8]) ∧
   replyBytes 0x05#8 (.lockedWith 0x009CB5#24 0#8) = [0xA5#8, 0x05#8, 0x82#8, 0x00#8, 0x9C#8, 0xB5#8, 0x00#8, 0xD8#8]) ∧
  ((∀ r : Record, r.seq < 4294967296 → r.station < 65536 → r.minute < 4294967296 →
     r.bytes.length = 32 ∧ numAt r.bytes 0 4 = r.seq ∧ numAt r.bytes 4 2 = r.station ∧ numAt r.bytes 6 4 = r.minute ∧
       numAt r.bytes 10 1 = r.entry.code) ∧
   (∀ (r : Record) (h c b duration F : Nat) (place : Place) (balance : Int),
     r.entry = .hireClose h c b place duration F balance → F ≤ 999999 → -99999 ≤ balance → balance ≤ 999999 →
     let w := numAt r.bytes 25 7
     w / 2 ^ 55 = (match place with | .dock _ => 0 | .remote _ => 1) ∧ w / 2 ^ 35 % 2 ^ 20 = F ∧
       ((w / 2 ^ 14 % 2 ^ 21 : Nat) : Int) = (if 0 ≤ balance then balance else balance + 2 ^ 21) ∧
       w % 2 ^ 14 = min duration 16383))

end Statements
end

