-- ==== Sys2Proof/Laws/State.lean ====
section
/-! SUPPORT. One lemma per field of State per update of State, true by rfl, and what reading a dock record or a port
gives after an update of it. -/

namespace Sys2Proof.Machine

/-! ## setDock -/

@[simp] theorem setDock_pending (d : Nat) (k : Dock) (s : State) : (setDock d k s).pending = s.pending := rfl
@[simp] theorem setDock_clock (d : Nat) (k : Dock) (s : State) : (setDock d k s).clock = s.clock := rfl
@[simp] theorem setDock_due (d : Nat) (k : Dock) (s : State) : (setDock d k s).due = s.due := rfl
@[simp] theorem setDock_station (d : Nat) (k : Dock) (s : State) : (setDock d k s).station = s.station := rfl
@[simp] theorem setDock_pinLow (d : Nat) (k : Dock) (s : State) : (setDock d k s).pinLow = s.pinLow := rfl
@[simp] theorem setDock_settings (d : Nat) (k : Dock) (s : State) : (setDock d k s).settings = s.settings := rfl
@[simp] theorem setDock_installed (d : Nat) (k : Dock) (s : State) : (setDock d k s).installed = s.installed := rfl
@[simp] theorem setDock_attrs (d : Nat) (k : Dock) (s : State) : (setDock d k s).attrs = s.attrs := rfl
@[simp] theorem setDock_bus (d : Nat) (k : Dock) (s : State) : (setDock d k s).bus = s.bus := rfl
@[simp] theorem setDock_cards (d : Nat) (k : Dock) (s : State) : (setDock d k s).cards = s.cards := rfl
@[simp] theorem setDock_policies (d : Nat) (k : Dock) (s : State) : (setDock d k s).policies = s.policies := rfl
@[simp] theorem setDock_authQueue (d : Nat) (k : Dock) (s : State) : (setDock d k s).authQueue = s.authQueue := rfl
@[simp] theorem setDock_lastTag (d : Nat) (k : Dock) (s : State) : (setDock d k s).lastTag = s.lastTag := rfl
@[simp] theorem setDock_link (d : Nat) (k : Dock) (s : State) : (setDock d k s).link = s.link := rfl
@[simp] theorem setDock_hires (d : Nat) (k : Dock) (s : State) : (setDock d k s).hires = s.hires := rfl
@[simp] theorem setDock_lastHire (d : Nat) (k : Dock) (s : State) : (setDock d k s).lastHire = s.lastHire := rfl
@[simp] theorem setDock_tariffs (d : Nat) (k : Dock) (s : State) : (setDock d k s).tariffs = s.tariffs := rfl
@[simp] theorem setDock_batch (d : Nat) (k : Dock) (s : State) : (setDock d k s).batch = s.batch := rfl
@[simp] theorem setDock_bikeFaults (d : Nat) (k : Dock) (s : State) : (setDock d k s).bikeFaults = s.bikeFaults := rfl
@[simp] theorem setDock_leakTimer (d : Nat) (k : Dock) (s : State) : (setDock d k s).leakTimer = s.leakTimer := rfl
@[simp] theorem setDock_patrol (d : Nat) (k : Dock) (s : State) : (setDock d k s).patrol = s.patrol := rfl
@[simp] theorem setDock_audit (d : Nat) (k : Dock) (s : State) : (setDock d k s).audit = s.audit := rfl
@[simp] theorem setDock_journal (d : Nat) (k : Dock) (s : State) : (setDock d k s).journal = s.journal := rfl
@[simp] theorem setDock_terminal (d : Nat) (k : Dock) (s : State) : (setDock d k s).terminal = s.terminal := rfl
@[simp] theorem setDock_uplink (d : Nat) (k : Dock) (s : State) : (setDock d k s).uplink = s.uplink := rfl
@[simp] theorem setDock_service (d : Nat) (k : Dock) (s : State) : (setDock d k s).service = s.service := rfl

/-! ## modDock -/

@[simp] theorem modDock_pending (d : Nat) (f : Dock → Dock) (s : State) : (modDock d f s).pending = s.pending := rfl
@[simp] theorem modDock_clock (d : Nat) (f : Dock → Dock) (s : State) : (modDock d f s).clock = s.clock := rfl
@[simp] theorem modDock_due (d : Nat) (f : Dock → Dock) (s : State) : (modDock d f s).due = s.due := rfl
@[simp] theorem modDock_station (d : Nat) (f : Dock → Dock) (s : State) : (modDock d f s).station = s.station := rfl
@[simp] theorem modDock_pinLow (d : Nat) (f : Dock → Dock) (s : State) : (modDock d f s).pinLow = s.pinLow := rfl
@[simp] theorem modDock_settings (d : Nat) (f : Dock → Dock) (s : State) : (modDock d f s).settings = s.settings := rfl
@[simp] theorem modDock_installed (d : Nat) (f : Dock → Dock) (s : State) : (modDock d f s).installed = s.installed := rfl
@[simp] theorem modDock_attrs (d : Nat) (f : Dock → Dock) (s : State) : (modDock d f s).attrs = s.attrs := rfl
@[simp] theorem modDock_bus (d : Nat) (f : Dock → Dock) (s : State) : (modDock d f s).bus = s.bus := rfl
@[simp] theorem modDock_cards (d : Nat) (f : Dock → Dock) (s : State) : (modDock d f s).cards = s.cards := rfl
@[simp] theorem modDock_policies (d : Nat) (f : Dock → Dock) (s : State) : (modDock d f s).policies = s.policies := rfl
@[simp] theorem modDock_authQueue (d : Nat) (f : Dock → Dock) (s : State) : (modDock d f s).authQueue = s.authQueue := rfl
@[simp] theorem modDock_lastTag (d : Nat) (f : Dock → Dock) (s : State) : (modDock d f s).lastTag = s.lastTag := rfl
@[simp] theorem modDock_link (d : Nat) (f : Dock → Dock) (s : State) : (modDock d f s).link = s.link := rfl
@[simp] theorem modDock_hires (d : Nat) (f : Dock → Dock) (s : State) : (modDock d f s).hires = s.hires := rfl
@[simp] theorem modDock_lastHire (d : Nat) (f : Dock → Dock) (s : State) : (modDock d f s).lastHire = s.lastHire := rfl
@[simp] theorem modDock_tariffs (d : Nat) (f : Dock → Dock) (s : State) : (modDock d f s).tariffs = s.tariffs := rfl
@[simp] theorem modDock_batch (d : Nat) (f : Dock → Dock) (s : State) : (modDock d f s).batch = s.batch := rfl
@[simp] theorem modDock_bikeFaults (d : Nat) (f : Dock → Dock) (s : State) : (modDock d f s).bikeFaults = s.bikeFaults := rfl
@[simp] theorem modDock_leakTimer (d : Nat) (f : Dock → Dock) (s : State) : (modDock d f s).leakTimer = s.leakTimer := rfl
@[simp] theorem modDock_patrol (d : Nat) (f : Dock → Dock) (s : State) : (modDock d f s).patrol = s.patrol := rfl
@[simp] theorem modDock_audit (d : Nat) (f : Dock → Dock) (s : State) : (modDock d f s).audit = s.audit := rfl
@[simp] theorem modDock_journal (d : Nat) (f : Dock → Dock) (s : State) : (modDock d f s).journal = s.journal := rfl
@[simp] theorem modDock_terminal (d : Nat) (f : Dock → Dock) (s : State) : (modDock d f s).terminal = s.terminal := rfl
@[simp] theorem modDock_uplink (d : Nat) (f : Dock → Dock) (s : State) : (modDock d f s).uplink = s.uplink := rfl
@[simp] theorem modDock_service (d : Nat) (f : Dock → Dock) (s : State) : (modDock d f s).service = s.service := rfl

/-! ## modBus -/

@[simp] theorem modBus_pending (f : Bus → Bus) (s : State) : (modBus f s).pending = s.pending := rfl
@[simp] theorem modBus_clock (f : Bus → Bus) (s : State) : (modBus f s).clock = s.clock := rfl
@[simp] theorem modBus_due (f : Bus → Bus) (s : State) : (modBus f s).due = s.due := rfl
@[simp] theorem modBus_station (f : Bus → Bus) (s : State) : (modBus f s).station = s.station := rfl
@[simp] theorem modBus_pinLow (f : Bus → Bus) (s : State) : (modBus f s).pinLow = s.pinLow := rfl
@[simp] theorem modBus_settings (f : Bus → Bus) (s : State) : (modBus f s).settings = s.settings := rfl
@[simp] theorem modBus_installed (f : Bus → Bus) (s : State) : (modBus f s).installed = s.installed := rfl
@[simp] theorem modBus_docks (f : Bus → Bus) (s : State) : (modBus f s).docks = s.docks := rfl
@[simp] theorem modBus_attrs (f : Bus → Bus) (s : State) : (modBus f s).attrs = s.attrs := rfl
@[simp] theorem modBus_cards (f : Bus → Bus) (s : State) : (modBus f s).cards = s.cards := rfl
@[simp] theorem modBus_policies (f : Bus → Bus) (s : State) : (modBus f s).policies = s.policies := rfl
@[simp] theorem modBus_authQueue (f : Bus → Bus) (s : State) : (modBus f s).authQueue = s.authQueue := rfl
@[simp] theorem modBus_lastTag (f : Bus → Bus) (s : State) : (modBus f s).lastTag = s.lastTag := rfl
@[simp] theorem modBus_link (f : Bus → Bus) (s : State) : (modBus f s).link = s.link := rfl
@[simp] theorem modBus_hires (f : Bus → Bus) (s : State) : (modBus f s).hires = s.hires := rfl
@[simp] theorem modBus_lastHire (f : Bus → Bus) (s : State) : (modBus f s).lastHire = s.lastHire := rfl
@[simp] theorem modBus_tariffs (f : Bus → Bus) (s : State) : (modBus f s).tariffs = s.tariffs := rfl
@[simp] theorem modBus_batch (f : Bus → Bus) (s : State) : (modBus f s).batch = s.batch := rfl
@[simp] theorem modBus_bikeFaults (f : Bus → Bus) (s : State) : (modBus f s).bikeFaults = s.bikeFaults := rfl
@[simp] theorem modBus_leakTimer (f : Bus → Bus) (s : State) : (modBus f s).leakTimer = s.leakTimer := rfl
@[simp] theorem modBus_patrol (f : Bus → Bus) (s : State) : (modBus f s).patrol = s.patrol := rfl
@[simp] theorem modBus_audit (f : Bus → Bus) (s : State) : (modBus f s).audit = s.audit := rfl
@[simp] theorem modBus_journal (f : Bus → Bus) (s : State) : (modBus f s).journal = s.journal := rfl
@[simp] theorem modBus_terminal (f : Bus → Bus) (s : State) : (modBus f s).terminal = s.terminal := rfl
@[simp] theorem modBus_uplink (f : Bus → Bus) (s : State) : (modBus f s).uplink = s.uplink := rfl
@[simp] theorem modBus_service (f : Bus → Bus) (s : State) : (modBus f s).service = s.service := rfl
@[simp] theorem modBus_dock (f : Bus → Bus) (s : State) (e : Nat) : (modBus f s).dock e = s.dock e := rfl

/-! ## modCard -/

@[simp] theorem modCard_pending (i : Nat) (f : Card → Card) (s : State) : (modCard i f s).pending = s.pending := rfl
@[simp] theorem modCard_clock (i : Nat) (f : Card → Card) (s : State) : (modCard i f s).clock = s.clock := rfl
@[simp] theorem modCard_due (i : Nat) (f : Card → Card) (s : State) : (modCard i f s).due = s.due := rfl
@[simp] theorem modCard_station (i : Nat) (f : Card → Card) (s : State) : (modCard i f s).station = s.station := rfl
@[simp] theorem modCard_pinLow (i : Nat) (f : Card → Card) (s : State) : (modCard i f s).pinLow = s.pinLow := rfl
@[simp] theorem modCard_settings (i : Nat) (f : Card → Card) (s : State) : (modCard i f s).settings = s.settings := rfl
@[simp] theorem modCard_installed (i : Nat) (f : Card → Card) (s : State) : (modCard i f s).installed = s.installed := rfl
@[simp] theorem modCard_docks (i : Nat) (f : Card → Card) (s : State) : (modCard i f s).docks = s.docks := rfl
@[simp] theorem modCard_attrs (i : Nat) (f : Card → Card) (s : State) : (modCard i f s).attrs = s.attrs := rfl
@[simp] theorem modCard_bus (i : Nat) (f : Card → Card) (s : State) : (modCard i f s).bus = s.bus := rfl
@[simp] theorem modCard_policies (i : Nat) (f : Card → Card) (s : State) : (modCard i f s).policies = s.policies := rfl
@[simp] theorem modCard_authQueue (i : Nat) (f : Card → Card) (s : State) : (modCard i f s).authQueue = s.authQueue := rfl
@[simp] theorem modCard_lastTag (i : Nat) (f : Card → Card) (s : State) : (modCard i f s).lastTag = s.lastTag := rfl
@[simp] theorem modCard_link (i : Nat) (f : Card → Card) (s : State) : (modCard i f s).link = s.link := rfl
@[simp] theorem modCard_hires (i : Nat) (f : Card → Card) (s : State) : (modCard i f s).hires = s.hires := rfl
@[simp] theorem modCard_lastHire (i : Nat) (f : Card → Card) (s : State) : (modCard i f s).lastHire = s.lastHire := rfl
@[simp] theorem modCard_tariffs (i : Nat) (f : Card → Card) (s : State) : (modCard i f s).tariffs = s.tariffs := rfl
@[simp] theorem modCard_batch (i : Nat) (f : Card → Card) (s : State) : (modCard i f s).batch = s.batch := rfl
@[simp] theorem modCard_bikeFaults (i : Nat) (f : Card → Card) (s : State) : (modCard i f s).bikeFaults = s.bikeFaults := rfl
@[simp] theorem modCard_leakTimer (i : Nat) (f : Card → Card) (s : State) : (modCard i f s).leakTimer = s.leakTimer := rfl
@[simp] theorem modCard_patrol (i : Nat) (f : Card → Card) (s : State) : (modCard i f s).patrol = s.patrol := rfl
@[simp] theorem modCard_audit (i : Nat) (f : Card → Card) (s : State) : (modCard i f s).audit = s.audit := rfl
@[simp] theorem modCard_journal (i : Nat) (f : Card → Card) (s : State) : (modCard i f s).journal = s.journal := rfl
@[simp] theorem modCard_terminal (i : Nat) (f : Card → Card) (s : State) : (modCard i f s).terminal = s.terminal := rfl
@[simp] theorem modCard_uplink (i : Nat) (f : Card → Card) (s : State) : (modCard i f s).uplink = s.uplink := rfl
@[simp] theorem modCard_service (i : Nat) (f : Card → Card) (s : State) : (modCard i f s).service = s.service := rfl
@[simp] theorem modCard_dock (i : Nat) (f : Card → Card) (s : State) (e : Nat) : (modCard i f s).dock e = s.dock e := rfl

/-! ## modHire -/

@[simp] theorem modHire_pending (h : Nat) (f : Hire → Hire) (s : State) : (modHire h f s).pending = s.pending := rfl
@[simp] theorem modHire_clock (h : Nat) (f : Hire → Hire) (s : State) : (modHire h f s).clock = s.clock := rfl
@[simp] theorem modHire_due (h : Nat) (f : Hire → Hire) (s : State) : (modHire h f s).due = s.due := rfl
@[simp] theorem modHire_station (h : Nat) (f : Hire → Hire) (s : State) : (modHire h f s).station = s.station := rfl
@[simp] theorem modHire_pinLow (h : Nat) (f : Hire → Hire) (s : State) : (modHire h f s).pinLow = s.pinLow := rfl
@[simp] theorem modHire_settings (h : Nat) (f : Hire → Hire) (s : State) : (modHire h f s).settings = s.settings := rfl
@[simp] theorem modHire_installed (h : Nat) (f : Hire → Hire) (s : State) : (modHire h f s).installed = s.installed := rfl
@[simp] theorem modHire_docks (h : Nat) (f : Hire → Hire) (s : State) : (modHire h f s).docks = s.docks := rfl
@[simp] theorem modHire_attrs (h : Nat) (f : Hire → Hire) (s : State) : (modHire h f s).attrs = s.attrs := rfl
@[simp] theorem modHire_bus (h : Nat) (f : Hire → Hire) (s : State) : (modHire h f s).bus = s.bus := rfl
@[simp] theorem modHire_cards (h : Nat) (f : Hire → Hire) (s : State) : (modHire h f s).cards = s.cards := rfl
@[simp] theorem modHire_policies (h : Nat) (f : Hire → Hire) (s : State) : (modHire h f s).policies = s.policies := rfl
@[simp] theorem modHire_authQueue (h : Nat) (f : Hire → Hire) (s : State) : (modHire h f s).authQueue = s.authQueue := rfl
@[simp] theorem modHire_lastTag (h : Nat) (f : Hire → Hire) (s : State) : (modHire h f s).lastTag = s.lastTag := rfl
@[simp] theorem modHire_link (h : Nat) (f : Hire → Hire) (s : State) : (modHire h f s).link = s.link := rfl
@[simp] theorem modHire_lastHire (h : Nat) (f : Hire → Hire) (s : State) : (modHire h f s).lastHire = s.lastHire := rfl
@[simp] theorem modHire_tariffs (h : Nat) (f : Hire → Hire) (s : State) : (modHire h f s).tariffs = s.tariffs := rfl
@[simp] theorem modHire_batch (h : Nat) (f : Hire → Hire) (s : State) : (modHire h f s).batch = s.batch := rfl
@[simp] theorem modHire_bikeFaults (h : Nat) (f : Hire → Hire) (s : State) : (modHire h f s).bikeFaults = s.bikeFaults := rfl
@[simp] theorem modHire_leakTimer (h : Nat) (f : Hire → Hire) (s : State) : (modHire h f s).leakTimer = s.leakTimer := rfl
@[simp] theorem modHire_patrol (h : Nat) (f : Hire → Hire) (s : State) : (modHire h f s).patrol = s.patrol := rfl
@[simp] theorem modHire_audit (h : Nat) (f : Hire → Hire) (s : State) : (modHire h f s).audit = s.audit := rfl
@[simp] theorem modHire_journal (h : Nat) (f : Hire → Hire) (s : State) : (modHire h f s).journal = s.journal := rfl
@[simp] theorem modHire_terminal (h : Nat) (f : Hire → Hire) (s : State) : (modHire h f s).terminal = s.terminal := rfl
@[simp] theorem modHire_uplink (h : Nat) (f : Hire → Hire) (s : State) : (modHire h f s).uplink = s.uplink := rfl
@[simp] theorem modHire_service (h : Nat) (f : Hire → Hire) (s : State) : (modHire h f s).service = s.service := rfl
@[simp] theorem modHire_dock (h : Nat) (f : Hire → Hire) (s : State) (e : Nat) : (modHire h f s).dock e = s.dock e := rfl

/-! ## dropHire -/

@[simp] theorem dropHire_pending (h : Nat) (s : State) : (dropHire h s).pending = s.pending := rfl
@[simp] theorem dropHire_clock (h : Nat) (s : State) : (dropHire h s).clock = s.clock := rfl
@[simp] theorem dropHire_due (h : Nat) (s : State) : (dropHire h s).due = s.due := rfl
@[simp] theorem dropHire_station (h : Nat) (s : State) : (dropHire h s).station = s.station := rfl
@[simp] theorem dropHire_pinLow (h : Nat) (s : State) : (dropHire h s).pinLow = s.pinLow := rfl
@[simp] theorem dropHire_settings (h : Nat) (s : State) : (dropHire h s).settings = s.settings := rfl
@[simp] theorem dropHire_installed (h : Nat) (s : State) : (dropHire h s).installed = s.installed := rfl
@[simp] theorem dropHire_docks (h : Nat) (s : State) : (dropHire h s).docks = s.docks := rfl
@[simp] theorem dropHire_attrs (h : Nat) (s : State) : (dropHire h s).attrs = s.attrs := rfl
@[simp] theorem dropHire_bus (h : Nat) (s : State) : (dropHire h s).bus = s.bus := rfl
@[simp] theorem dropHire_cards (h : Nat) (s : State) : (dropHire h s).cards = s.cards := rfl
@[simp] theorem dropHire_policies (h : Nat) (s : State) : (dropHire h s).policies = s.policies := rfl
@[simp] theorem dropHire_authQueue (h : Nat) (s : State) : (dropHire h s).authQueue = s.authQueue := rfl
@[simp] theorem dropHire_lastTag (h : Nat) (s : State) : (dropHire h s).lastTag = s.lastTag := rfl
@[simp] theorem dropHire_link (h : Nat) (s : State) : (dropHire h s).link = s.link := rfl
@[simp] theorem dropHire_lastHire (h : Nat) (s : State) : (dropHire h s).lastHire = s.lastHire := rfl
@[simp] theorem dropHire_tariffs (h : Nat) (s : State) : (dropHire h s).tariffs = s.tariffs := rfl
@[simp] theorem dropHire_batch (h : Nat) (s : State) : (dropHire h s).batch = s.batch := rfl
@[simp] theorem dropHire_bikeFaults (h : Nat) (s : State) : (dropHire h s).bikeFaults = s.bikeFaults := rfl
@[simp] theorem dropHire_leakTimer (h : Nat) (s : State) : (dropHire h s).leakTimer = s.leakTimer := rfl
@[simp] theorem dropHire_patrol (h : Nat) (s : State) : (dropHire h s).patrol = s.patrol := rfl
@[simp] theorem dropHire_audit (h : Nat) (s : State) : (dropHire h s).audit = s.audit := rfl
@[simp] theorem dropHire_journal (h : Nat) (s : State) : (dropHire h s).journal = s.journal := rfl
@[simp] theorem dropHire_terminal (h : Nat) (s : State) : (dropHire h s).terminal = s.terminal := rfl
@[simp] theorem dropHire_uplink (h : Nat) (s : State) : (dropHire h s).uplink = s.uplink := rfl
@[simp] theorem dropHire_service (h : Nat) (s : State) : (dropHire h s).service = s.service := rfl
@[simp] theorem dropHire_dock (h : Nat) (s : State) (e : Nat) : (dropHire h s).dock e = s.dock e := rfl

/-! ## dropAuth -/

@[simp] theorem dropAuth_pending (tag : Nat) (s : State) : (dropAuth tag s).pending = s.pending := rfl
@[simp] theorem dropAuth_clock (tag : Nat) (s : State) : (dropAuth tag s).clock = s.clock := rfl
@[simp] theorem dropAuth_due (tag : Nat) (s : State) : (dropAuth tag s).due = s.due := rfl
@[simp] theorem dropAuth_station (tag : Nat) (s : State) : (dropAuth tag s).station = s.station := rfl
@[simp] theorem dropAuth_pinLow (tag : Nat) (s : State) : (dropAuth tag s).pinLow = s.pinLow := rfl
@[simp] theorem dropAuth_settings (tag : Nat) (s : State) : (dropAuth tag s).settings = s.settings := rfl
@[simp] theorem dropAuth_installed (tag : Nat) (s : State) : (dropAuth tag s).installed = s.installed := rfl
@[simp] theorem dropAuth_docks (tag : Nat) (s : State) : (dropAuth tag s).docks = s.docks := rfl
@[simp] theorem dropAuth_attrs (tag : Nat) (s : State) : (dropAuth tag s).attrs = s.attrs := rfl
@[simp] theorem dropAuth_bus (tag : Nat) (s : State) : (dropAuth tag s).bus = s.bus := rfl
@[simp] theorem dropAuth_cards (tag : Nat) (s : State) : (dropAuth tag s).cards = s.cards := rfl
@[simp] theorem dropAuth_policies (tag : Nat) (s : State) : (dropAuth tag s).policies = s.policies := rfl
@[simp] theorem dropAuth_lastTag (tag : Nat) (s : State) : (dropAuth tag s).lastTag = s.lastTag := rfl
@[simp] theorem dropAuth_link (tag : Nat) (s : State) : (dropAuth tag s).link = s.link := rfl
@[simp] theorem dropAuth_hires (tag : Nat) (s : State) : (dropAuth tag s).hires = s.hires := rfl
@[simp] theorem dropAuth_lastHire (tag : Nat) (s : State) : (dropAuth tag s).lastHire = s.lastHire := rfl
@[simp] theorem dropAuth_tariffs (tag : Nat) (s : State) : (dropAuth tag s).tariffs = s.tariffs := rfl
@[simp] theorem dropAuth_batch (tag : Nat) (s : State) : (dropAuth tag s).batch = s.batch := rfl
@[simp] theorem dropAuth_bikeFaults (tag : Nat) (s : State) : (dropAuth tag s).bikeFaults = s.bikeFaults := rfl
@[simp] theorem dropAuth_leakTimer (tag : Nat) (s : State) : (dropAuth tag s).leakTimer = s.leakTimer := rfl
@[simp] theorem dropAuth_patrol (tag : Nat) (s : State) : (dropAuth tag s).patrol = s.patrol := rfl
@[simp] theorem dropAuth_audit (tag : Nat) (s : State) : (dropAuth tag s).audit = s.audit := rfl
@[simp] theorem dropAuth_journal (tag : Nat) (s : State) : (dropAuth tag s).journal = s.journal := rfl
@[simp] theorem dropAuth_terminal (tag : Nat) (s : State) : (dropAuth tag s).terminal = s.terminal := rfl
@[simp] theorem dropAuth_uplink (tag : Nat) (s : State) : (dropAuth tag s).uplink = s.uplink := rfl
@[simp] theorem dropAuth_service (tag : Nat) (s : State) : (dropAuth tag s).service = s.service := rfl
@[simp] theorem dropAuth_dock (tag : Nat) (s : State) (e : Nat) : (dropAuth tag s).dock e = s.dock e := rfl

/-! ## modBatch -/

@[simp] theorem modBatch_pending (f : Batch → Batch) (s : State) : (modBatch f s).pending = s.pending := rfl
@[simp] theorem modBatch_clock (f : Batch → Batch) (s : State) : (modBatch f s).clock = s.clock := rfl
@[simp] theorem modBatch_due (f : Batch → Batch) (s : State) : (modBatch f s).due = s.due := rfl
@[simp] theorem modBatch_station (f : Batch → Batch) (s : State) : (modBatch f s).station = s.station := rfl
@[simp] theorem modBatch_pinLow (f : Batch → Batch) (s : State) : (modBatch f s).pinLow = s.pinLow := rfl
@[simp] theorem modBatch_settings (f : Batch → Batch) (s : State) : (modBatch f s).settings = s.settings := rfl
@[simp] theorem modBatch_installed (f : Batch → Batch) (s : State) : (modBatch f s).installed = s.installed := rfl
@[simp] theorem modBatch_docks (f : Batch → Batch) (s : State) : (modBatch f s).docks = s.docks := rfl
@[simp] theorem modBatch_attrs (f : Batch → Batch) (s : State) : (modBatch f s).attrs = s.attrs := rfl
@[simp] theorem modBatch_bus (f : Batch → Batch) (s : State) : (modBatch f s).bus = s.bus := rfl
@[simp] theorem modBatch_cards (f : Batch → Batch) (s : State) : (modBatch f s).cards = s.cards := rfl
@[simp] theorem modBatch_policies (f : Batch → Batch) (s : State) : (modBatch f s).policies = s.policies := rfl
@[simp] theorem modBatch_authQueue (f : Batch → Batch) (s : State) : (modBatch f s).authQueue = s.authQueue := rfl
@[simp] theorem modBatch_lastTag (f : Batch → Batch) (s : State) : (modBatch f s).lastTag = s.lastTag := rfl
@[simp] theorem modBatch_link (f : Batch → Batch) (s : State) : (modBatch f s).link = s.link := rfl
@[simp] theorem modBatch_hires (f : Batch → Batch) (s : State) : (modBatch f s).hires = s.hires := rfl
@[simp] theorem modBatch_lastHire (f : Batch → Batch) (s : State) : (modBatch f s).lastHire = s.lastHire := rfl
@[simp] theorem modBatch_tariffs (f : Batch → Batch) (s : State) : (modBatch f s).tariffs = s.tariffs := rfl
@[simp] theorem modBatch_bikeFaults (f : Batch → Batch) (s : State) : (modBatch f s).bikeFaults = s.bikeFaults := rfl
@[simp] theorem modBatch_leakTimer (f : Batch → Batch) (s : State) : (modBatch f s).leakTimer = s.leakTimer := rfl
@[simp] theorem modBatch_patrol (f : Batch → Batch) (s : State) : (modBatch f s).patrol = s.patrol := rfl
@[simp] theorem modBatch_audit (f : Batch → Batch) (s : State) : (modBatch f s).audit = s.audit := rfl
@[simp] theorem modBatch_journal (f : Batch → Batch) (s : State) : (modBatch f s).journal = s.journal := rfl
@[simp] theorem modBatch_terminal (f : Batch → Batch) (s : State) : (modBatch f s).terminal = s.terminal := rfl
@[simp] theorem modBatch_uplink (f : Batch → Batch) (s : State) : (modBatch f s).uplink = s.uplink := rfl
@[simp] theorem modBatch_service (f : Batch → Batch) (s : State) : (modBatch f s).service = s.service := rfl
@[simp] theorem modBatch_dock (f : Batch → Batch) (s : State) (e : Nat) : (modBatch f s).dock e = s.dock e := rfl

/-! ## modBikeFault -/

@[simp] theorem modBikeFault_pending (b : Nat) (f : BikeFault → BikeFault) (s : State) : (modBikeFault b f s).pending = s.pending := rfl
@[simp] theorem modBikeFault_clock (b : Nat) (f : BikeFault → BikeFault) (s : State) : (modBikeFault b f s).clock = s.clock := rfl
@[simp] theorem modBikeFault_due (b : Nat) (f : BikeFault → BikeFault) (s : State) : (modBikeFault b f s).due = s.due := rfl
@[simp] theorem modBikeFault_station (b : Nat) (f : BikeFault → BikeFault) (s : State) : (modBikeFault b f s).station = s.station := rfl
@[simp] theorem modBikeFault_pinLow (b : Nat) (f : BikeFault → BikeFault) (s : State) : (modBikeFault b f s).pinLow = s.pinLow := rfl
@[simp] theorem modBikeFault_settings (b : Nat) (f : BikeFault → BikeFault) (s : State) : (modBikeFault b f s).settings = s.settings := rfl
@[simp] theorem modBikeFault_installed (b : Nat) (f : BikeFault → BikeFault) (s : State) : (modBikeFault b f s).installed = s.installed := rfl
@[simp] theorem modBikeFault_docks (b : Nat) (f : BikeFault → BikeFault) (s : State) : (modBikeFault b f s).docks = s.docks := rfl
@[simp] theorem modBikeFault_attrs (b : Nat) (f : BikeFault → BikeFault) (s : State) : (modBikeFault b f s).attrs = s.attrs := rfl
@[simp] theorem modBikeFault_bus (b : Nat) (f : BikeFault → BikeFault) (s : State) : (modBikeFault b f s).bus = s.bus := rfl
@[simp] theorem modBikeFault_cards (b : Nat) (f : BikeFault → BikeFault) (s : State) : (modBikeFault b f s).cards = s.cards := rfl
@[simp] theorem modBikeFault_policies (b : Nat) (f : BikeFault → BikeFault) (s : State) : (modBikeFault b f s).policies = s.policies := rfl
@[simp] theorem modBikeFault_authQueue (b : Nat) (f : BikeFault → BikeFault) (s : State) : (modBikeFault b f s).authQueue = s.authQueue := rfl
@[simp] theorem modBikeFault_lastTag (b : Nat) (f : BikeFault → BikeFault) (s : State) : (modBikeFault b f s).lastTag = s.lastTag := rfl
@[simp] theorem modBikeFault_link (b : Nat) (f : BikeFault → BikeFault) (s : State) : (modBikeFault b f s).link = s.link := rfl
@[simp] theorem modBikeFault_hires (b : Nat) (f : BikeFault → BikeFault) (s : State) : (modBikeFault b f s).hires = s.hires := rfl
@[simp] theorem modBikeFault_lastHire (b : Nat) (f : BikeFault → BikeFault) (s : State) : (modBikeFault b f s).lastHire = s.lastHire := rfl
@[simp] theorem modBikeFault_tariffs (b : Nat) (f : BikeFault → BikeFault) (s : State) : (modBikeFault b f s).tariffs = s.tariffs := rfl
@[simp] theorem modBikeFault_batch (b : Nat) (f : BikeFault → BikeFault) (s : State) : (modBikeFault b f s).batch = s.batch := rfl
@[simp] theorem modBikeFault_leakTimer (b : Nat) (f : BikeFault → BikeFault) (s : State) : (modBikeFault b f s).leakTimer = s.leakTimer := rfl
@[simp] theorem modBikeFault_patrol (b : Nat) (f : BikeFault → BikeFault) (s : State) : (modBikeFault b f s).patrol = s.patrol := rfl
@[simp] theorem modBikeFault_audit (b : Nat) (f : BikeFault → BikeFault) (s : State) : (modBikeFault b f s).audit = s.audit := rfl
@[simp] theorem modBikeFault_journal (b : Nat) (f : BikeFault → BikeFault) (s : State) : (modBikeFault b f s).journal = s.journal := rfl
@[simp] theorem modBikeFault_terminal (b : Nat) (f : BikeFault → BikeFault) (s : State) : (modBikeFault b f s).terminal = s.terminal := rfl
@[simp] theorem modBikeFault_uplink (b : Nat) (f : BikeFault → BikeFault) (s : State) : (modBikeFault b f s).uplink = s.uplink := rfl
@[simp] theorem modBikeFault_service (b : Nat) (f : BikeFault → BikeFault) (s : State) : (modBikeFault b f s).service = s.service := rfl
@[simp] theorem modBikeFault_dock (b : Nat) (f : BikeFault → BikeFault) (s : State) (e : Nat) : (modBikeFault b f s).dock e = s.dock e := rfl

/-! ## dropBikeFault -/

@[simp] theorem dropBikeFault_pending (b : Nat) (s : State) : (dropBikeFault b s).pending = s.pending := rfl
@[simp] theorem dropBikeFault_clock (b : Nat) (s : State) : (dropBikeFault b s).clock = s.clock := rfl
@[simp] theorem dropBikeFault_due (b : Nat) (s : State) : (dropBikeFault b s).due = s.due := rfl
@[simp] theorem dropBikeFault_station (b : Nat) (s : State) : (dropBikeFault b s).station = s.station := rfl
@[simp] theorem dropBikeFault_pinLow (b : Nat) (s : State) : (dropBikeFault b s).pinLow = s.pinLow := rfl
@[simp] theorem dropBikeFault_settings (b : Nat) (s : State) : (dropBikeFault b s).settings = s.settings := rfl
@[simp] theorem dropBikeFault_installed (b : Nat) (s : State) : (dropBikeFault b s).installed = s.installed := rfl
@[simp] theorem dropBikeFault_docks (b : Nat) (s : State) : (dropBikeFault b s).docks = s.docks := rfl
@[simp] theorem dropBikeFault_attrs (b : Nat) (s : State) : (dropBikeFault b s).attrs = s.attrs := rfl
@[simp] theorem dropBikeFault_bus (b : Nat) (s : State) : (dropBikeFault b s).bus = s.bus := rfl
@[simp] theorem dropBikeFault_cards (b : Nat) (s : State) : (dropBikeFault b s).cards = s.cards := rfl
@[simp] theorem dropBikeFault_policies (b : Nat) (s : State) : (dropBikeFault b s).policies = s.policies := rfl
@[simp] theorem dropBikeFault_authQueue (b : Nat) (s : State) : (dropBikeFault b s).authQueue = s.authQueue := rfl
@[simp] theorem dropBikeFault_lastTag (b : Nat) (s : State) : (dropBikeFault b s).lastTag = s.lastTag := rfl
@[simp] theorem dropBikeFault_link (b : Nat) (s : State) : (dropBikeFault b s).link = s.link := rfl
@[simp] theorem dropBikeFault_hires (b : Nat) (s : State) : (dropBikeFault b s).hires = s.hires := rfl
@[simp] theorem dropBikeFault_lastHire (b : Nat) (s : State) : (dropBikeFault b s).lastHire = s.lastHire := rfl
@[simp] theorem dropBikeFault_tariffs (b : Nat) (s : State) : (dropBikeFault b s).tariffs = s.tariffs := rfl
@[simp] theorem dropBikeFault_batch (b : Nat) (s : State) : (dropBikeFault b s).batch = s.batch := rfl
@[simp] theorem dropBikeFault_leakTimer (b : Nat) (s : State) : (dropBikeFault b s).leakTimer = s.leakTimer := rfl
@[simp] theorem dropBikeFault_patrol (b : Nat) (s : State) : (dropBikeFault b s).patrol = s.patrol := rfl
@[simp] theorem dropBikeFault_audit (b : Nat) (s : State) : (dropBikeFault b s).audit = s.audit := rfl
@[simp] theorem dropBikeFault_journal (b : Nat) (s : State) : (dropBikeFault b s).journal = s.journal := rfl
@[simp] theorem dropBikeFault_terminal (b : Nat) (s : State) : (dropBikeFault b s).terminal = s.terminal := rfl
@[simp] theorem dropBikeFault_uplink (b : Nat) (s : State) : (dropBikeFault b s).uplink = s.uplink := rfl
@[simp] theorem dropBikeFault_service (b : Nat) (s : State) : (dropBikeFault b s).service = s.service := rfl
@[simp] theorem dropBikeFault_dock (b : Nat) (s : State) (e : Nat) : (dropBikeFault b s).dock e = s.dock e := rfl

/-! ## modAudit -/

@[simp] theorem modAudit_pending (f : Audit → Audit) (s : State) : (modAudit f s).pending = s.pending := rfl
@[simp] theorem modAudit_clock (f : Audit → Audit) (s : State) : (modAudit f s).clock = s.clock := rfl
@[simp] theorem modAudit_due (f : Audit → Audit) (s : State) : (modAudit f s).due = s.due := rfl
@[simp] theorem modAudit_station (f : Audit → Audit) (s : State) : (modAudit f s).station = s.station := rfl
@[simp] theorem modAudit_pinLow (f : Audit → Audit) (s : State) : (modAudit f s).pinLow = s.pinLow := rfl
@[simp] theorem modAudit_settings (f : Audit → Audit) (s : State) : (modAudit f s).settings = s.settings := rfl
@[simp] theorem modAudit_installed (f : Audit → Audit) (s : State) : (modAudit f s).installed = s.installed := rfl
@[simp] theorem modAudit_docks (f : Audit → Audit) (s : State) : (modAudit f s).docks = s.docks := rfl
@[simp] theorem modAudit_attrs (f : Audit → Audit) (s : State) : (modAudit f s).attrs = s.attrs := rfl
@[simp] theorem modAudit_bus (f : Audit → Audit) (s : State) : (modAudit f s).bus = s.bus := rfl
@[simp] theorem modAudit_cards (f : Audit → Audit) (s : State) : (modAudit f s).cards = s.cards := rfl
@[simp] theorem modAudit_policies (f : Audit → Audit) (s : State) : (modAudit f s).policies = s.policies := rfl
@[simp] theorem modAudit_authQueue (f : Audit → Audit) (s : State) : (modAudit f s).authQueue = s.authQueue := rfl
@[simp] theorem modAudit_lastTag (f : Audit → Audit) (s : State) : (modAudit f s).lastTag = s.lastTag := rfl
@[simp] theorem modAudit_link (f : Audit → Audit) (s : State) : (modAudit f s).link = s.link := rfl
@[simp] theorem modAudit_hires (f : Audit → Audit) (s : State) : (modAudit f s).hires = s.hires := rfl
@[simp] theorem modAudit_lastHire (f : Audit → Audit) (s : State) : (modAudit f s).lastHire = s.lastHire := rfl
@[simp] theorem modAudit_tariffs (f : Audit → Audit) (s : State) : (modAudit f s).tariffs = s.tariffs := rfl
@[simp] theorem modAudit_batch (f : Audit → Audit) (s : State) : (modAudit f s).batch = s.batch := rfl
@[simp] theorem modAudit_bikeFaults (f : Audit → Audit) (s : State) : (modAudit f s).bikeFaults = s.bikeFaults := rfl
@[simp] theorem modAudit_leakTimer (f : Audit → Audit) (s : State) : (modAudit f s).leakTimer = s.leakTimer := rfl
@[simp] theorem modAudit_patrol (f : Audit → Audit) (s : State) : (modAudit f s).patrol = s.patrol := rfl
@[simp] theorem modAudit_journal (f : Audit → Audit) (s : State) : (modAudit f s).journal = s.journal := rfl
@[simp] theorem modAudit_terminal (f : Audit → Audit) (s : State) : (modAudit f s).terminal = s.terminal := rfl
@[simp] theorem modAudit_uplink (f : Audit → Audit) (s : State) : (modAudit f s).uplink = s.uplink := rfl
@[simp] theorem modAudit_service (f : Audit → Audit) (s : State) : (modAudit f s).service = s.service := rfl
@[simp] theorem modAudit_dock (f : Audit → Audit) (s : State) (e : Nat) : (modAudit f s).dock e = s.dock e := rfl

/-! ## modDue -/

@[simp] theorem modDue_pending (f : Due → Due) (s : State) : (modDue f s).pending = s.pending := rfl
@[simp] theorem modDue_clock (f : Due → Due) (s : State) : (modDue f s).clock = s.clock := rfl
@[simp] theorem modDue_station (f : Due → Due) (s : State) : (modDue f s).station = s.station := rfl
@[simp] theorem modDue_pinLow (f : Due → Due) (s : State) : (modDue f s).pinLow = s.pinLow := rfl
@[simp] theorem modDue_settings (f : Due → Due) (s : State) : (modDue f s).settings = s.settings := rfl
@[simp] theorem modDue_installed (f : Due → Due) (s : State) : (modDue f s).installed = s.installed := rfl
@[simp] theorem modDue_docks (f : Due → Due) (s : State) : (modDue f s).docks = s.docks := rfl
@[simp] theorem modDue_attrs (f : Due → Due) (s : State) : (modDue f s).attrs = s.attrs := rfl
@[simp] theorem modDue_bus (f : Due → Due) (s : State) : (modDue f s).bus = s.bus := rfl
@[simp] theorem modDue_cards (f : Due → Due) (s : State) : (modDue f s).cards = s.cards := rfl
@[simp] theorem modDue_policies (f : Due → Due) (s : State) : (modDue f s).policies = s.policies := rfl
@[simp] theorem modDue_authQueue (f : Due → Due) (s : State) : (modDue f s).authQueue = s.authQueue := rfl
@[simp] theorem modDue_lastTag (f : Due → Due) (s : State) : (modDue f s).lastTag = s.lastTag := rfl
@[simp] theorem modDue_link (f : Due → Due) (s : State) : (modDue f s).link = s.link := rfl
@[simp] theorem modDue_hires (f : Due → Due) (s : State) : (modDue f s).hires = s.hires := rfl
@[simp] theorem modDue_lastHire (f : Due → Due) (s : State) : (modDue f s).lastHire = s.lastHire := rfl
@[simp] theorem modDue_tariffs (f : Due → Due) (s : State) : (modDue f s).tariffs = s.tariffs := rfl
@[simp] theorem modDue_batch (f : Due → Due) (s : State) : (modDue f s).batch = s.batch := rfl
@[simp] theorem modDue_bikeFaults (f : Due → Due) (s : State) : (modDue f s).bikeFaults = s.bikeFaults := rfl
@[simp] theorem modDue_leakTimer (f : Due → Due) (s : State) : (modDue f s).leakTimer = s.leakTimer := rfl
@[simp] theorem modDue_patrol (f : Due → Due) (s : State) : (modDue f s).patrol = s.patrol := rfl
@[simp] theorem modDue_audit (f : Due → Due) (s : State) : (modDue f s).audit = s.audit := rfl
@[simp] theorem modDue_journal (f : Due → Due) (s : State) : (modDue f s).journal = s.journal := rfl
@[simp] theorem modDue_terminal (f : Due → Due) (s : State) : (modDue f s).terminal = s.terminal := rfl
@[simp] theorem modDue_uplink (f : Due → Due) (s : State) : (modDue f s).uplink = s.uplink := rfl
@[simp] theorem modDue_service (f : Due → Due) (s : State) : (modDue f s).service = s.service := rfl
@[simp] theorem modDue_dock (f : Due → Due) (s : State) (e : Nat) : (modDue f s).dock e = s.dock e := rfl

/-! ## setPort and modPort -/

@[simp] theorem setPort_pending (p : Port) (x : PortState) (s : State) : (setPort p x s).pending = s.pending := by cases p <;> rfl
@[simp] theorem setPort_clock (p : Port) (x : PortState) (s : State) : (setPort p x s).clock = s.clock := by cases p <;> rfl
@[simp] theorem setPort_due (p : Port) (x : PortState) (s : State) : (setPort p x s).due = s.due := by cases p <;> rfl
@[simp] theorem setPort_station (p : Port) (x : PortState) (s : State) : (setPort p x s).station = s.station := by cases p <;> rfl
@[simp] theorem setPort_pinLow (p : Port) (x : PortState) (s : State) : (setPort p x s).pinLow = s.pinLow := by cases p <;> rfl
@[simp] theorem setPort_settings (p : Port) (x : PortState) (s : State) : (setPort p x s).settings = s.settings := by cases p <;> rfl
@[simp] theorem setPort_installed (p : Port) (x : PortState) (s : State) : (setPort p x s).installed = s.installed := by cases p <;> rfl
@[simp] theorem setPort_docks (p : Port) (x : PortState) (s : State) : (setPort p x s).docks = s.docks := by cases p <;> rfl
@[simp] theorem setPort_attrs (p : Port) (x : PortState) (s : State) : (setPort p x s).attrs = s.attrs := by cases p <;> rfl
@[simp] theorem setPort_bus (p : Port) (x : PortState) (s : State) : (setPort p x s).bus = s.bus := by cases p <;> rfl
@[simp] theorem setPort_cards (p : Port) (x : PortState) (s : State) : (setPort p x s).cards = s.cards := by cases p <;> rfl
@[simp] theorem setPort_policies (p : Port) (x : PortState) (s : State) : (setPort p x s).policies = s.policies := by cases p <;> rfl
@[simp] theorem setPort_authQueue (p : Port) (x : PortState) (s : State) : (setPort p x s).authQueue = s.authQueue := by cases p <;> rfl
@[simp] theorem setPort_lastTag (p : Port) (x : PortState) (s : State) : (setPort p x s).lastTag = s.lastTag := by cases p <;> rfl
@[simp] theorem setPort_link (p : Port) (x : PortState) (s : State) : (setPort p x s).link = s.link := by cases p <;> rfl
@[simp] theorem setPort_hires (p : Port) (x : PortState) (s : State) : (setPort p x s).hires = s.hires := by cases p <;> rfl
@[simp] theorem setPort_lastHire (p : Port) (x : PortState) (s : State) : (setPort p x s).lastHire = s.lastHire := by cases p <;> rfl
@[simp] theorem setPort_tariffs (p : Port) (x : PortState) (s : State) : (setPort p x s).tariffs = s.tariffs := by cases p <;> rfl
@[simp] theorem setPort_batch (p : Port) (x : PortState) (s : State) : (setPort p x s).batch = s.batch := by cases p <;> rfl
@[simp] theorem setPort_bikeFaults (p : Port) (x : PortState) (s : State) : (setPort p x s).bikeFaults = s.bikeFaults := by cases p <;> rfl
@[simp] theorem setPort_leakTimer (p : Port) (x : PortState) (s : State) : (setPort p x s).leakTimer = s.leakTimer := by cases p <;> rfl
@[simp] theorem setPort_patrol (p : Port) (x : PortState) (s : State) : (setPort p x s).patrol = s.patrol := by cases p <;> rfl
@[simp] theorem setPort_audit (p : Port) (x : PortState) (s : State) : (setPort p x s).audit = s.audit := by cases p <;> rfl
@[simp] theorem setPort_journal (p : Port) (x : PortState) (s : State) : (setPort p x s).journal = s.journal := by cases p <;> rfl
@[simp] theorem setPort_dock (p : Port) (x : PortState) (s : State) (e : Nat) : (setPort p x s).dock e = s.dock e := by
  cases p <;> rfl
@[simp] theorem modPort_pending (p : Port) (f : PortState → PortState) (s : State) : (modPort p f s).pending = s.pending := by cases p <;> rfl
@[simp] theorem modPort_clock (p : Port) (f : PortState → PortState) (s : State) : (modPort p f s).clock = s.clock := by cases p <;> rfl
@[simp] theorem modPort_due (p : Port) (f : PortState → PortState) (s : State) : (modPort p f s).due = s.due := by cases p <;> rfl
@[simp] theorem modPort_station (p : Port) (f : PortState → PortState) (s : State) : (modPort p f s).station = s.station := by cases p <;> rfl
@[simp] theorem modPort_pinLow (p : Port) (f : PortState → PortState) (s : State) : (modPort p f s).pinLow = s.pinLow := by cases p <;> rfl
@[simp] theorem modPort_settings (p : Port) (f : PortState → PortState) (s : State) : (modPort p f s).settings = s.settings := by cases p <;> rfl
@[simp] theorem modPort_installed (p : Port) (f : PortState → PortState) (s : State) : (modPort p f s).installed = s.installed := by cases p <;> rfl
@[simp] theorem modPort_docks (p : Port) (f : PortState → PortState) (s : State) : (modPort p f s).docks = s.docks := by cases p <;> rfl
@[simp] theorem modPort_attrs (p : Port) (f : PortState → PortState) (s : State) : (modPort p f s).attrs = s.attrs := by cases p <;> rfl
@[simp] theorem modPort_bus (p : Port) (f : PortState → PortState) (s : State) : (modPort p f s).bus = s.bus := by cases p <;> rfl
@[simp] theorem modPort_cards (p : Port) (f : PortState → PortState) (s : State) : (modPort p f s).cards = s.cards := by cases p <;> rfl
@[simp] theorem modPort_policies (p : Port) (f : PortState → PortState) (s : State) : (modPort p f s).policies = s.policies := by cases p <;> rfl
@[simp] theorem modPort_authQueue (p : Port) (f : PortState → PortState) (s : State) : (modPort p f s).authQueue = s.authQueue := by cases p <;> rfl
@[simp] theorem modPort_lastTag (p : Port) (f : PortState → PortState) (s : State) : (modPort p f s).lastTag = s.lastTag := by cases p <;> rfl
@[simp] theorem modPort_link (p : Port) (f : PortState → PortState) (s : State) : (modPort p f s).link = s.link := by cases p <;> rfl
@[simp] theorem modPort_hires (p : Port) (f : PortState → PortState) (s : State) : (modPort p f s).hires = s.hires := by cases p <;> rfl
@[simp] theorem modPort_lastHire (p : Port) (f : PortState → PortState) (s : State) : (modPort p f s).lastHire = s.lastHire := by cases p <;> rfl
@[simp] theorem modPort_tariffs (p : Port) (f : PortState → PortState) (s : State) : (modPort p f s).tariffs = s.tariffs := by cases p <;> rfl
@[simp] theorem modPort_batch (p : Port) (f : PortState → PortState) (s : State) : (modPort p f s).batch = s.batch := by cases p <;> rfl
@[simp] theorem modPort_bikeFaults (p : Port) (f : PortState → PortState) (s : State) : (modPort p f s).bikeFaults = s.bikeFaults := by cases p <;> rfl
@[simp] theorem modPort_leakTimer (p : Port) (f : PortState → PortState) (s : State) : (modPort p f s).leakTimer = s.leakTimer := by cases p <;> rfl
@[simp] theorem modPort_patrol (p : Port) (f : PortState → PortState) (s : State) : (modPort p f s).patrol = s.patrol := by cases p <;> rfl
@[simp] theorem modPort_audit (p : Port) (f : PortState → PortState) (s : State) : (modPort p f s).audit = s.audit := by cases p <;> rfl
@[simp] theorem modPort_journal (p : Port) (f : PortState → PortState) (s : State) : (modPort p f s).journal = s.journal := by cases p <;> rfl
@[simp] theorem modPort_dock (p : Port) (f : PortState → PortState) (s : State) (e : Nat) : (modPort p f s).dock e = s.dock e := by
  cases p <;> rfl

@[simp] theorem port_setPort_self (p : Port) (x : PortState) (s : State) : (setPort p x s).port p = x := by
  cases p <;> rfl

theorem port_setPort_other {p q : Port} (h : q ≠ p) (x : PortState) (s : State) :
    (setPort p x s).port q = s.port q := by
  cases p <;> cases q <;> first | rfl | exact absurd rfl h

@[simp] theorem port_modPort_self (p : Port) (f : PortState → PortState) (s : State) :
    (modPort p f s).port p = f (s.port p) := port_setPort_self p _ s

theorem port_modPort_other {p q : Port} (h : q ≠ p) (f : PortState → PortState) (s : State) :
    (modPort p f s).port q = s.port q := port_setPort_other h _ s

@[simp] theorem setPort_setPort (p : Port) (x y : PortState) (s : State) :
    setPort p x (setPort p y s) = setPort p x s := by cases p <;> rfl

@[simp] theorem setPort_port (p : Port) (s : State) : setPort p (s.port p) s = s := by cases p <;> rfl

/-! ## Dock records -/

/-- Reading back the record just written (R2). -/
@[simp] theorem dock_setDock_self {d : Nat} (h : d < Config.docks) (k : Dock) (s : State) :
    (setDock d k s).dock d = k := by
  simp only [State.dock, setDock, Vector.getElem?_setIfInBounds_self]
  simp [h]

/-- A write to one dock leaves every other dock's record alone. -/
theorem dock_setDock_other {d e : Nat} (h : d ≠ e) (k : Dock) (s : State) : (setDock d k s).dock e = s.dock e := by
  simp only [State.dock, setDock]
  rw [Vector.getElem?_setIfInBounds_ne h]

@[simp] theorem dock_modDock_self {d : Nat} (h : d < Config.docks) (f : Dock → Dock) (s : State) :
    (modDock d f s).dock d = f (s.dock d) := dock_setDock_self h _ s

theorem dock_modDock_other {d e : Nat} (h : d ≠ e) (f : Dock → Dock) (s : State) :
    (modDock d f s).dock e = s.dock e := dock_setDock_other h _ s

/-- The record of any dock after a write. -/
theorem dock_setDock {d : Nat} (h : d < Config.docks) (k : Dock) (s : State) (e : Nat) :
    (setDock d k s).dock e = if d = e then k else s.dock e := by
  by_cases hde : d = e
  · subst hde; simp [h]
  · simp [hde, dock_setDock_other hde]

/-- A write to a number above 63 changes nothing. -/
theorem setDock_out {d : Nat} (h : Config.docks ≤ d) (k : Dock) (s : State) : setDock d k s = s := by
  have : s.docks.setIfInBounds d k = s.docks := Vector.setIfInBounds_eq_of_size_le h
  simp [setDock, this]

end Sys2Proof.Machine
end

