-- ==== Sys2Proof/Laws/Bus.lean ====
section
/-! SUPPORT. What the operations of the dock bus can change: nothing but the Dock Bus Controller and what it owes the
docks (`BusOnly`). One lemma for each operation, and one for each operation of the other blocks that respects it. -/

namespace Sys2Proof.Machine

/-! ## The relation -/

theorem BusOnly.refl (s : State) : BusOnly s s := ⟨rfl, fun _ => rfl⟩

theorem BusOnly.trans {s t u : State} (h : BusOnly s t) (k : BusOnly t u) : BusOnly s u := by
  obtain ⟨h1, h2⟩ := h
  obtain ⟨k1, k2⟩ := k
  refine ⟨?_, fun d => (k2 d).trans (h2 d)⟩
  rw [k1, h1]

theorem modBus_busOnly (f : Bus → Bus) (s : State) : BusOnly s (modBus f s) := ⟨rfl, fun _ => rfl⟩

/-- A change of a dock record in what is owed alone. -/
theorem modDock_busOnly (f : Dock → Dock) (h : ∀ k, (f k).unowed = k.unowed) (d : Nat) (s : State) :
    BusOnly s (modDock d f s) := by
  refine ⟨rfl, fun e => ?_⟩
  by_cases he : e = d
  · subst he
    by_cases hd : e < Config.docks
    · rw [dock_modDock_self hd, h]
    · rw [modDock, setDock_out (Nat.le_of_not_lt hd)]
  · rw [dock_modDock_other (Ne.symm he)]

/-! ## The operations -/

theorem placeOwedAt_busOnly (d : Nat) (s : State) : BusOnly s (placeOwedAt d s) := by
  unfold placeOwedAt
  split
  · exact .refl s
  · split
    · exact .refl s
    · refine BusOnly.trans ?_ (modBus_busOnly _ _)
      apply modDock_busOnly
      exact fun _ => rfl

theorem foldl_busOnly {α : Type} (f : State → α → State) (h : ∀ s a, BusOnly s (f s a)) (l : List α) (s : State) :
    BusOnly s (l.foldl f s) := by
  induction l generalizing s with
  | nil => exact .refl s
  | cons a l ih => exact (h s a).trans (ih _)

theorem placeOwed_busOnly (s : State) : BusOnly s (placeOwed s) :=
  foldl_busOnly _ (fun t d => placeOwedAt_busOnly d t) _ s

/-- With no lock due at an installed dock, the placements of R32 change nothing. -/
theorem placeOwed_none {s : State} (h : ∀ d, d < s.installed → (s.dock d).owed = none) : placeOwed s = s := by
  have hs : ∀ l : List Nat, (∀ d ∈ l, d < s.installed) → l.foldl (fun t d => placeOwedAt d t) s = s := by
    intro l hl
    induction l with
    | nil => rfl
    | cons d l ih =>
      have hd : placeOwedAt d s = s := by simp [placeOwedAt, h d (hl d List.mem_cons_self)]
      rw [List.foldl_cons, hd]
      exact ih fun e he => hl e (List.mem_cons_of_mem d he)
  exact hs _ fun d hd => List.mem_range.mp hd

theorem takeNext_busOnly (s : State) : BusOnly s (takeNext s) := by
  unfold takeNext
  split
  · exact .refl s
  · exact modBus_busOnly _ s
  · exact (modBus_busOnly _ s).trans (placeOwed_busOnly _)

theorem kick_busOnly (s : State) : BusOnly s (kick s) := by
  unfold kick
  split
  · exact takeNext_busOnly s
  · exact .refl s

theorem pollIfLow_busOnly (s : State) : BusOnly s (pollIfLow s) := by
  unfold pollIfLow
  split
  · exact (modBus_busOnly _ s).trans (kick_busOnly _)
  · exact .refl s

theorem placeQuiet_busOnly (kind : CmdKind) (owner : PlacingUnit) (d : Nat) (s : State) :
    BusOnly s (placeQuiet kind owner d s).1 := by
  unfold placeQuiet
  split
  · exact (modBus_busOnly _ s).trans (kick_busOnly _)
  · exact .refl s

theorem owe_busOnly (o : Owed) (d : Nat) (s : State) : BusOnly s (owe o d s) := by
  apply modDock_busOnly
  exact fun _ => rfl

theorem lockChange_busOnly (o : Owed) (d : Nat) (s : State) : BusOnly s (lockChange o d s).1 := by
  unfold lockChange
  dsimp only
  split
  · exact owe_busOnly o d s
  · split
    · exact owe_busOnly o d s
    · split
      · split
        · exact ⟨rfl, fun _ => rfl⟩
        · exact ⟨rfl, fun _ => rfl⟩
      · split
        · exact owe_busOnly o d s
        · exact ⟨rfl, fun _ => rfl⟩

theorem unlatchChange_busOnly {d : Nat} {s t : State} {c : Option Cmd} (h : unlatchChange d s = some (t, c)) :
    BusOnly s t := by
  unfold unlatchChange at h
  split at h
  · cases h
  · split at h <;> split at h <;> cases h
    · exact modBus_busOnly _ s
    · exact modBus_busOnly _ s

theorem withdraw_busOnly (d : Nat) (s : State) : BusOnly s (withdraw d s) := by
  unfold withdraw
  have h : ∀ k : Dock, (match k.owed with
      | some o => if o.owner = .release ∧ o.live then { k with owed := none } else k
      | none => k : Dock).unowed = k.unowed := by
    intro k
    split
    · split <;> rfl
    · rfl
  dsimp only
  split
  · exact (modDock_busOnly _ h d s).trans ((modBus_busOnly _ _).trans (placeOwed_busOnly _))
  · exact modDock_busOnly _ h d s

theorem orphan_busOnly (d : Nat) (s : State) : BusOnly s (orphan d s) :=
  BusOnly.trans (modDock_busOnly (fun k => { k with owed := k.owed.map fun o =>
    if o.owner = .release then { o with live := false } else o }) (fun _ => rfl) d s) (modBus_busOnly _ _)

theorem endOperation_busOnly (d : Nat) (s : State) : BusOnly s (endOperation d s) :=
  (withdraw_busOnly d s).trans (orphan_busOnly d _)

theorem endExchange_busOnly (s : State) : BusOnly s (endExchange s) := modBus_busOnly _ s

theorem sampleWire_busOnly (low : Bool) (s : State) : BusOnly s (sampleWire low s) := modBus_busOnly _ s

theorem ignoreFrame_busOnly (s : State) : BusOnly s (ignoreFrame s) := by
  unfold ignoreFrame
  split
  · exact .refl s
  · exact modBus_busOnly _ s

theorem moveOn_busOnly (s : State) : BusOnly s (moveOn s) :=
  (placeOwed_busOnly s).trans ((modBus_busOnly _ _).trans (kick_busOnly _))

theorem pollEnded_busOnly (s : State) : BusOnly s (pollEnded s) :=
  (endExchange_busOnly s).trans ((modBus_busOnly _ _).trans (moveOn_busOnly _))

/-- The placement of a LOCK or REJECT at a dock with nothing in hand drops no command. -/
theorem placeLock_busOnly (o : Owed) {d : Nat} {s : State} (h : nothingInHand d s = true) :
    BusOnly s (placeLock o d s) := by
  have hq : (lockChange o d s).2 = none := by
    simp only [nothingInHand, Bool.and_eq_true, Option.isNone_iff_eq_none] at h
    obtain ⟨⟨h1, h2⟩, h3⟩ := h
    unfold lockChange
    rw [h3, h2, h1]
    dsimp only
    split <;> rfl
  unfold placeLock
  have hb := lockChange_busOnly o d s
  split
  · rename_i hl
    rw [hl] at hq
    cases hq
  · rename_i s1 hl
    rw [hl] at hb
    exact hb.trans (kick_busOnly s1)

/-! ## Operations that respect the relation -/

/-- What a record of the Dock Table holds apart from what is owed is the same on both sides. -/
theorem BusOnly.dock {s t : State} (h : BusOnly s t) (d : Nat) : (t.dock d).unowed = (s.dock d).unowed := h.2 d

theorem BusOnly.modDock {s t : State} {f : Dock → Dock} (h : BusOnly s t)
    (hf : ∀ k l : Dock, k.unowed = l.unowed → (f k).unowed = (f l).unowed) (d : Nat) :
    BusOnly (modDock d f s) (Machine.modDock d f t) := by
  obtain ⟨h1, h2⟩ := h
  refine ⟨?_, fun e => ?_⟩
  · rw [h1]
    rfl
  · by_cases he : e = d
    · subst he
      by_cases hd : e < Config.docks
      · rw [dock_modDock_self hd, dock_modDock_self hd]
        exact hf _ _ (h2 e)
      · rw [Machine.modDock, Machine.modDock, setDock_out (Nat.le_of_not_lt hd), setDock_out (Nat.le_of_not_lt hd)]
        exact h2 e
    · rw [dock_modDock_other (Ne.symm he), dock_modDock_other (Ne.symm he)]
      exact h2 e

/-- An operation that reads and writes neither the bus nor the Dock Table respects the relation. -/
theorem BusOnly.map {s t : State} (h : BusOnly s t) (g : State → State)
    (hg : ∀ (u : State) (b : Bus) (k : Vector Dock Config.docks),
      g { u with bus := b, docks := k } = { g u with bus := b, docks := k }) :
    BusOnly (g s) (g t) := by
  obtain ⟨h1, h2⟩ := h
  have hs : g s = { g s with bus := s.bus, docks := s.docks } := hg s s.bus s.docks
  have ht : g t = { g s with bus := t.bus, docks := t.docks } := by
    rw [← hg s t.bus t.docks, ← h1]
  have e1 : (g t).bus = t.bus := by rw [ht]
  have e2 : (g t).docks = t.docks := by rw [ht]
  have e3 : (g s).docks = s.docks := by rw [hs]
  refine ⟨by rw [e1, e2]; exact ht, fun d => ?_⟩
  have := h2 d
  simp only [State.dock] at this ⊢
  rw [e2, e3]
  exact this

end Sys2Proof.Machine
end

