-- ==== Sys2Proof/Laws/Journal.lean ====
section
/-! SUPPORT. What raising a notice and entering a journal record can change: the journal and the pending lists of the
ports, nothing else (`Tells`), and what an entry does to the journal (R154, R159, R160, R173). -/

namespace Sys2Proof.Machine

/-! ## The relation -/

/-- `t` is `s` but for the journal and the pending lists of the three ports. -/
def Tells (s t : State) : Prop :=
  t = { s with
    journal := t.journal
    terminal := { s.terminal with pending := t.terminal.pending }
    uplink := { s.uplink with pending := t.uplink.pending }
    service := { s.service with pending := t.service.pending } }

theorem Tells.refl (s : State) : Tells s s := rfl

theorem Tells.trans {s t u : State} (h : Tells s t) (k : Tells t u) : Tells s u := by
  unfold Tells at *
  rw [k, h]

theorem journal_tells (j : Journal) (s : State) : Tells s { s with journal := j } := rfl

/-! ## The operations -/

theorem raise_tells (n : Notice) (s : State) : Tells s (raise n s) := by
  unfold raise modPort
  cases n.kind.port <;> rfl

theorem evalHeld_tells (s : State) : Tells s (evalHeld s) := by
  unfold evalHeld
  split
  · split
    · exact journal_tells _ s
    · exact .refl s
  · split
    · exact (journal_tells _ s).trans (raise_tells _ _)
    · exact .refl s

theorem appendRecord_tells (e : Entry) (s : State) : Tells s (appendRecord e s) := by
  unfold appendRecord
  dsimp only
  split
  · exact journal_tells _ s
  · refine Tells.trans ?_ (evalHeld_tells _)
    split
    · exact (journal_tells _ s).trans (raise_tells _ _)
    · exact journal_tells _ s

theorem frontOverrun_tells (s : State) : Tells s (frontOverrun s) := by
  unfold frontOverrun
  split
  · exact (appendRecord_tells _ s).trans (journal_tells _ _)
  · exact .refl s

/-- All that a record handed to the journal can change (R154, R159, R160). -/
theorem enterRecord_tells (e : Entry) (s : State) : Tells s (enterRecord e s) :=
  (frontOverrun_tells s).trans (appendRecord_tells e _)

/-! ## What a raise does to the lists -/

/-- A raise leaves the controllers of the other ports alone. -/
theorem port_raise_other {n : Notice} {p : Port} (h : p ≠ n.kind.port) (s : State) : (raise n s).port p = s.port p :=
  port_modPort_other h _ s

/-- A raise at the controller of its port (R173). -/
theorem port_raise_self (n : Notice) (s : State) :
    (raise n s).port n.kind.port = { s.port n.kind.port with pending := raiseIn n (s.port n.kind.port).pending } :=
  port_modPort_self _ _ s

/-- A notice raised is pending, whatever the list held before (R173). -/
theorem mem_raiseIn (n : Notice) (l : List Notice) : n ∈ raiseIn n l := by
  unfold raiseIn
  split
  · rename_i h
    obtain ⟨m, hm, hk⟩ := List.any_eq_true.mp h
    exact List.mem_map.mpr ⟨m, hm, if_pos hk⟩
  · simp

/-- The kinds after a raise: those before it, with the kind raised at the end if it was not among them (R173). -/
theorem kinds_raiseIn (n : Notice) (l : List Notice) :
    (raiseIn n l).map Notice.kind =
      if n.kind ∈ l.map Notice.kind then l.map Notice.kind else l.map Notice.kind ++ [n.kind] := by
  unfold raiseIn
  have hany : l.any (fun m => m.kind == n.kind) = true ↔ n.kind ∈ l.map Notice.kind := by
    simp [List.any_eq_true, List.mem_map]
  by_cases h : n.kind ∈ l.map Notice.kind
  · rw [if_pos (hany.mpr h), if_pos h, List.map_map]
    apply List.map_congr_left
    intro m _
    dsimp only [Function.comp]
    split
    · rename_i hk
      exact (beq_iff_eq.mp hk).symm
    · rfl
  · rw [if_neg (fun k => h (hany.mp k)), if_neg h]
    simp

/-- A list that holds each kind once still does after a raise (R173). -/
theorem nodup_raiseIn {n : Notice} {l : List Notice} (h : (l.map Notice.kind).Nodup) :
    ((raiseIn n l).map Notice.kind).Nodup := by
  rw [kinds_raiseIn]
  split
  · exact h
  · rename_i hn
    exact List.nodup_append.mpr ⟨h, by simp, fun a ha b hb hab => hn (by simp at hb; rw [← hb, ← hab]; exact ha)⟩

/-! ## The fields that a raise and an entry leave alone -/

theorem Tells.pending {s t : State} (h : Tells s t) : t.pending = s.pending := by
  unfold Tells at h; rw [h]
theorem Tells.clock {s t : State} (h : Tells s t) : t.clock = s.clock := by
  unfold Tells at h; rw [h]
theorem Tells.due {s t : State} (h : Tells s t) : t.due = s.due := by
  unfold Tells at h; rw [h]
theorem Tells.station {s t : State} (h : Tells s t) : t.station = s.station := by
  unfold Tells at h; rw [h]
theorem Tells.pinLow {s t : State} (h : Tells s t) : t.pinLow = s.pinLow := by
  unfold Tells at h; rw [h]
theorem Tells.settings {s t : State} (h : Tells s t) : t.settings = s.settings := by
  unfold Tells at h; rw [h]
theorem Tells.installed {s t : State} (h : Tells s t) : t.installed = s.installed := by
  unfold Tells at h; rw [h]
theorem Tells.docks {s t : State} (h : Tells s t) : t.docks = s.docks := by
  unfold Tells at h; rw [h]
theorem Tells.attrs {s t : State} (h : Tells s t) : t.attrs = s.attrs := by
  unfold Tells at h; rw [h]
theorem Tells.bus {s t : State} (h : Tells s t) : t.bus = s.bus := by
  unfold Tells at h; rw [h]
theorem Tells.cards {s t : State} (h : Tells s t) : t.cards = s.cards := by
  unfold Tells at h; rw [h]
theorem Tells.policies {s t : State} (h : Tells s t) : t.policies = s.policies := by
  unfold Tells at h; rw [h]
theorem Tells.authQueue {s t : State} (h : Tells s t) : t.authQueue = s.authQueue := by
  unfold Tells at h; rw [h]
theorem Tells.lastTag {s t : State} (h : Tells s t) : t.lastTag = s.lastTag := by
  unfold Tells at h; rw [h]
theorem Tells.link {s t : State} (h : Tells s t) : t.link = s.link := by
  unfold Tells at h; rw [h]
theorem Tells.hires {s t : State} (h : Tells s t) : t.hires = s.hires := by
  unfold Tells at h; rw [h]
theorem Tells.lastHire {s t : State} (h : Tells s t) : t.lastHire = s.lastHire := by
  unfold Tells at h; rw [h]
theorem Tells.tariffs {s t : State} (h : Tells s t) : t.tariffs = s.tariffs := by
  unfold Tells at h; rw [h]
theorem Tells.batch {s t : State} (h : Tells s t) : t.batch = s.batch := by
  unfold Tells at h; rw [h]
theorem Tells.bikeFaults {s t : State} (h : Tells s t) : t.bikeFaults = s.bikeFaults := by
  unfold Tells at h; rw [h]
theorem Tells.leakTimer {s t : State} (h : Tells s t) : t.leakTimer = s.leakTimer := by
  unfold Tells at h; rw [h]
theorem Tells.patrol {s t : State} (h : Tells s t) : t.patrol = s.patrol := by
  unfold Tells at h; rw [h]
theorem Tells.audit {s t : State} (h : Tells s t) : t.audit = s.audit := by
  unfold Tells at h; rw [h]

@[simp] theorem raise_pending (n : Notice) (s : State) : (raise n s).pending = s.pending := (raise_tells n s).pending
@[simp] theorem raise_clock (n : Notice) (s : State) : (raise n s).clock = s.clock := (raise_tells n s).clock
@[simp] theorem raise_due (n : Notice) (s : State) : (raise n s).due = s.due := (raise_tells n s).due
@[simp] theorem raise_station (n : Notice) (s : State) : (raise n s).station = s.station := (raise_tells n s).station
@[simp] theorem raise_pinLow (n : Notice) (s : State) : (raise n s).pinLow = s.pinLow := (raise_tells n s).pinLow
@[simp] theorem raise_settings (n : Notice) (s : State) : (raise n s).settings = s.settings := (raise_tells n s).settings
@[simp] theorem raise_installed (n : Notice) (s : State) : (raise n s).installed = s.installed := (raise_tells n s).installed
@[simp] theorem raise_docks (n : Notice) (s : State) : (raise n s).docks = s.docks := (raise_tells n s).docks
@[simp] theorem raise_attrs (n : Notice) (s : State) : (raise n s).attrs = s.attrs := (raise_tells n s).attrs
@[simp] theorem raise_bus (n : Notice) (s : State) : (raise n s).bus = s.bus := (raise_tells n s).bus
@[simp] theorem raise_cards (n : Notice) (s : State) : (raise n s).cards = s.cards := (raise_tells n s).cards
@[simp] theorem raise_policies (n : Notice) (s : State) : (raise n s).policies = s.policies := (raise_tells n s).policies
@[simp] theorem raise_authQueue (n : Notice) (s : State) : (raise n s).authQueue = s.authQueue := (raise_tells n s).authQueue
@[simp] theorem raise_lastTag (n : Notice) (s : State) : (raise n s).lastTag = s.lastTag := (raise_tells n s).lastTag
@[simp] theorem raise_link (n : Notice) (s : State) : (raise n s).link = s.link := (raise_tells n s).link
@[simp] theorem raise_hires (n : Notice) (s : State) : (raise n s).hires = s.hires := (raise_tells n s).hires
@[simp] theorem raise_lastHire (n : Notice) (s : State) : (raise n s).lastHire = s.lastHire := (raise_tells n s).lastHire
@[simp] theorem raise_tariffs (n : Notice) (s : State) : (raise n s).tariffs = s.tariffs := (raise_tells n s).tariffs
@[simp] theorem raise_batch (n : Notice) (s : State) : (raise n s).batch = s.batch := (raise_tells n s).batch
@[simp] theorem raise_bikeFaults (n : Notice) (s : State) : (raise n s).bikeFaults = s.bikeFaults := (raise_tells n s).bikeFaults
@[simp] theorem raise_leakTimer (n : Notice) (s : State) : (raise n s).leakTimer = s.leakTimer := (raise_tells n s).leakTimer
@[simp] theorem raise_patrol (n : Notice) (s : State) : (raise n s).patrol = s.patrol := (raise_tells n s).patrol
@[simp] theorem raise_audit (n : Notice) (s : State) : (raise n s).audit = s.audit := (raise_tells n s).audit
@[simp] theorem raise_journal (n : Notice) (s : State) : (raise n s).journal = s.journal := by
  unfold raise modPort; cases n.kind.port <;> rfl

@[simp] theorem enterRecord_pending (e : Entry) (s : State) : (enterRecord e s).pending = s.pending :=
  (enterRecord_tells e s).pending
@[simp] theorem enterRecord_clock (e : Entry) (s : State) : (enterRecord e s).clock = s.clock :=
  (enterRecord_tells e s).clock
@[simp] theorem enterRecord_due (e : Entry) (s : State) : (enterRecord e s).due = s.due :=
  (enterRecord_tells e s).due
@[simp] theorem enterRecord_station (e : Entry) (s : State) : (enterRecord e s).station = s.station :=
  (enterRecord_tells e s).station
@[simp] theorem enterRecord_pinLow (e : Entry) (s : State) : (enterRecord e s).pinLow = s.pinLow :=
  (enterRecord_tells e s).pinLow
@[simp] theorem enterRecord_settings (e : Entry) (s : State) : (enterRecord e s).settings = s.settings :=
  (enterRecord_tells e s).settings
@[simp] theorem enterRecord_installed (e : Entry) (s : State) : (enterRecord e s).installed = s.installed :=
  (enterRecord_tells e s).installed
@[simp] theorem enterRecord_docks (e : Entry) (s : State) : (enterRecord e s).docks = s.docks :=
  (enterRecord_tells e s).docks
@[simp] theorem enterRecord_attrs (e : Entry) (s : State) : (enterRecord e s).attrs = s.attrs :=
  (enterRecord_tells e s).attrs
@[simp] theorem enterRecord_bus (e : Entry) (s : State) : (enterRecord e s).bus = s.bus :=
  (enterRecord_tells e s).bus
@[simp] theorem enterRecord_cards (e : Entry) (s : State) : (enterRecord e s).cards = s.cards :=
  (enterRecord_tells e s).cards
@[simp] theorem enterRecord_policies (e : Entry) (s : State) : (enterRecord e s).policies = s.policies :=
  (enterRecord_tells e s).policies
@[simp] theorem enterRecord_authQueue (e : Entry) (s : State) : (enterRecord e s).authQueue = s.authQueue :=
  (enterRecord_tells e s).authQueue
@[simp] theorem enterRecord_lastTag (e : Entry) (s : State) : (enterRecord e s).lastTag = s.lastTag :=
  (enterRecord_tells e s).lastTag
@[simp] theorem enterRecord_link (e : Entry) (s : State) : (enterRecord e s).link = s.link :=
  (enterRecord_tells e s).link
@[simp] theorem enterRecord_hires (e : Entry) (s : State) : (enterRecord e s).hires = s.hires :=
  (enterRecord_tells e s).hires
@[simp] theorem enterRecord_lastHire (e : Entry) (s : State) : (enterRecord e s).lastHire = s.lastHire :=
  (enterRecord_tells e s).lastHire
@[simp] theorem enterRecord_tariffs (e : Entry) (s : State) : (enterRecord e s).tariffs = s.tariffs :=
  (enterRecord_tells e s).tariffs
@[simp] theorem enterRecord_batch (e : Entry) (s : State) : (enterRecord e s).batch = s.batch :=
  (enterRecord_tells e s).batch
@[simp] theorem enterRecord_bikeFaults (e : Entry) (s : State) : (enterRecord e s).bikeFaults = s.bikeFaults :=
  (enterRecord_tells e s).bikeFaults
@[simp] theorem enterRecord_leakTimer (e : Entry) (s : State) : (enterRecord e s).leakTimer = s.leakTimer :=
  (enterRecord_tells e s).leakTimer
@[simp] theorem enterRecord_patrol (e : Entry) (s : State) : (enterRecord e s).patrol = s.patrol :=
  (enterRecord_tells e s).patrol
@[simp] theorem enterRecord_audit (e : Entry) (s : State) : (enterRecord e s).audit = s.audit :=
  (enterRecord_tells e s).audit

@[simp] theorem raise_dock (n : Notice) (s : State) (d : Nat) : (raise n s).dock d = s.dock d := by
  simp only [State.dock, raise_docks]

@[simp] theorem enterRecord_dock (e : Entry) (s : State) (d : Nat) : (enterRecord e s).dock d = s.dock d := by
  simp only [State.dock, enterRecord_docks]

/-! ## An entry reads neither the bus nor the Dock Table -/

theorem raise_apart (n : Notice) (u : State) (b : Bus) (k : Vector Dock Config.docks) :
    raise n { u with bus := b, docks := k } = { raise n u with bus := b, docks := k } := by
  unfold raise modPort setPort State.port
  cases n.kind.port <;> rfl

theorem evalHeld_apart (u : State) (b : Bus) (k : Vector Dock Config.docks) :
    evalHeld { u with bus := b, docks := k } = { evalHeld u with bus := b, docks := k } := by
  unfold evalHeld State.depth
  dsimp only
  by_cases h1 : u.journal.held = true
  · rw [if_pos h1, if_pos h1]
    by_cases h2 : u.journal.records.length ≤ u.settings.lowerWatermark
    · rw [if_pos h2, if_pos h2]
    · rw [if_neg h2, if_neg h2]
  · rw [if_neg h1, if_neg h1]
    by_cases h2 : u.settings.upperWatermark ≤ u.journal.records.length
    · rw [if_pos h2, if_pos h2]
      exact raise_apart _ { u with journal := { u.journal with held := true } } b k
    · rw [if_neg h2, if_neg h2]

theorem appendRecord_apart (e : Entry) (u : State) (b : Bus) (k : Vector Dock Config.docks) :
    appendRecord e { u with bus := b, docks := k } = { appendRecord e u with bus := b, docks := k } := by
  unfold appendRecord
  dsimp only
  by_cases h1 : Config.journalPlaces ≤ u.journal.records.length
  · rw [if_pos h1, if_pos h1]
  · rw [if_neg h1, if_neg h1]
    let v : State := { u with journal := { u.journal with
        records := u.journal.records ++ [{ seq := u.journal.nextSeq, station := u.settings.stationNumber,
                                           minute := u.clock.minute, entry := e }]
        nextSeq := (u.journal.nextSeq + 1) % Config.sequenceNumbers } }
    by_cases h2 : u.journal.records.isEmpty = true
    · rw [if_pos h2, if_pos h2]
      exact (congrArg evalHeld (raise_apart (.journalData 1) v b k)).trans (evalHeld_apart _ b k)
    · rw [if_neg h2, if_neg h2]
      exact evalHeld_apart v b k

theorem frontOverrun_apart (u : State) (b : Bus) (k : Vector Dock Config.docks) :
    frontOverrun { u with bus := b, docks := k } = { frontOverrun u with bus := b, docks := k } := by
  unfold frontOverrun
  dsimp only
  by_cases h1 : u.journal.overrun = true ∧ u.journal.records.length < Config.journalPlaces
  · rw [if_pos h1, if_pos h1, appendRecord_apart]
  · rw [if_neg h1, if_neg h1]

theorem enterRecord_apart (e : Entry) (u : State) (b : Bus) (k : Vector Dock Config.docks) :
    enterRecord e { u with bus := b, docks := k } = { enterRecord e u with bus := b, docks := k } := by
  unfold enterRecord
  rw [frontOverrun_apart, appendRecord_apart]

end Sys2Proof.Machine
end

