-- ==== Sys2Proof/Laws/Blocks.lean ====
section
/-! SUPPORT. What the shared operations on a dock can change (`DockWork`): the Dock Table, the bus, the audit and patrol,
the journal and the pending lists; never a card, a hire, an authorization, the batch, a setting or the clock. And the
plain case of each operation, in which no retirement is pending and no batch is open. -/

namespace Sys2Proof.Machine

/-! ## The relation -/

/-- `t` is `s` but for the Dock Table, the bus, the audit, the patrol, the station state, the due marks, the journal and
the pending lists. -/
def DockWork (s t : State) : Prop :=
  t = { s with
    docks := t.docks, bus := t.bus, audit := t.audit, patrol := t.patrol, station := t.station, due := t.due
    journal := t.journal
    terminal := { s.terminal with pending := t.terminal.pending }
    uplink := { s.uplink with pending := t.uplink.pending }
    service := { s.service with pending := t.service.pending } }

theorem DockWork.refl (s : State) : DockWork s s := rfl

theorem DockWork.trans {s t u : State} (h : DockWork s t) (k : DockWork t u) : DockWork s u := by
  unfold DockWork at *
  rw [k, h]

theorem BusOnly.work {s t : State} (h : BusOnly s t) : DockWork s t := by
  unfold DockWork
  rw [h.1]

theorem Tells.work {s t : State} (h : Tells s t) : DockWork s t := by
  unfold DockWork
  unfold Tells at h
  rw [h]

theorem setDock_work (d : Nat) (k : Dock) (s : State) : DockWork s (setDock d k s) := rfl

theorem modDock_work (d : Nat) (f : Dock → Dock) (s : State) : DockWork s (modDock d f s) := rfl

theorem modAudit_work (f : Audit → Audit) (s : State) : DockWork s (modAudit f s) := rfl

theorem foldl_work {α : Type} (f : State → α → State) (h : ∀ s a, DockWork s (f s a)) (l : List α) (s : State) :
    DockWork s (l.foldl f s) := by
  induction l generalizing s with
  | nil => exact .refl s
  | cons a l ih => exact (h s a).trans (ih _)

/-! ## Dock states and reports -/

theorem enterRetired_work (d : Nat) (s : State) : DockWork s (enterRetired d s) :=
  ((modDock_work d Dock.asRetired s).trans (orphan_busOnly d _).work).trans
    (((enterRecord_tells _ _).trans (raise_tells _ _)).work)

theorem enterRetiredEmpty_work (d : Nat) (s : State) : DockWork s (enterRetiredEmpty d s) :=
  (modDock_work d _ s).trans (enterRetired_work d _)

theorem topUp_work (s : State) : DockWork s (topUp s) := by
  unfold topUp
  split
  · split
    · exact foldl_work _ (fun t d => modDock_work d _ t) _ s
    · exact .refl s
  · exact .refl s

theorem moveReservation_work (d : Nat) (s : State) : DockWork s (moveReservation d s) := by
  unfold moveReservation
  dsimp only
  split
  · exact (modDock_work d _ s).trans (modDock_work _ _ _)
  · exact modDock_work d _ s

theorem holdIfWanted_work (d : Nat) (s : State) : DockWork s (holdIfWanted d s) := by
  unfold holdIfWanted
  split
  · split
    · exact modDock_work d _ s
    · exact .refl s
  · exact .refl s

theorem becomeVacant_work (d : Nat) (s : State) : DockWork s (becomeVacant d s) := by
  unfold becomeVacant
  split
  · exact enterRetiredEmpty_work d s
  · exact (modDock_work d _ s).trans (topUp_work _)

theorem becomeHeld_work (d : Nat) (s : State) : DockWork s (becomeHeld d s) := by
  unfold becomeHeld
  split
  · exact enterRetired_work d s
  · exact (modDock_work d _ s).trans (holdIfWanted_work d _)

theorem applyPending_work (d : Nat) (s : State) : DockWork s (applyPending d s) := by
  unfold applyPending
  split
  · exact enterRetired_work d s
  · exact .refl s

theorem retireAtThreshold_work (d : Nat) (s : State) : DockWork s (retireAtThreshold d s) := by
  unfold retireAtThreshold
  split
  · exact enterRetired_work d s
  · exact enterRetired_work d s
  · exact (moveReservation_work d s).trans (enterRetired_work d _)
  · exact modDock_work d _ s
  · exact modDock_work d _ s
  · exact modDock_work d _ s
  · exact modDock_work d _ s
  · exact .refl s
  · exact .refl s

theorem reportDock_work (d : Nat) (c : Category) (severe : Bool) (s : State) : DockWork s (reportDock d c severe s) := by
  unfold reportDock
  split
  · exact .refl s
  · have h := (modDock_work d (fun k => { k with
        faultCount := countAfter severe s.settings.dockThreshold (s.dock d).faultCount }) s).trans
      (enterRecord_tells (.dockFault d c (countAfter severe s.settings.dockThreshold (s.dock d).faultCount)) _).work
    dsimp only
    split
    · exact h.trans (retireAtThreshold_work d _)
    · exact h

theorem anonymize_work (e : Nat) (s : State) : DockWork s (anonymize e s) := modDock_work e _ s

/-! ## Audits and placements -/

theorem placeQuiet_work (kind : CmdKind) (owner : PlacingUnit) (d : Nat) (s : State) :
    DockWork s (placeQuiet kind owner d s).1 := (placeQuiet_busOnly kind owner d s).work

theorem passOver_work (l : List Nat) (s : State) : DockWork s (passOver l s) := by
  induction l generalizing s with
  | nil => exact .refl s
  | cons d rest ih =>
    unfold passOver
    split
    · exact (modAudit_work _ s).trans (ih _)
    · split
      · exact ih s
      · have h := placeQuiet_work .status .patrol d s
        split
        · rename_i hp
          rw [hp] at h
          exact (h.trans (modAudit_work _ _)).trans (ih _)
        · rename_i hp
          rw [hp] at h
          exact h

theorem auditPass_work (s : State) : DockWork s (auditPass s) := by
  unfold auditPass
  split
  · exact .refl s
  · exact passOver_work _ s

theorem startInterval_work (s : State) : DockWork s (startInterval s) := by
  unfold startInterval
  split
  · rfl
  · exact .refl s

theorem auditEnd_work (s : State) : DockWork s (auditEnd s) := by
  unfold auditEnd
  split
  · split
    · exact .refl s
    · exact ((modAudit_work _ s).trans (raise_tells _ _).work).trans (startInterval_work _)
    · refine DockWork.trans (DockWork.trans ?_ (raise_tells _ _).work) (startInterval_work _)
      rfl
  · exact .refl s

theorem auditStep_work (s : State) : DockWork s (auditStep s) := (auditPass_work s).trans (auditEnd_work _)

theorem tryReread_work (d : Nat) (s : State) : DockWork s (tryReread d s) := by
  have h := placeQuiet_work .status .release d s
  unfold tryReread
  split
  · rename_i hp
    rw [hp] at h
    exact h.trans (modDock_work d _ _)
  · rename_i hp
    rw [hp] at h
    exact h

theorem handDropped_work (c : Cmd) (s : State) : DockWork s (handDropped c s) := by
  unfold handDropped
  split
  · split
    · exact (modAudit_work _ s).trans (auditStep_work _)
    · exact .refl s
  · split
    · exact (modDock_work _ _ s).trans (tryReread_work _ _)
    · exact .refl s
  · exact .refl s

theorem dropped_work (c : Cmd) (s : State) : DockWork s (dropped c s) := by
  unfold dropped
  split
  · have h := (lockChange_busOnly { kind := .lock, owner := .release, live := true } c.dock s).work
    split
    · rename_i hl
      rw [hl] at h
      exact (h.trans (modDock_work _ _ _)).trans (handDropped_work _ _)
    · rename_i hl
      rw [hl] at h
      exact h.trans (modDock_work _ _ _)
  · exact handDropped_work c s

/-- All that placing a LOCK or REJECT can change (R29, R36). -/
theorem placeLock_work (o : Owed) (d : Nat) (s : State) : DockWork s (placeLock o d s) := by
  have h := (lockChange_busOnly o d s).work
  unfold placeLock
  split
  · rename_i hl
    rw [hl] at h
    exact (h.trans (dropped_work _ _)).trans (kick_busOnly _).work
  · rename_i hl
    rw [hl] at h
    exact h.trans (kick_busOnly _).work

/-- All that placing an UNLATCH can change (R30, R36). -/
theorem placeUnlatch_work {d : Nat} {s t : State} (h : placeUnlatch d s = some t) : DockWork s t := by
  unfold placeUnlatch at h
  split at h
  · cases h
  · rename_i hu
    cases h
    exact ((unlatchChange_busOnly hu).work.trans (dropped_work _ _)).trans (kick_busOnly _).work
  · rename_i hu
    cases h
    exact (unlatchChange_busOnly hu).work.trans (kick_busOnly _).work

theorem placeSense_work (d : Nat) (s : State) : DockWork s (placeSense d s) := placeQuiet_work _ _ d s

theorem senseCheck_work (d : Nat) (s : State) : DockWork s (senseCheck d s) := by
  unfold senseCheck
  split
  · exact placeSense_work d s
  · exact .refl s

/-! ## The plain case of each operation -/

/-- A dock has nothing in hand in the model's Bool exactly when it has in the statements' words (R34). -/
theorem nothingInHand_iff (d : Nat) (s : State) : nothingInHand d s = true ↔ HandsFree d s := by
  simp only [nothingInHand, HandsFree, Bool.and_eq_true, Option.isNone_iff_eq_none, queuedAt, List.find?_eq_none,
    beq_iff_eq]
  constructor
  · rintro ⟨⟨h1, h2⟩, h3⟩
    refine ⟨h3, h1, fun x n hx hd => ?_⟩
    simp [inFlightAt, hx, hd] at h2
  · rintro ⟨h3, h1, h2⟩
    refine ⟨⟨h1, ?_⟩, h3⟩
    unfold inFlightAt
    split
    · rename_i f hf
      split
      · rename_i c hc
        obtain ⟨w, n⟩ := f
        cases hc
        exact if_neg (h2 c n hf)
      · rfl
    · rfl

theorem settled_held (k : Dock) : k.settled .held k.bike = heldRecord k := rfl

theorem vacated_eq (k : Dock) : k.vacated = vacantRecord k := rfl

theorem asRetired_eq (k : Dock) : k.asRetired = { vacantRecord k with state := .retired, bike := k.bike } := rfl

/-- The dock becomes HELD, with no retirement pending and no batch open (R4). -/
theorem becomeHeld_plain {d : Nat} {s : State} (h : (s.dock d).retirePending = false) (hb : s.batch = none) :
    becomeHeld d s = setDock d (heldRecord (s.dock d)) s := by
  unfold becomeHeld
  rw [if_neg (by simp [h])]
  unfold holdIfWanted
  simp only [modDock_batch, hb]
  rfl

/-- The dock becomes VACANT, with no retirement pending and no batch open (R4). -/
theorem becomeVacant_plain {d : Nat} {s : State} (h : (s.dock d).retirePending = false) (hb : s.batch = none) :
    becomeVacant d s = setDock d (vacantRecord (s.dock d)) s := by
  unfold becomeVacant
  rw [if_neg (by simp [h])]
  unfold topUp
  simp only [modDock_batch, hb]
  rfl

/-- An authorization ends at a dock with no retirement pending, with no batch open (R77). -/
theorem endAuth_plain {e : AuthEntry} {s : State} (r : Result) (h : (s.dock e.dock).retirePending = false)
    (hb : s.batch = none) :
    endAuth e r s = raise (.authDone e.tag r)
      { setDock e.dock (heldRecord (s.dock e.dock)) s with authQueue := s.authQueue.filter fun x => x.tag != e.tag } := by
  unfold endAuth
  rw [becomeHeld_plain]
  · rfl
  · exact h
  · exact hb

/-- A dock enters RETIRED: the record, the journal record and the notice, and the bus marks what runs on (R129). -/
theorem enterRetired_busOnly (d : Nat) (s : State) :
    BusOnly (raise (.dockRetired d) (enterRecord (.dockRetired d ((s.dock d).bike.map fun b => b.id.getD 0))
      (setDock d { vacantRecord (s.dock d) with state := .retired, bike := (s.dock d).bike } s))) (enterRetired d s) := by
  unfold enterRetired
  exact BusOnly.map (BusOnly.map (orphan_busOnly d _) (enterRecord _) (enterRecord_apart _)) (raise _) (raise_apart _)

/-- An entry and a raise respect the relation, one on each side. -/
theorem BusOnly.enter {s t : State} (h : BusOnly s t) (e : Entry) : BusOnly (enterRecord e s) (enterRecord e t) :=
  h.map (enterRecord e) (enterRecord_apart e)

theorem BusOnly.tell {s t : State} (h : BusOnly s t) (n : Notice) : BusOnly (raise n s) (raise n t) :=
  h.map (raise n) (raise_apart n)

/-- A report under a masked category changes nothing (R123). -/
theorem reportDock_masked {d : Nat} {c : Category} {severe : Bool} {s : State} (h : masked c s = true) :
    reportDock d c severe s = s := if_pos h

/-- A report that leaves the count below the threshold counts and is journaled, and does nothing else (R124). -/
theorem reportDock_below {d : Nat} {c : Category} {severe : Bool} {s : State} (h : masked c s = false)
    (hn : countAfter severe s.settings.dockThreshold (s.dock d).faultCount < s.settings.dockThreshold) :
    reportDock d c severe s =
      enterRecord (.dockFault d c (countAfter severe s.settings.dockThreshold (s.dock d).faultCount))
        (setDock d { s.dock d with
          faultCount := countAfter severe s.settings.dockThreshold (s.dock d).faultCount } s) := by
  unfold reportDock
  rw [if_neg (by simp [h])]
  dsimp only
  rw [if_neg (Nat.not_le.mpr hn)]
  rfl

/-- A minor report below the top of the count adds 1 (R124). -/
theorem countAfter_minor {threshold count : Nat} (h : count < 15) : countAfter false threshold count = count + 1 := by
  simp only [countAfter, Config.faultTop, Bool.false_eq_true, if_false]
  omega

/-- A severe report raises the count to the threshold (R124). -/
theorem countAfter_severe (threshold count : Nat) : countAfter true threshold count = max count threshold := rfl

/-- A report against a bike under a masked category, or that cannot be recorded, changes nothing (R123, R133). -/
theorem reportBike_masked {b : Nat} {c : Category} {severe : Bool} {s : State}
    (h : masked c s = true ∨ recordable b s = false) : reportBike b c severe s = s := by
  unfold reportBike
  rw [if_pos]
  rcases h with h | h <;> simp [h]

/-! ## Cards and hires -/

/-- The release of the hold of a cancelled hire, and its record's end: no other table changes (R73, R89). -/
theorem cancelHire_eq (r : Hire) (s : State) :
    cancelHire r s = { s with
      hires := s.hires.filter fun x => x.number != r.number
      cards := s.cards.map fun c => if c.id == r.card then
        { c with held := c.held - r.holdAmount, openCount := c.openCount - 1 } else c } := rfl

/-- The duration of a hire with a start minute (R92). -/
theorem hireDuration_eq {r : Hire} {S : Nat} (h : r.start = some S) (E : Nat) : hireDuration r E = E - S := by
  simp [hireDuration, h]

/-- A charge lies within its saturation (R92). -/
theorem charge_le (t : Terms) (kind : BikeKind) (D : Nat) : charge t kind D ≤ Config.chargeTop := Nat.min_le_right _ _

end Sys2Proof.Machine
end

