-- ==== Sys2Proof/Laws/Ports.lean ====
section
/-! SUPPORT. Requests: what a request that is taken does, in one lemma (`frameArrives_taken`), that what the part
reads and decides does not depend on a port's frames and notices, and what the resumed search finds. -/

namespace Sys2Proof.Machine

/-! ## Readings that no port changes -/

@[simp] theorem modPort_policy (p : Port) (f : PortState → PortState) (s : State) (i : Nat) :
    (modPort p f s).policy i = s.policy i := by cases p <;> rfl
@[simp] theorem modPort_tariff (p : Port) (f : PortState → PortState) (s : State) (i : Nat) :
    (modPort p f s).tariff i = s.tariff i := by cases p <;> rfl
@[simp] theorem modPort_group (p : Port) (f : PortState → PortState) (s : State) (i : Nat) :
    (modPort p f s).group i = s.group i := by cases p <;> rfl
@[simp] theorem modPort_now (p : Port) (f : PortState → PortState) (s : State) :
    (modPort p f s).now = s.now := by cases p <;> rfl
@[simp] theorem modPort_depth (p : Port) (f : PortState → PortState) (s : State) :
    (modPort p f s).depth = s.depth := by cases p <;> rfl
@[simp] theorem modPort_installedDocks (p : Port) (f : PortState → PortState) (s : State) :
    (modPort p f s).installedDocks = s.installedDocks := by cases p <;> rfl
@[simp] theorem findCard_modPort (p : Port) (f : PortState → PortState) (s : State) (i : Nat) :
    findCard i (modPort p f s) = findCard i s := by cases p <;> rfl
@[simp] theorem findHire_modPort (p : Port) (f : PortState → PortState) (s : State) (i : Nat) :
    findHire i (modPort p f s) = findHire i s := by cases p <;> rfl
@[simp] theorem findAuth_modPort (p : Port) (f : PortState → PortState) (s : State) (i : Nat) :
    findAuth i (modPort p f s) = findAuth i s := by cases p <;> rfl
@[simp] theorem authAt_modPort (p : Port) (f : PortState → PortState) (s : State) (i : Nat) :
    authAt i (modPort p f s) = authAt i s := by cases p <;> rfl
@[simp] theorem findBikeFault_modPort (p : Port) (f : PortState → PortState) (s : State) (i : Nat) :
    findBikeFault i (modPort p f s) = findBikeFault i s := by cases p <;> rfl
@[simp] theorem quarantinedId_modPort (p : Port) (f : PortState → PortState) (s : State) (i : Nat) :
    quarantinedId i (modPort p f s) = quarantinedId i s := by cases p <;> rfl
@[simp] theorem openHireOf_modPort (p : Port) (f : PortState → PortState) (s : State) (i : Nat) :
    openHireOf i (modPort p f s) = openHireOf i s := by cases p <;> rfl
@[simp] theorem startingHireAt_modPort (p : Port) (f : PortState → PortState) (s : State) (i : Nat) :
    startingHireAt i (modPort p f s) = startingHireAt i s := by cases p <;> rfl
@[simp] theorem effective_modPort (p : Port) (f : PortState → PortState) (s : State) (i : Nat) :
    effective i (modPort p f s) = effective i s := by cases p <;> rfl
@[simp] theorem verdict_modPort (p : Port) (f : PortState → PortState) (s : State) (i : Nat) :
    verdict i (modPort p f s) = verdict i s := by cases p <;> rfl
@[simp] theorem returnAllowed_modPort (p : Port) (f : PortState → PortState) (s : State) (i : Nat) :
    returnAllowed i (modPort p f s) = returnAllowed i s := by cases p <;> rfl
@[simp] theorem quarantined_modPort (p : Port) (f : PortState → PortState) (s : State) (k : Dock) :
    quarantined k (modPort p f s) = quarantined k s := by cases p <;> rfl
@[simp] theorem takeable_modPort (p : Port) (f : PortState → PortState) (s : State) (i : Nat) :
    takeable i (modPort p f s) = takeable i s := by cases p <;> rfl
@[simp] theorem eligible_modPort (p : Port) (f : PortState → PortState) (s : State) (i : Nat) :
    eligible i (modPort p f s) = eligible i s := by cases p <;> rfl
@[simp] theorem needsSense_modPort (p : Port) (f : PortState → PortState) (s : State) (i : Nat) :
    needsSense i (modPort p f s) = needsSense i s := by cases p <;> rfl
@[simp] theorem masked_modPort (p : Port) (f : PortState → PortState) (s : State) (c : Category) :
    masked c (modPort p f s) = masked c s := by cases p <;> rfl
@[simp] theorem kindAt_modPort (p : Port) (f : PortState → PortState) (s : State) (i : Nat) (k : BikeKind) :
    kindAt i k (modPort p f s) = kindAt i k s := by cases p <;> rfl
@[simp] theorem groupBusy_modPort (p : Port) (f : PortState → PortState) (s : State) (i : Nat) :
    groupBusy i (modPort p f s) = groupBusy i s := by cases p <;> rfl
@[simp] theorem countDocks_modPort (p : Port) (f : PortState → PortState) (s : State) (test : Nat → Bool) :
    countDocks test (modPort p f s) = countDocks test s := by cases p <;> rfl
@[simp] theorem queuedAt_modPort (p : Port) (f : PortState → PortState) (s : State) (i : Nat) :
    queuedAt i (modPort p f s) = queuedAt i s := by cases p <;> rfl
@[simp] theorem inFlightAt_modPort (p : Port) (f : PortState → PortState) (s : State) (i : Nat) :
    inFlightAt i (modPort p f s) = inFlightAt i s := by cases p <;> rfl
@[simp] theorem nothingInHand_modPort (p : Port) (f : PortState → PortState) (s : State) (i : Nat) :
    nothingInHand i (modPort p f s) = nothingInHand i s := by cases p <;> rfl
@[simp] theorem queueFull_modPort (p : Port) (f : PortState → PortState) (s : State) :
    queueFull (modPort p f s) = queueFull s := by cases p <;> rfl
@[simp] theorem reservedDocks_modPort (p : Port) (f : PortState → PortState) (s : State) :
    reservedDocks (modPort p f s) = reservedDocks s := by cases p <;> rfl
@[simp] theorem vanHoldDocks_modPort (p : Port) (f : PortState → PortState) (s : State) :
    vanHoldDocks (modPort p f s) = vanHoldDocks s := by cases p <;> rfl
@[simp] theorem batchReleases_modPort (p : Port) (f : PortState → PortState) (s : State) :
    batchReleases (modPort p f s) = batchReleases s := by cases p <;> rfl
@[simp] theorem freeHireNumber_modPort (p : Port) (f : PortState → PortState) (s : State) :
    freeHireNumber (modPort p f s) = freeHireNumber s := by cases p <;> rfl
@[simp] theorem freeAuthTag_modPort (p : Port) (f : PortState → PortState) (s : State) :
    freeAuthTag (modPort p f s) = freeAuthTag s := by cases p <;> rfl
@[simp] theorem bikeDocked_modPort (p : Port) (f : PortState → PortState) (s : State) (i : Nat) :
    bikeDocked i (modPort p f s) = bikeDocked i s := by cases p <;> rfl
@[simp] theorem recordable_modPort (p : Port) (f : PortState → PortState) (s : State) (i : Nat) :
    recordable i (modPort p f s) = recordable i s := by cases p <;> rfl
@[simp] theorem cardCheck_modPort (p : Port) (f : PortState → PortState) (s : State) (c : Card) (k : BikeKind) :
    cardCheck c k (modPort p f s) = cardCheck c k s := by cases p <;> rfl
@[simp] theorem namedDock_modPort (p : Port) (f : PortState → PortState) (s : State) (i : Nat) (k : BikeKind) :
    namedDock i k (modPort p f s) = namedDock i k s := by cases p <;> rfl
@[simp] theorem candidates_modPort (p : Port) (f : PortState → PortState) (s : State) (k : BikeKind) :
    candidates k (modPort p f s) = candidates k s := by cases p <;> rfl
@[simp] theorem dockStep_modPort (p : Port) (f : PortState → PortState) (s : State) (i : Nat) (k : BikeKind) :
    dockStep i k (modPort p f s) = dockStep i k s := by cases p <;> rfl
@[simp] theorem cardStep_modPort (p : Port) (f : PortState → PortState) (s : State) (i : Nat) (k : BikeKind) :
    cardStep i k (modPort p f s) = cardStep i k s := by cases p <;> rfl
@[simp] theorem hireableCount_modPort (p : Port) (f : PortState → PortState) (s : State) :
    hireableCount (modPort p f s) = hireableCount s := by cases p <;> rfl
@[simp] theorem dockFields_modPort (p : Port) (f : PortState → PortState) (s : State) (i : Nat) :
    dockFields i (modPort p f s) = dockFields i s := by cases p <;> rfl
@[simp] theorem restoreRefusal_modPort (p : Port) (f : PortState → PortState) (s : State) (x : Restore) :
    restoreRefusal x (modPort p f s) = restoreRefusal x s := by cases p <;> rfl
@[simp] theorem policyIndexOf_modPort (p : Port) (f : PortState → PortState) (s : State) (i : Nat) :
    policyIndexOf i (modPort p f s) = policyIndexOf i s := by cases p <;> rfl
@[simp] theorem balanceOf_modPort (p : Port) (f : PortState → PortState) (s : State) (i : Nat) :
    balanceOf i (modPort p f s) = balanceOf i s := by cases p <;> rfl
@[simp] theorem bikeCount_modPort (p : Port) (f : PortState → PortState) (s : State) (i : Nat) :
    bikeCount i (modPort p f s) = bikeCount i s := by cases p <;> rfl
@[simp] theorem recordedElsewhere_modPort (p : Port) (f : PortState → PortState) (s : State) (i j : Nat) :
    recordedElsewhere i j (modPort p f s) = recordedElsewhere i j s := by cases p <;> rfl
@[simp] theorem isDelivery_modPort (p : Port) (f : PortState → PortState) (s : State) (i j : Nat) :
    isDelivery i j (modPort p f s) = isDelivery i j s := by cases p <;> rfl

/-! ## A request that is taken -/

/-- The state in which a request that has completed is answered: no partial frame is left at its port (R166). -/
abbrev received (p : Port) (s : State) : State := modPort p (fun x => { x with partialFrame := [] }) s

/-- What a request does that is taken and passes the checks of R169: if the rule of its block answers the result `r` with
the fields `reply` and makes `u` of the state, the state after the frame is `u` with the reply in transmission (R165,
R168, R169). -/
theorem frameArrives_taken {code tag : Byte} {p : Port} {fields : List Byte} {s u : State} {r : Result}
    {reply : List ReplyField} {rule : List Byte → Port → State → Answer}
    (h : Taken code p fields s) (hr : blockRule code = some rule) (hc : replyCode code = code + 0x80#8)
    (ha : rule fields p (received p s) = (received p u, r, reply)) :
    frameArrives p code tag fields s = WithReply code tag p r reply u := by
  obtain ⟨⟨h1, h2, h3⟩, h4⟩ := h
  have hs : (received p s).station = s.station := by simp
  have hw : ((received p s).port p).waiting = none := by simp [h3]
  have hn : ((received p s).port p).reply = none := by simp [h2]
  unfold frameArrives frameCompletes
  rw [if_neg (by simp [h1]), if_neg (by rw [hw]; simp), if_neg (by rw [hn]; simp)]
  unfold takeFrame answerTo
  dsimp only
  rw [hs, h4]
  dsimp only
  rw [hr]
  dsimp only
  rw [ha]
  unfold sendReply WithReply
  rw [hc]
  cases p <;> rfl

/-- The same for a request that changes nothing but its port's reply. -/
theorem frameArrives_reads {code tag : Byte} {p : Port} {fields : List Byte} {s : State} {r : Result}
    {reply : List ReplyField} {rule : List Byte → Port → State → Answer}
    (h : Taken code p fields s) (hr : blockRule code = some rule) (hc : replyCode code = code + 0x80#8)
    (ha : ∀ t : State, t = received p s → rule fields p t = (t, r, reply)) :
    frameArrives p code tag fields s = Reads code tag p r reply s :=
  frameArrives_taken h hr hc (ha _ rfl)

/-- A request frame that fails a check of R169 is answered with its result and no fields. -/
theorem frameArrives_refused {code tag : Byte} {p : Port} {fields : List Byte} {s : State} {r : Result}
    (h : Free p s) (hc : replyCode code = code + 0x80#8) (hp : portChecks code p fields s.station = some r) :
    frameArrives p code tag fields s = Reads code tag p r [] s := by
  obtain ⟨h1, h2, h3⟩ := h
  have hs : (received p s).station = s.station := by simp
  have hw : ((received p s).port p).waiting = none := by simp [h3]
  have hn : ((received p s).port p).reply = none := by simp [h2]
  unfold frameArrives frameCompletes
  rw [if_neg (by simp [h1]), if_neg (by rw [hw]; simp), if_neg (by rw [hn]; simp)]
  unfold takeFrame answerTo
  dsimp only
  rw [hs, hp]
  unfold sendReply Reads WithReply refuse
  rw [hc]
  cases p <;> rfl

/-! ## The search over bytes already received (R166) -/

theorem search_nil (n : Nat) : search n [] = (none, []) := by cases n <;> rfl

theorem search_skip {b : Byte} (h : b ≠ portStart) (n : Nat) (rest : List Byte) :
    search (n + 1) (b :: rest) = search n rest := if_neg h

/-- Bytes with no 0x7E among them are passed over. -/
theorem search_past (before : List Byte) (h : portStart ∉ before) (n : Nat) (rest : List Byte) :
    search (before.length + n) (before ++ rest) = search n rest := by
  induction before with
  | nil => simp
  | cons b l ih =>
    have hb : b ≠ portStart := fun e => h (e ▸ List.mem_cons_self)
    rw [List.length_cons, Nat.add_right_comm, List.cons_append, search_skip hb,
      ih fun hm => h (List.mem_cons_of_mem b hm)]

/-- A 0x7E whose length is good and whose bytes have not all come is where the port stands. -/
theorem search_stands {length : Byte} {more : List Byte} (hg : goodLength length = true)
    (hc : frameComplete (length :: more) = false) (n : Nat) :
    search (n + 1) (portStart :: length :: more) = (none, portStart :: length :: more) := by
  simp [search, hg, hc]

/-- A complete frame of a good check is found, with the bytes after it. -/
theorem search_found {length : Byte} {more : List Byte} (hg : goodLength length = true)
    (hc : frameComplete (length :: more) = true) (hk : frameChecks (length :: more) = true) (n : Nat) :
    search (n + 1) (portStart :: length :: more) = (some (frameOf length more), more.drop (length.toNat + 2)) := by
  simp [search, hg, hc, hk]

/-- A search that completes no frame leaves the bytes of the attempt it stands in, and changes nothing else. -/
theorem searchOn_stands {p : Port} {s : State} {left : List Byte}
    (h : search (s.port p).partialFrame.length (s.port p).partialFrame = (none, left)) (n : Nat) :
    searchOn (n + 1) p s = modPort p (fun x => { x with partialFrame := left }) s := by
  simp [searchOn, h]

/-- A search that completes a frame hands it on and goes on behind it. -/
theorem searchOn_found {p : Port} {s : State} {fr : Frame} {rest : List Byte}
    (h : search (s.port p).partialFrame.length (s.port p).partialFrame = (some fr, rest)) (n : Nat) :
    searchOn (n + 1) p s =
      searchOn n p (frameCompletes fr p (modPort p (fun x => { x with partialFrame := rest }) s)) := by
  simp [searchOn, h]

end Sys2Proof.Machine
end

