-- ==== Sys2Proof/Tests/Slice0.lean ====
section
/-! SUPPORT. Tests: the checks of well-formedness refuse ill-formed commands; worked examples of the manual; and for each
statement with hypotheses a concrete state and operands that meet them, clause by clause. -/

namespace Sys2Proof.Tests

/- One theorem after the other: evaluated side by side, their stacks pass the memory limit of the check. -/
set_option Elab.async false

open Sys2Proof Sys2Proof.Machine

/-! ## Well-formedness: an ill-formed command for each check -/

theorem test_wf_window_dock : (Instr.releaseWindowExpiry 64).wellFormed = false ∧
    (Instr.releaseWindowExpiry 63).wellFormed = true := by decide
theorem test_wf_eject_dock : (Instr.ejectWindowExpiry 64).wellFormed = false := by decide
theorem test_wf_sense_dock : (Instr.senseTimerExpiry 64).wellFormed = false := by decide
theorem test_wf_frame_length : (Instr.dockFrameIgnored [0xA5#8, 2#8, 0x81#8] false).wellFormed = false ∧
    (Instr.dockFrameIgnored [0xA5#8, 2#8, 0x81#8, 0x83#8] false).wellFormed = true := by decide
theorem test_wf_reply_dock : (Instr.opened 64#8).wellFormed = false ∧ (Instr.lockedEmpty 64#8).wellFormed = false ∧
    (Instr.senseStarted 64#8).wellFormed = false ∧ (Instr.lockedWith 64#8 0#24 0#8).wellFormed = false ∧
    (Instr.statusIs 64#8 0#24 0#8).wellFormed = false := by decide
theorem test_wf_event_dock : (Instr.inserted 64#8 0#24 0#8 false).wellFormed = false ∧
    (Instr.removed 64#8 false).wellFormed = false ∧ (Instr.lockFault 64#8 false).wellFormed = false ∧
    (Instr.senseDone 64#8 0#8 false).wellFormed = false := by decide
theorem test_wf_no_event_dock : (Instr.noEvent 0#8).wellFormed = false := by decide
theorem test_wf_bad_check : (Instr.requestFrameBadCheck .uplink [2#8]).wellFormed = false := by decide
theorem test_wf_fields_fit : (Instr.cardSet .uplink 0#8 (List.replicate 249 0#8)).wellFormed = false := by decide +kernel
theorem test_wf_unknown_code : (Instr.unknownRequest .uplink 0x20#8 0#8 []).wellFormed = false := by decide
theorem test_wf_attempt_length : (Instr.frameAttemptEnded .uplink 2#8).wellFormed = false := by decide
theorem test_wf_kind_byte : (Instr.dockFrameKindDiscarded 0#8 0x81#8).wellFormed = false := by decide

/-! ## Worked examples of the manual -/

/-- The power-on tariff (R90) with discount 0. -/
def tariff0 : Terms := { a := 30, b := 30, p := 100, q := 50, c := 1500, discount := 0, maxDuration := 1440 }

/-- The worked cases of the charge, section 5.2. -/
theorem test_charge_cases :
    [charge tariff0 .standard 0, charge tariff0 .standard 30, charge tariff0 .standard 31, charge tariff0 .standard 60,
     charge tariff0 .standard 61, charge tariff0 .electric 90, charge tariff0 .standard 1440,
     charge tariff0 .standard 1441] = [0, 0, 100, 100, 200, 300, 1500, 3000] := by decide

/-- The settlement word of hire 906, section 9.2: marker 0, charge 1,800, balance −300, duration 1,500, dock 8. -/
theorem test_record_word :
    let r : Record := { seq := 1, station := 1, minute := 2, entry := .hireClose 906 5 6 (.dock 8) 1500 1800 (-300) }
    numAt r.bytes 23 2 = 8 ∧ numAt r.bytes 25 7 = 1800 * 2 ^ 35 + 2096852 * 2 ^ 14 + 1500 := by decide +kernel

/-- LOCK for dock 5 on the dock bus: marker, dock, kind, sum (R20). -/
theorem test_lock_bytes :
    (OnBus.command { kind := .lock, dock := 5, owner := .release, live := true }).bytes =
      [0xA5#8, 5#8, 0x02#8, 0x07#8] := by decide

/-- LOCKED_WITH from dock 5 with bike 40,117 (0x009CB5), the worked example of R20, and the same with a wrong check. -/
theorem test_locked_with_bytes :
    readReply [0xA5#8, 5#8, 0x82#8, 0#8, 0x9C#8, 0xB5#8, 0#8, 0xD8#8] = some (5#8, .lockedWith 40117#24 0#8) ∧
      readReply [0xA5#8, 5#8, 0x82#8, 0#8, 0x9C#8, 0xB5#8, 0#8, 0xD9#8] = none := by decide

/-- CRC of "123456789" under polynomial 0x1021 from 0xFFFF is 0x29B1, the check value of this CRC (R165). -/
theorem test_crc : crc16 [0x31#8, 0x32#8, 0x33#8, 0x34#8, 0x35#8, 0x36#8, 0x37#8, 0x38#8, 0x39#8] = 0x29B1#16 := by
  decide +kernel

/-- Step 4 of the worked example of nested notices, section 10.4: AUTH_DONE asserts ATTN past DOCK_OPEN in service. -/
theorem test_attn_nested :
    let t (l : List Notice) : State := { State.reset with
      terminal := { PortState.powerOn with pending := l, inService := [.hireDockOpen] } }
    attn .terminal (t [.bikeTaken 6 1318]) = false ∧ attn .terminal (t [.bikeTaken 6 1318, .authDone 7 .ok]) = true := by
  decide +kernel

/-- From reset, POWER_ON at the front of the queue runs, and takes the STATUS of dock 0 onto the bus. -/
theorem test_step_power_on :
    (match core.step { State.reset with pending := [.powerOn false] } with
     | .next t => t.bus.inFlight == some { what := .command (auditStatus 0), ticks := none } && t.bus.queue.length == 16
     | _ => false) = true := by decide +kernel

/-! ## States for the witnesses -/

/-- A READY station of 8 docks with no audit, nothing queued and every port free. -/
def ready : State := { State.reset with
  station := .ready, installed := 8, audit := { kind := .idle, toDo := [], outstanding := [], mismatches := 0, counted := [] } }

/-- The same with the bus changed. -/
def onBus (f : Bus → Bus) : State := modBus f ready

/-- An EVENT_POLL on the bus. -/
def polling : State := onBus fun b => { b with inFlight := some { what := .poll, ticks := some 1 } }

/-- A command of a unit on the bus, for the operation in progress. -/
def sending (kind : CmdKind) (d : Nat) (owner : PlacingUnit) (s : State) : State :=
  modBus (fun b => { b with inFlight := some { what := .command { kind := kind, dock := d, owner := owner, live := true },
                                               ticks := some 3 } }) s

/-- A queue of `n` patrol STATUS commands for the docks from 20 on. -/
def queued (n : Nat) : List Cmd := (List.range n).map fun i => auditStatus (20 + i)

/-- Bike 5. -/
def bike5 : Bike := arrivedBike (some 5) .standard 0

/-- A record in a state, with a bike and an owner. -/
def record (st : DockState) (bike : Option Bike) (owner : Option Owner) (phase : Option Phase) : Dock :=
  { Dock.powerOn with state := st, bike := bike, owner := owner, phase := phase }

/-- Dock 2 with a record. -/
def dock2 (k : Dock) (s : State) : State := setDock 2 k s

/-- Card 9, GOOD, with a balance of 5,000. -/
def card9 : Card :=
  { id := 9, subscriber := false, concession := false, deposit := false, standing := .good, balance := 5000, held := 0,
    openCount := 0, lastUse := 0 }

/-- Hire 7 of bike 5 on card 9, released from dock 2. -/
def hire7 (st : HireState) (start : Option Nat) : Hire :=
  { number := 7, state := st, card := 9, policyIndex := 0, bike := 5, kind := .standard, dockFrom := some 2, start := start,
    holdAmount := 3000, origin := .home, terms := tariff0 }

/-- Card 9 and hire 7 in the tables. -/
def hired (st : HireState) (start : Option Nat) (s : State) : State :=
  { s with hires := [hire7 st start], cards := [{ card9 with held := 3000, openCount := 1 }] }

/-- Bytes of a request: one for each number. -/
def bytes (l : List Nat) : List Byte := l.map (BitVec.ofNat 8)

/-- A dock with nothing in hand, from the model's test of it. -/
theorem handsFree {d : Nat} {s : State} (h : nothingInHand d s = true) : HandsFree d s := (nothingInHand_iff d s).mp h

/-! ## Witnesses: power-on, resets and the clock -/

theorem witness_StepTakesFront :
    (polling.pending = [] ∧ { polling with pending := [.leak, .secondTick] }.pending = .leak :: [.secondTick]) := by decide

theorem witness_StartUpBegins :
    let s : State := { ready with
      pinLow := true, bus := emptyBus false
      audit := { kind := .startUp, toDo := List.range 8, outstanding := [], mismatches := 0, counted := [] } }
    s.pinLow = true ∧ 0 < s.installed ∧ s.bus = emptyBus s.bus.attentionLow ∧
      s.audit = { kind := .startUp, toDo := List.range s.installed, outstanding := [], mismatches := 0, counted := [] } ∧
      ∀ d, d < s.installed → (s.dock d).owed = none := by decide +kernel

theorem witness_StationReset :
    (ready.installed ≤ ready.settings.docksNext ∧ 8 ≤ ready.settings.docksNext ∧ ready.settings.docksNext ≤ 64 ∧
      ready.pinLow = false ∧ Taken 0x36#8 .uplink [] ready) ∧
    (let fewer : State := { ready with installed := 9, settings := { ready.settings with docksNext := 8 } }
     let held := setDock 8 (record .held (some bike5) none none) fewer
     let starting : State := { setDock 8 (record .releasing (some bike5) (some (.hire 7)) (some .opened)) fewer with
       hires := [{ hire7 .starting none with dockFrom := some 8 }] }
     (fewer.pinLow = false ∧ fewer.settings.docksNext = 8 ∧ fewer.installed = 8 + 1 ∧ fewer.batch = none ∧
       (fewer.dock 8).bike = none ∧ startingHireAt 8 fewer = none) ∧
     (held.pinLow = false ∧ held.settings.docksNext = 8 ∧ held.installed = 8 + 1 ∧ held.batch = none ∧
       (held.dock 8).bike = some bike5) ∧
     (starting.pinLow = false ∧ starting.settings.docksNext = 8 ∧ starting.installed = 8 + 1 ∧ starting.batch = none ∧
       startingHireAt 8 starting = some { hire7 .starting none with dockFrom := some 8 })) := by decide +kernel

/-- A state at a second of a minute, with nothing waiting. -/
theorem nothingWaits_at (minute second : Nat) (taken : Bool) :
    NothingWaits { ready with
      clock := { minute := minute, second := second }
      due := { { ready.due with minuteTaken := taken } with minuteTaken := false } } := by
  have h : ∀ d, d < ready.installed → windowDue .opened (ready.dock d) = false ∧
      windowDue .ejectOpen (ready.dock d) = false ∧ senseDue (ready.dock d) = false := by decide +kernel
  exact And.intro rfl (And.intro (fun _ he => nomatch he) (And.intro h (fun _ hf => nomatch hf)))

theorem witness_SecondTickCounts :
    let at_ (minute second : Nat) (taken : Bool) : State := { ready with
      clock := { minute := minute, second := second }, due := { ready.due with minuteTaken := taken } }
    (NothingWaits { at_ 1 0 true with due := { (at_ 1 0 true).due with minuteTaken := false } } ∧
      (at_ 1 0 true).due.minuteTaken = true ∧ (at_ 1 0 true).clock.second < 60) ∧
    (NothingWaits { at_ 0 58 false with due := { (at_ 0 58 false).due with minuteTaken := false } } ∧
      (at_ 0 58 false).due.minuteTaken = false ∧ (at_ 0 58 false).clock.second < 59) ∧
    (NothingWaits { at_ 4294967295 59 false with due := { (at_ 4294967295 59 false).due with minuteTaken := false } } ∧
      (at_ 4294967295 59 false).clock.second = 59 ∧ 4294967295 ≤ (at_ 4294967295 59 false).clock.minute) ∧
    (NothingWaits { at_ 4294967294 59 false with due := { (at_ 4294967294 59 false).due with minuteTaken := false } } ∧
      (at_ 4294967294 59 false).clock.second = 59 ∧ (at_ 4294967294 59 false).clock.minute < 4294967295 ∧
      ((at_ 4294967294 59 false).hires.map Hire.number).Nodup) :=
  ⟨⟨nothingWaits_at 1 0 true, rfl, by decide⟩, ⟨nothingWaits_at 0 58 false, rfl, by decide⟩,
    ⟨nothingWaits_at 4294967295 59 false, rfl, by decide⟩, nothingWaits_at 4294967294 59 false, rfl, by decide, by decide⟩

/-- The tick that ends a minute: the counter and the sub-count change in one act, and a hire at its max duration is
OVERDUE at once (R96, R183). -/
theorem test_minute_ends_in_one_act :
    let s : State := { hired .out (some 0) ready with clock := { minute := 1439, second := 59 } }
    (match exec .secondTick s with
     | .next t => t.clock == { minute := 1440, second := 0 } && t.hires.map Hire.state == [.overdue]
     | _ => false) = true := by decide +kernel

theorem witness_MinutesAdvance :
    (let s : State := { hired .out (some 0) ready with clock := { minute := 4294967294, second := 59 } }
     s.clock.second = 59 ∧ s.clock.minute < 4294967295 ∧ (s.hires.map Hire.number).Nodup) ∧
    (let s : State := { ready with clock := { minute := 4294967295, second := 59 } }
     ready.clock.second < 59 ∧ 4294967295 ≤ s.clock.minute) ∧
    (let s : State := { ready with clock := { minute := 10, second := 3 } }
     (s.hires.map Hire.number).Nodup ∧ Taken 0x35#8 .uplink (bytes [0, 0, 0, 9]) s ∧
       numAt (bytes [0, 0, 0, 9]) 0 4 < s.clock.minute ∧ Taken 0x35#8 .uplink (bytes [0, 0, 0, 10]) s ∧
       ¬ numAt (bytes [0, 0, 0, 10]) 0 4 < s.clock.minute) := by decide +kernel

theorem witness_ClockNeverRunsBack :
    clockLaw ready = true ∧ step ready = .next ready ∧ ∀ low, ready.pending.head? ≠ some (.powerOn low) := by
  refine ⟨by decide, rfl, ?_⟩
  intro low h
  cases h

/-! ## Witnesses: the Dock Table -/

theorem witness_HireableVerdict :
    let held := dock2 (record .held (some bike5) none none) ready
    let charging (level : Nat) : State := { dock2 (record .held (some { bike5 with
        kind := .electric, charge := some { level := level, minute := 0 } }) none none) ready with
      settings := { ready.settings with attributeEnable := 1 }
      attrs := ready.attrs.setIfInBounds 0 { releasePermitted := true, returnPermitted := true, cls := .charging } }
    (modDock 2 (fun k => { k with vanHold := true }) held).dock 2 =
        { record .held (some bike5) none none with vanHold := true } ∧
      (effective 2 { held with
        settings := { ready.settings with attributeEnable := 1 }
        attrs := ready.attrs.setIfInBounds 0 { releasePermitted := false, returnPermitted := true, cls := .standard }
        }).releasePermitted = false ∧
      ((charging 24).settings.minCharge = 25 ∧ ((charging 24).dock 2).bike.bind Bike.charge = some { level := 24, minute := 0 } ∧
        (effective 2 (charging 24)).cls = .charging) ∧
      ((charging 25).settings.minCharge = 25 ∧ ((charging 25).dock 2).bike.bind Bike.charge = some { level := 25, minute := 0 }) ∧
      (held.dock 2).bike = some bike5 ∧ (ready.dock 2).bike = none := by decide +kernel

theorem witness_DockReadAndList :
    Taken 0x08#8 .terminal (bytes [7]) ready ∧ numAt (bytes [7]) 0 1 < ready.installed ∧
    Taken 0x08#8 .terminal (bytes [8]) ready ∧ ready.installed ≤ numAt (bytes [8]) 0 1 ∧
    Taken 0x13#8 .service [] ready ∧ Free .terminal { ready with station := .starting } ∧ Free .uplink ready := by decide +kernel

theorem witness_AttrSet :
    let busy := dock2 (record .claimed (some bike5) none none) ready
    Taken 0x2A#8 .uplink (bytes [15, 1, 0, 3]) ready ∧ Taken 0x2A#8 .uplink (bytes [16, 1, 0, 3]) ready ∧
    Taken 0x2A#8 .uplink (bytes [0, 1, 0, 3]) busy ∧ 2 < busy.installed ∧ 2 / 4 = 0 ∧ (busy.dock 2).state = .claimed ∧
    ¬ (∃ d, d < ready.installed ∧ (ready.dock d).state = .claimed) ∧ Free .service ready ∧
    Free .uplink { ready with station := .starting } ∧ (bytes [15, 1, 0, 3]).length = 4 := by decide +kernel

/-! ## Witnesses: the dock bus -/

theorem witness_AttentionPlacesPoll :
    ready.pinLow = false ∧ ready.bus.pollSlot = false ∧ ready.bus.holdoff = false ∧ ready.bus.inFlight = none ∧
    ready.bus.handing = false ∧ ready.bus.queue = [] ∧ polling.pinLow = false ∧ polling.bus.pollSlot = false ∧
    polling.bus.holdoff = false ∧ polling.bus.inFlight.isSome ∧
    { polling with due := { Due.nothing with holdoff := true } }.due.holdoff = true ∧
    (onBus fun b => { b with holdoff := true }).bus.holdoff = true := by decide +kernel

theorem witness_NoEventTakesNext :
    let waits := modBus (fun b => { b with queue := [auditStatus 3, auditStatus 4], pollSlot := true }) polling
    let lock : Cmd := { kind := .lock, dock := 5, owner := .release, live := true }
    let locks := modBus (fun b => { b with queue := [auditStatus 3, lock, auditStatus 4] }) polling
    (pollInFlight polling = true ∧ polling.pinLow = false ∧ (∀ d, d < polling.installed → (polling.dock d).owed = none) ∧
      polling.bus.queue = [] ∧ polling.bus.pollSlot = false) ∧
    (pollInFlight waits = true ∧ waits.pinLow = false ∧ (∀ d, d < waits.installed → (waits.dock d).owed = none) ∧
      waits.bus.pollSlot = true ∧ ∀ x ∈ waits.bus.queue, x.kind.class = 4) ∧
    (pollInFlight locks = true ∧ locks.bus.queue = [auditStatus 3] ++ lock :: [auditStatus 4] ∧
      (∀ x ∈ locks.bus.queue, lock.kind.class ≤ x.kind.class) ∧
      ∀ x ∈ [auditStatus 3], x.kind.class ≠ lock.kind.class) := by decide +kernel

theorem witness_ResponseTimer :
    let poll (n : Option Nat) : State := onBus fun b => { b with inFlight := some { what := .poll, ticks := n } }
    let visit (n : Nat) : State := onBus fun b => { b with
      inFlight := some { what := .command (auditStatus 2), ticks := some n } }
    let closing := hired .starting none (sending .lock 2 .release
      (dock2 (record .releasing (some bike5) (some (.hire 7)) (some .locking)) ready))
    ((poll none).bus.inFlight = some { what := .poll, ticks := none } ∧ ready.bus.inFlight = none) ∧
    ((poll (some 2)).bus.inFlight = some { what := .poll, ticks := some 2 } ∧ (poll (some 2)).pinLow = false ∧
      ∀ d, d < (poll (some 2)).installed → ((poll (some 2)).dock d).owed = none) ∧
    (poll (some 1)).bus.inFlight = some { what := .poll, ticks := some 1 } ∧
    ((visit 3).bus.inFlight = some { what := .command (auditStatus 2), ticks := some 3 } ∧
      2 ∉ (visit 3).audit.outstanding ∧ (visit 3).settings.categoryMask.testBit 1 = false ∧
      ((visit 3).dock 2).faultCount + 1 < (visit 3).settings.dockThreshold ∧ ((visit 3).dock 2).faultCount < 15) ∧
    (closing.bus.inFlight = some {
        what := .command { kind := .lock, dock := 2, owner := .release, live := true }, ticks := some 3 } ∧
      (closing.dock 2).state = .releasing ∧ (closing.dock 2).phase = some .locking ∧
      (closing.dock 2).owner = some (.hire 7) ∧ findHire 7 closing = some (hire7 .starting none) ∧
      closing.settings.categoryMask.testBit 1 = false) ∧
    (visit 2).bus.inFlight = some { what := .command (auditStatus 2), ticks := some 2 } := by decide +kernel

/-- A poll that gets no reply leaves the bus, which then takes a STATUS that waits (R28, R37). -/
theorem test_poll_timeout_goes_on :
    let s := modBus (fun b => { b with
      inFlight := some { what := .poll, ticks := some 2 }, queue := [auditStatus 3] }) ready
    (match exec .dockResponseTimeout s with
     | .next t => t.bus.inFlight == some { what := .command (auditStatus 3), ticks := none } && t.bus.holdoff
     | _ => false) = true := by decide +kernel

theorem witness_FramesIgnored :
    let lock := sending .lock 3 .release ready
    let driving := onBus fun b => { b with inFlight := some { what := .poll, ticks := none } }
    (driverEnable ready = false ∧ driverEnable lock = false ∧ driverEnable polling = false ∧ driverEnable driving = true) ∧
    (0#8 ≠ sumCheck [2#8, 0x81#8] ∧ ready.bus.inFlight = none ∧
      lock.bus.inFlight = some {
        what := .command { kind := .lock, dock := 3, owner := .release, live := true }, ticks := some 3 } ∧ 3 ≠ (2#8 : Byte).toNat) ∧
    (∀ c n, ready.bus.inFlight = some { what := .command c, ticks := n } → c.dock ≠ (2#8 : Byte).toNat) ∧
    (polling.installed ≤ (8#8 : Byte).toNat ∧ pollInFlight lock = false) ∧
    (0x87#8 ∉ [0x81#8, 0x82#8, 0x83#8, 0x84#8, 0x85#8, 0x86#8, 0x88#8, 0x89#8, 0x8A#8, 0x8B#8] ∧ 0x87#8 ≠ 0xA5#8 ∧
      2#8 ≠ 0xA5#8) := by
  refine ⟨by decide +kernel, by decide +kernel, ?_, by decide +kernel, by decide⟩
  intro c n h
  cases h

/-- No reply is taken while the command's own frame is being sent (R19). -/
theorem test_driving_takes_no_reply :
    (match exec (.noEvent 0xFF#8) (onBus fun b => { b with inFlight := some { what := .poll, ticks := none } }) with
     | .next t => t.bus.inFlight == some { what := .poll, ticks := none }
     | _ => false) = true := by decide +kernel

theorem witness_QueueLawKept :
    polling.bus.queue.length ≤ 16 ∧ (busyDocks polling).Nodup ∧ step polling = .next polling := by
  refine ⟨by decide, by decide +kernel, rfl⟩

theorem witness_Placements :
    let lock : Cmd := { kind := .lock, dock := 2, owner := .release, live := true }
    let owing := dock2 { record .held none none none with owed := some { kind := .reject, owner := .release, live := true } } ready
    let queues (c : Cmd) : State := onBus fun b => { b with queue := [auditStatus 1, c, auditStatus 3] }
    (owing.dock 2).owed = some { kind := .reject, owner := .release, live := true } ∧
    ((ready.dock 2).owed = none ∧ InFlightIs lock (sending .lock 2 .release ready)) ∧
    ((∀ x, InFlightIs x (queues lock) → x.dock ≠ 2) ∧ (queues lock).bus.queue = [auditStatus 1] ++ lock :: [auditStatus 3] ∧
      (∀ x ∈ [auditStatus 1], x.dock ≠ 2) ∧ ∀ x ∈ [auditStatus 3], x.dock ≠ 2) ∧
    (queues (auditStatus 2)).bus.queue = [auditStatus 1] ++ auditStatus 2 :: [auditStatus 3] ∧
    ((∀ x ∈ ready.bus.queue, x.dock ≠ 2) ∧ ¬ ∃ x, InFlightIs x ready ∧ x.dock = 2) ∧
    (polling.bus.queue.length < 16 ∧ polling.bus.inFlight.isSome ∧ (∀ x ∈ polling.bus.queue, x.dock ≠ 2)) ∧
    16 ≤ (onBus fun b => { b with queue := queued 16 }).bus.queue.length := by
  refine ⟨by decide +kernel, ⟨by decide +kernel, _, rfl⟩, ⟨?_, rfl, by decide, by decide⟩, rfl, ⟨by decide, ?_⟩, by decide +kernel,
    by decide +kernel⟩
  · rintro x ⟨n, hn⟩
    cases hn
  · rintro ⟨x, ⟨n, hn⟩, -⟩
    cases hn

/-! ## Witnesses: release and return -/

theorem witness_WindowTimer :
    let releasing (o : Owner) (p : Phase) := dock2 (record .releasing (some bike5) (some o) (some p)) ready
    let ejecting (p : Phase) := dock2 (record .ejecting none none (some p)) ready
    let opened (n : Nat) := modDock 2 (fun k => { k with window := some { limit := 30, ticks := n } }) (releasing (.hire 7) .opened)
    let ejected := modDock 2 (fun k => { k with window := some { limit := 30, ticks := 31 } }) (ejecting .ejectOpen)
    let unlatch : Option InFlight := some { what := .command { kind := .unlatch, dock := 2, owner := .release, live := true }, ticks := some 3 }
    let reject : Option InFlight := some { what := .command { kind := .reject, dock := 2, owner := .release, live := true }, ticks := some 3 }
    ((sending .unlatch 2 .release (releasing (.hire 7) .unlatching)).bus.inFlight = unlatch ∧
      ((releasing (.hire 7) .unlatching).dock 2).phase = some .unlatching ∧
      ((releasing (.hire 7) .unlatching).dock 2).owner = some (.hire 7) ∧
      ((releasing .batch .unlatching).dock 2).owner = some .batch) ∧
    ((sending .reject 2 .release (ejecting .rejecting)).bus.inFlight = reject ∧
      ((ejecting .rejecting).dock 2).state = .ejecting ∧ ((ejecting .rejecting).dock 2).phase = some .rejecting) ∧
    (((opened 31).dock 2).window = some { limit := 30, ticks := 31 } ∧ ((opened 31).dock 2).state = .releasing ∧
      nothingInHand 2 (opened 31) = true) ∧
    ((ejected.dock 2).state = .ejecting ∧ (ejected.dock 2).phase = some .ejectOpen ∧ nothingInHand 2 ejected = true) ∧
    ((opened 30).dock 2).window = some { limit := 30, ticks := 30 } := by decide +kernel

theorem witness_LockedWithLapses :
    let s := hired .starting none (sending .lock 2 .release
      (dock2 (record .releasing (some bike5) (some (.hire 7)) (some .locking)) ready))
    s.bus.inFlight = some { what := .command { kind := .lock, dock := (2#8 : Byte).toNat, owner := .release, live := true }, ticks := some 3 } ∧
    (s.dock 2).state = .releasing ∧ (s.dock 2).phase = some .locking ∧ (s.dock 2).owner = some (.hire 7) ∧
    (s.dock 2).retirePending = false ∧ s.batch = none ∧ findHire 7 s = some (hire7 .starting none) ∧
    (s.dock 2).bike.bind Bike.id = some (5#24 : BitVec 24).toNat ∧ (0#24 : BitVec 24).toNat = 0 := by decide +kernel

theorem witness_LockedWithLapses_arrivals :
    let at_ (p : Phase) := hired .starting none (dock2 (record .releasing (some bike5) (some (.hire 7)) (some p)) polling)
    (pollInFlight (at_ .opened) = true ∧ 2 < (at_ .opened).installed ∧ ((at_ .opened).dock 2).state = .releasing ∧
      ((at_ .opened).dock 2).bike.bind Bike.id = some (5#24 : BitVec 24).toNat ∧ (0#24 : BitVec 24).toNat = 0) ∧
    ((at_ .unlatching).dock 2).phase = some .unlatching ∧
    (((at_ .opened).dock 2).phase = some .opened ∧ ((at_ .locking).dock 2).phase = some .locking ∧
      ((at_ .opened).dock 2).owner = some (.hire 7) ∧ ((at_ .opened).dock 2).retirePending = false ∧
      (at_ .opened).batch = none ∧ findHire 7 (at_ .opened) = some (hire7 .starting none)) := by decide +kernel

theorem witness_LockedWithLapses_batch :
    let s (pending : Bool) : State := sending .lock 2 .release (dock2 { record .releasing (some bike5) (some .batch)
        (some .locking) with vanHold := !pending, retirePending := pending } { ready with batch := some {
      kind := .collect, crew := 87, opened := 0, manifest := [], target := 4, done := 0, idle := 100, expiryWaiting := false } })
    ((s false).bus.inFlight = some {
        what := .command { kind := .lock, dock := 2, owner := .release, live := true }, ticks := some 3 } ∧
      ((s false).dock 2).state = .releasing ∧ ((s false).dock 2).phase = some .locking ∧
      ((s false).dock 2).owner = some .batch ∧ ((s false).batch.map Batch.expiryWaiting) = some false ∧
      ((s false).dock 2).bike.bind Bike.id = some 5) ∧
    (((s false).dock 2).retirePending = false ∧ ((s false).dock 2).vanHold = true) ∧
    ((s true).dock 2).retirePending = true := by decide +kernel

theorem witness_PullStartsHire :
    let base := hired .starting none (dock2 (record .releasing (some bike5) (some (.hire 7)) (some .locking)) ready)
    let locked := sending .lock 2 .release base
    let polled := modBus (fun b => { b with inFlight := some { what := .poll, ticks := some 0 } }) base
    ((base.dock 2).state = .releasing ∧ (base.dock 2).owner = some (.hire 7) ∧ (base.dock 2).retirePending = false ∧
      base.batch = none ∧ findHire 7 base = some (hire7 .starting none)) ∧
    (locked.bus.inFlight = some { what := .command { kind := .lock, dock := 2, owner := .release, live := true }, ticks := some 3 } ∧
      (locked.dock 2).phase = some .locking ∧ findHire 7 locked = some (hire7 .starting none)) ∧
    (pollInFlight polled = true ∧ 2 < polled.installed ∧ (polled.dock 2).owner = some (.hire 7)) := by decide +kernel

theorem witness_PullStartsHire_batch :
    let s (pending : Bool) : State := dock2 { record .releasing (some bike5) (some .batch) (some .opened) with
        retirePending := pending } { polling with batch := some {
      kind := .collect, crew := 87, opened := 0, manifest := [{ bike := 5, done := false }], target := 0, done := 255,
      idle := 100, expiryWaiting := false } }
    (pollInFlight (s false) = true ∧ 2 < (s false).installed ∧ ((s false).dock 2).state = .releasing ∧
      ((s false).dock 2).owner = some .batch ∧ (s false).batch.map Batch.kind = some .collect ∧
      (s false).batch.map Batch.expiryWaiting = some false ∧ ((s false).dock 2).bike.bind Bike.id = some 5) ∧
    ((s false).dock 2).retirePending = false ∧ ((s true).dock 2).retirePending = true := by decide +kernel

theorem witness_RemovalAndLockFault :
    let at2 (st : DockState) (bike : Option Bike) := dock2 (record st bike none none) polling
    let held := at2 .held (some bike5)
    (pollInFlight held = true ∧ 2 < held.installed ∧ (held.dock 2).state = .held ∧ (held.dock 2).retirePending = false ∧
      held.batch = none ∧ held.settings.categoryMask.testBit 0 = false) ∧
    (pollInFlight (at2 .vacant none) = true ∧ ((at2 .vacant none).dock 2).state = .vacant ∧
      ((at2 .reserved none).dock 2).state = .reserved) ∧
    { held with settings := { held.settings with categoryMask := 1 } }.settings.categoryMask.testBit 0 = true ∧
    (((at2 .releasing none).dock 2).state = .releasing ∧ ((at2 .claimed none).dock 2).state = .claimed ∧
      ((at2 .latching none).dock 2).state = .latching ∧ ((at2 .ejecting none).dock 2).state = .ejecting) := by decide +kernel

/-- Dock 2 HELD with bike 5, which is hireable, and card 9 in the table. -/
def toHire : State := { dock2 (record .held (some bike5) none none) ready with cards := [card9] }

/-- The fields of a HIRE_START: card, wanted kind, dock. -/
def hireFields (card kind dock : Nat) : List Byte := beBytes 7 card ++ bytes [kind, dock]

theorem witness_HireStartAccepted :
    (Taken 0x10#8 .terminal (hireFields 9 0 2) toHire ∧ numAt (hireFields 9 0 2) 0 7 = 9 ∧
      numAt (hireFields 9 0 2) 7 1 = 0 ∧ numAt (hireFields 9 0 2) 8 1 = 2 ∧ toHire.journal.held = false ∧
      toHire.hires.length < 96 ∧ 2 < toHire.installed ∧ verdict 2 toHire = .hireable ∧
      (toHire.dock 2).bike = some bike5 ∧ findCard 9 toHire = some card9 ∧ card9.openCount < (toHire.policy 0).maxHires ∧
      ((toHire.policy 0).holdAmount : Int) ≤ card9.balance - card9.held ∧ nothingInHand 2 toHire = true ∧
      toHire.bus.queue.length < 16) ∧
    (numAt (hireFields 9 0 255) 8 1 = 255 ∧ Taken 0x10#8 .terminal (hireFields 9 0 255) toHire ∧
      ∀ e, e < toHire.installed → e ≠ 2 → verdict e toHire ≠ .hireable) := by decide +kernel

theorem witness_HireStartRefused :
    let t (f : State → State) := f toHire
    let attrs (a : Attributes) (s : State) : State := { s with
      settings := { s.settings with attributeEnable := 1 }, attrs := s.attrs.setIfInBounds 0 a }
    let card (f : Card → Card) : State := { toHire with cards := [f card9] }
    let pol (f : Policy → Policy) : State := { toHire with policies := toHire.policies.setIfInBounds 0 (f Policy.powerOn) }
    (Taken 0x10#8 .terminal (hireFields 9 2 2) toHire ∧ ¬ numAt (hireFields 9 2 2) 7 1 ≤ 1) ∧
    (t fun s => { s with journal := { s.journal with held := true } }).journal.held = true ∧
    96 ≤ (t fun s => { s with hires := List.replicate 96 (hire7 .out (some 0)) }).hires.length ∧
    (Taken 0x10#8 .terminal (hireFields 9 0 8) toHire ∧ toHire.installed ≤ numAt (hireFields 9 0 8) 8 1) ∧
    verdict 2 (modDock 2 (fun k => { k with vanHold := true }) toHire) = .vanHold ∧
    verdict 2 (attrs { releasePermitted := false, returnPermitted := true, cls := .standard } toHire) = .notPermitted ∧
    verdict 2 (attrs { releasePermitted := true, returnPermitted := true, cls := .charging }
      (modDock 2 (fun k => { k with bike := some { bike5 with kind := .electric } }) toHire)) = .lowCharge ∧
    verdict 3 toHire = .notReady ∧
    (numAt (hireFields 9 1 2) 7 1 = 1 ∧ verdict 2 toHire = .hireable ∧ bike5.kind ≠ .electric) ∧
    (∀ d, d < ready.installed → verdict d ready ≠ .hireable) ∧
    findCard 9 (card fun c => { c with standing := .blocked }) = some { card9 with standing := .blocked } ∧
    (((pol fun p => { p with maxHires := 0 }).policy 0).maxHires = 0 ∧ findCard 9 (pol fun p => { p with maxHires := 0 }) = some card9) ∧
    ((card fun c => { c with openCount := 1 }).policy 0).maxHires ≤ 1 ∧
    ((toHire.policy 0).electricPermitted = false ∧ verdict 2 (modDock 2 (fun k => { k with bike := some { bike5 with kind := .electric } }) toHire) = .hireable) ∧
    ((2999 : Int) - (card9.held : Int) < ((toHire.policy 0).holdAmount : Int) ∧
      findCard 9 (card fun c => { c with balance := 2999 }) = some { card9 with balance := 2999 }) ∧
    (findCard 10 toHire = none ∧ Taken 0x10#8 .terminal (hireFields 10 0 2) toHire ∧ toHire.link = .offline) ∧
    (let on : State := { toHire with link := .online }
     on.link = .online ∧ on.authQueue.length < 8 ∧ (∀ e ∈ on.authQueue, e.card ≠ 10) ∧
       ∃ e ∈ { on with authQueue := [{ tag := 1, card := 10, dock := 3, wanted := .standard, remaining := 9, timedOut := false }] }.authQueue,
         e.card = 10) := by decide +kernel

theorem witness_HireStartRefused_busy :
    let full := modBus (fun b => { b with queue := queued 16 }) toHire
    let inHand (c : Cmd) := modBus (fun b => { b with queue := [c] }) toHire
    let onIt := sending .status 2 .patrol toHire
    let owing := modDock 2 (fun k => { k with owed := some { kind := .lock, owner := .patrol, live := true } }) toHire
    let lock : Cmd := { kind := .lock, dock := 2, owner := .patrol, live := true }
    (Taken 0x10#8 .terminal (hireFields 9 0 2) full ∧ verdict 2 full = .hireable ∧ (full.dock 2).bike = some bike5 ∧
      findCard 9 full = some card9 ∧ card9.standing = .good ∧ card9.openCount < (full.policy 0).maxHires ∧
      ((full.policy 0).holdAmount : Int) ≤ card9.balance - card9.held) ∧
    UnlatchRefused 2 full ∧ UnlatchRefused 2 (inHand lock) ∧ UnlatchRefused 2 onIt ∧ UnlatchRefused 2 owing := by
  refine ⟨by decide +kernel, .inr (.inr (.inr ?_)), .inr (.inr (.inl ?_)), .inr (.inl ⟨_, ⟨_, rfl⟩, rfl⟩), .inl rfl⟩
  · decide +kernel
  · decide +kernel

/-- Hire 7 of bike 5 OUT since minute 0, its card, and VACANT dock 2, at minute 10. -/
def returning : State := { hired .out (some 0) (dock2 (record .vacant none none none) polling) with clock := { minute := 10, second := 0 } }

theorem witness_RiderReturn :
    (pollInFlight returning = true ∧ (2#8 : Byte).toNat < returning.installed ∧ (returning.dock 2).state = .vacant ∧
      (returning.dock 2).retirePending = false ∧ returning.batch = none ∧ returnAllowed 2 returning = true ∧
      (5#24 : BitVec 24).toNat ≠ 0 ∧
      ∀ e, e < returning.installed → e ≠ 2 → (returning.dock e).bike.bind Bike.id ≠ some 5) ∧
    (openHireOf 5 returning = some (hire7 .out (some 0)) ∧
      findCard 9 returning = some { card9 with held := 3000, openCount := 1 } ∧
      (charge tariff0 .standard 10 : Int) ≤ card9.balance) ∧
    (openHireOf 6 returning = none ∧
      ∀ e, e < returning.installed → e ≠ 2 → (returning.dock e).bike.bind Bike.id ≠ some 6) := by decide +kernel

theorem witness_RiderReturn_elsewhere :
    let at_ (k : Dock) : State := setDock 3 k (dock2 (record .vacant none none none) polling)
    let held := at_ (record .held (some bike5) none none)
    let stranded := at_ (record .retired (some bike5) none none)
    let released : State := hired .starting none (at_ (record .releasing (some bike5) (some (.hire 7)) (some .opened)))
    (pollInFlight held = true ∧ (held.dock 2).state = .vacant ∧ returnAllowed 2 held = true ∧
      (held.dock 3).bike = some bike5 ∧ bike5.id = some 5 ∧ openHireOf 5 held = none ∧
      ∀ x, x < held.installed → x ≠ 2 → x ≠ 3 → (held.dock x).bike.bind Bike.id ≠ some 5) ∧
    ((held.dock 3).state = .held ∧ held.settings.categoryMask.testBit 3 = false ∧
      (held.dock 3).faultCount + 1 < held.settings.dockThreshold) ∧
    (stranded.dock 3).state = .retired ∧
    ((released.dock 3).state = .releasing ∧ (released.dock 3).owner = some (.hire 7) ∧ openHireOf 5 released = none ∧
      (released.dock 3).retirePending = false ∧ findHire 7 released = some (hire7 .starting none) ∧
      (∀ x ∈ released.hires, x.number = 7 → x = hire7 .starting none) ∧
      findCard 9 released = some { card9 with held := 3000, openCount := 1 }) := by decide +kernel

/-- An open DELIVER batch for bikes 5 and 6, and dock 3 RESERVED. -/
def delivering : State := setDock 3 { record .reserved none none none with reserved := true } { polling with batch := some {
  kind := .deliver, crew := 87, opened := 0, manifest := [{ bike := 5, done := false }, { bike := 6, done := true }],
  target := 0, done := 1, idle := 100, expiryWaiting := false } }

theorem witness_RiderReturn_delivery :
    let vacant := dock2 (record .vacant none none none) delivering
    (pollInFlight delivering = true ∧ (delivering.dock 3).state = .reserved ∧ delivering.batch.isSome ∧
      (∀ e, e < delivering.installed → e ≠ 3 → (delivering.dock e).bike.bind Bike.id ≠ some 5) ∧
      openHireOf 5 delivering = none ∧
      (List.range delivering.installed).countP (fun e => e != 3 && (delivering.dock e).state == .reserved) = 0) ∧
    ((vacant.dock 2).state = .vacant ∧ (effective 2 vacant).cls ≠ .closed ∧
      (List.range vacant.installed).countP (fun e => e != 2 && (vacant.dock e).state == .reserved && (vacant.dock e).reserved) = 1 ∧
      (vacant.dock 3).state = .reserved ∧ (vacant.dock 3).reserved = true) := by decide +kernel

theorem witness_ArrivalRefusedOrLatched :
    let closed : State := { returning with
      settings := { returning.settings with attributeEnable := 1 }
      attrs := returning.attrs.setIfInBounds 0 { releasePermitted := true, returnPermitted := true, cls := .vanOnly } }
    (pollInFlight closed = true ∧ (closed.dock 2).state = .vacant ∧ closed.batch = none ∧ nothingInHand 2 closed = true ∧
      closed.bus.queue.length < 16 ∧ returnAllowed 2 closed = false) ∧
    (nothingInHand 2 returning = true ∧ returnAllowed 2 returning = true ∧ (0#24 : BitVec 24).toNat = 0) := by decide +kernel

theorem witness_ArrivalRefusedOrLatched_atBike :
    let at_ (st : DockState) (bike : Option Bike) := dock2 (record st bike none none) polling
    let held := at_ .held (some bike5)
    (pollInFlight held = true ∧ (held.dock 2).state = .held ∧ ((at_ .claimed (some bike5)).dock 2).state = .claimed ∧
      (held.dock 2).bike.bind Bike.id = some 5) ∧
    ((held.dock 2).bike.bind Bike.id ≠ some 6 ∧ (held.dock 2).retirePending = false ∧ held.batch = none ∧
      (∀ e, e < held.installed → e ≠ 2 → (held.dock e).bike.bind Bike.id ≠ some 6) ∧ openHireOf 6 held = none ∧
      held.settings.categoryMask.testBit 3 = false ∧ (held.dock 2).faultCount + 1 < held.settings.dockThreshold) ∧
    (((at_ .retired (some bike5)).dock 2).state = .retired ∧ ((at_ .retired (some bike5)).dock 2).bike = some bike5 ∧
      nothingInHand 2 (at_ .retired (some bike5)) = true ∧ bike5.id ≠ none ∧ bike5.id ≠ some 6) ∧
    (((at_ .retired none).dock 2).bike = none ∧ nothingInHand 2 (at_ .retired none) = true) := by decide +kernel

theorem witness_ArrivalRefusedOrLatched_reservation :
    let closed (s : State) : State := { s with
      settings := { s.settings with attributeEnable := 1 }
      attrs := s.attrs.setIfInBounds 0 { releasePermitted := true, returnPermitted := false, cls := .standard } }
    let vacant := setDock 5 (record .vacant none none none) delivering
    (pollInFlight delivering = true ∧ (delivering.dock 3).state = .reserved ∧ (delivering.dock 3).retirePending = false ∧
      ∀ e, e < delivering.installed → (delivering.dock e).state ≠ .vacant) ∧
    ((vacant.dock 5).state = .vacant ∧ returnAllowed 5 vacant = true ∧
      ∀ e, e < vacant.installed → (vacant.dock e).state = .vacant → e = 5) ∧
    (returnAllowed 3 (closed vacant) = false ∧ nothingInHand 3 (closed vacant) = true) ∧
    (returnAllowed 3 vacant = true ∧ openHireOf 7 vacant = none ∧
      ∀ e, e < vacant.installed → e ≠ 3 → (vacant.dock e).bike.bind Bike.id ≠ some 7) := by decide +kernel

theorem witness_IdentificationRereads :
    let latching := { dock2 { record .latching (some (arrivedBike none .standard 0)) none none with identRetries := 2 } ready with
      due := { Due.nothing with reread := true } }
    let reread : Cmd := { kind := .status, dock := 2, owner := .release, live := true }
    let flight := sending .status 2 .release latching
    ((latching.dock 2).state = .latching ∧ latching.due.reread = true ∧
      (∀ e, e < latching.installed → e ≠ 2 → (latching.dock e).state ≠ .latching) ∧ nothingInHand 2 latching = true ∧
      latching.bus.queue.length < 16 ∧ (latching.dock 2).rereadAgain = false) ∧
    (flight.due.reread = true ∧ flight.bus.inFlight = some { what := .command reread, ticks := some 3 } ∧
      (1#8 : Byte).getLsbD 0 = true ∧ (flight.dock 2).identRetries = 2 ∧ (flight.dock 2).retirePending = false ∧
      flight.batch = none ∧ flight.settings.categoryMask.testBit 2 = false ∧
      (flight.dock 2).faultCount + 1 < flight.settings.dockThreshold) := by decide +kernel

theorem witness_IdentificationRereads_placed :
    Placed { kind := .status, dock := 2, owner := .release, live := true } (sending .status 2 .release ready) := .inr ⟨_, rfl⟩

theorem witness_IdentificationRereads_arrivals :
    let latching := dock2 (record .latching (some (arrivedBike none .standard 0)) none none) polling
    let ejecting := dock2 (record .ejecting none none (some .ejectOpen)) polling
    let closed : State := { ejecting with
      settings := { ejecting.settings with attributeEnable := 1 }
      attrs := ejecting.attrs.setIfInBounds 0 { releasePermitted := true, returnPermitted := false, cls := .standard } }
    (pollInFlight latching = true ∧ (latching.dock 2).state = .latching ∧ (latching.dock 2).retirePending = false ∧
      latching.batch = none ∧ (∀ e, e < latching.installed → e ≠ 2 → (latching.dock e).bike.bind Bike.id ≠ some 6) ∧
      openHireOf 6 latching = none ∧ nothingInHand 2 latching = true ∧ latching.bus.queue.length < 16) ∧
    ((ejecting.dock 2).state = .ejecting ∧ returnAllowed 2 ejecting = true ∧ openHireOf 6 ejecting = none) ∧
    (returnAllowed 2 closed = false ∧ nothingInHand 2 closed = true) := by decide +kernel

/-! ## Witnesses: cards and authorizations -/

/-- The fields of a CARD_SET with one setting of card `id`. -/
def cardFields (id standing : Nat) : List Byte := bytes [1] ++ beBytes 7 id ++ bytes [0, 0, 0, standing] ++ beBytes 4 100

/-- A full Card Table: entries 1 to 512, all used at minute 1 but entry 300, used at minute 0. -/
def fullCards : List Card := (List.range 512).map fun i =>
  { card9 with id := i + 1, lastUse := if i = 299 then 0 else 1 }

theorem witness_CardSetAndRemove :
    (Taken 0x20#8 .uplink (bytes [0]) ready ∧ numAt (bytes [0]) 0 1 = 0) ∧
    (Taken 0x20#8 .uplink (cardFields 9 2) ready ∧ ¬ numAt (cardFields 9 2) 11 1 ≤ 1) ∧
    (Taken 0x20#8 .uplink (cardFields 9 1) toHire ∧ numAt (cardFields 9 1) 0 1 = 1 ∧ numAt (cardFields 9 1) 1 7 = 9 ∧
      (findCard 9 toHire).isSome) ∧
    (findCard 10 toHire = none ∧ toHire.cards.length < 512 ∧ Taken 0x20#8 .uplink (cardFields 10 0) toHire) ∧
    (Taken 0x21#8 .uplink (beBytes 7 9) toHire ∧ findCard 9 toHire = some card9 ∧ card9.openCount = 0 ∧
      findCard 10 toHire = none ∧ Taken 0x21#8 .uplink (beBytes 7 10) toHire) ∧
    (findCard 9 (hired .out (some 0) ready) = some { card9 with held := 3000, openCount := 1 }) ∧
    (Free .uplink { ready with station := .starting } ∧ (beBytes 7 9).length = 7) := by decide +kernel

theorem witness_CardSetAndRemove_evicts :
    let s : State := { ready with cards := fullCards }
    let v : Card := { card9 with id := 300 }
    findCard 1000 s = none ∧ 512 ≤ s.cards.length ∧ v ∈ s.cards ∧ v.openCount = 0 ∧
      ∀ c ∈ s.cards, c.openCount = 0 → c = v ∨ (v.lastUse < c.lastUse ∨ (v.lastUse = c.lastUse ∧ v.id < c.id)) := by
  decide +kernel

theorem witness_CardRead :
    (Free .uplink { toHire with station := .starting } ∧ (beBytes 7 9).length = 7) ∧
    (Taken 0x22#8 .uplink (beBytes 7 9) toHire ∧ findCard (numAt (beBytes 7 9) 0 7) toHire = some card9) ∧
    (Taken 0x22#8 .uplink (beBytes 7 8) toHire ∧ findCard (numAt (beBytes 7 8) 0 7) toHire = none) := by decide +kernel

theorem witness_PolicyAndTariffSet :
    let pol (dur : Nat) : List Byte := bytes [7, 3] ++ beBytes 2 20000 ++ bytes [4, 1, 90] ++ beBytes 2 dur
    let tar (b : Nat) : List Byte := bytes [3, 240, b] ++ beBytes 2 2000 ++ beBytes 2 1000 ++ beBytes 2 50000
    Taken 0x28#8 .uplink (pol 2880) ready ∧ numAt (pol 2880) 0 1 = 7 ∧ numAt (pol 2880) 2 2 = 20000 ∧
    numAt (pol 2880) 7 2 = 2880 ∧ Taken 0x28#8 .uplink (pol 2881) ready ∧ ¬ numAt (pol 2881) 7 2 ≤ 2880 ∧
    Taken 0x29#8 .uplink (tar 1) ready ∧ numAt (tar 1) 0 1 = 3 ∧ numAt (tar 1) 2 1 = 1 ∧ numAt (tar 1) 7 2 = 50000 ∧
    Taken 0x29#8 .uplink (tar 0) ready ∧ ¬ 1 ≤ numAt (tar 0) 2 1 := by decide +kernel

/-- Dock 2 CLAIMED with bike 5 under tag 3 for card 9, which is not in the table. -/
def claimed : State := { dock2 (record .claimed (some bike5) none none) ready with
  link := .online
  authQueue := [{ tag := 3, card := 9, dock := 2, wanted := .standard, remaining := 9, timedOut := false }] }

/-- The fields of an AUTH_GRANT: tag, no flags, standing, balance 5,000. -/
def grantFields (tag standing : Nat) : List Byte := bytes [tag, 0, 0, 0, standing] ++ beBytes 4 5000

theorem witness_AuthGrant :
    let none_ : State := { claimed with policies := claimed.policies.setIfInBounds 0 { Policy.powerOn with maxHires := 0 } }
    (Taken 0x24#8 .uplink (grantFields 4 0) claimed ∧ findAuth 4 claimed = none) ∧
    (Taken 0x24#8 .uplink (grantFields 3 1) claimed ∧ (findAuth 3 claimed).isSome ∧ findCard 9 claimed = none ∧
      claimed.cards.length < 512 ∧ (claimed.dock 2).retirePending = false ∧ claimed.batch = none ∧
      (claimed.dock 2).bike = some bike5 ∧ numAt (grantFields 3 1) 4 1 = 1 ∧
      verdict 2 (setDock 2 (heldRecord (claimed.dock 2)) claimed) = .hireable) ∧
    ((none_.policy 0).maxHires = 0 ∧ verdict 2 (setDock 2 (heldRecord (none_.dock 2)) none_) = .hireable) ∧
    (Taken 0x24#8 .uplink (grantFields 3 0) claimed ∧ claimed.hires.length < 96 ∧ nothingInHand 2 claimed = true ∧
      claimed.bus.queue.length < 16 ∧ 0 < (claimed.policy 0).maxHires ∧
      ((claimed.policy 0).holdAmount : Int) ≤ signed 4 (numAt (grantFields 3 0) 5 4)) := by decide +kernel

theorem witness_AuthGrant_conjoined :
    let granted : State := { setDock 2 (heldRecord (claimed.dock 2)) claimed with
      cards := claimed.cards ++ [{ card9 with standing := .blocked }]
      authQueue := claimed.authQueue.filter fun x => x.tag != 3 }
    verdict 2 granted = .hireable := by decide +kernel

theorem witness_AuthorizationsEnd :
    let out : AuthEntry := { tag := 3, card := 9, dock := 2, wanted := .standard, remaining := 0, timedOut := true }
    let late : State := { claimed with
      authQueue := [{ out with tag := 2, card := 8, dock := 3, remaining := 4, timedOut := false }] ++ out :: [] }
    (late.batch = none ∧ (∀ x ∈ [{ out with tag := 2, card := 8, dock := 3, remaining := 4, timedOut := false }], x.timedOut = false) ∧
      out.timedOut = true ∧ (late.dock out.dock).retirePending = false) ∧
    (∀ e ∈ claimed.authQueue, e.timedOut = false) ∧
    (Taken 0x25#8 .uplink (bytes [3]) claimed ∧ (findAuth 3 claimed).isSome ∧ Taken 0x25#8 .uplink (bytes [4]) claimed ∧
      findAuth 4 claimed = none) ∧
    (Taken 0x26#8 .uplink (bytes [2]) claimed ∧ Taken 0x26#8 .uplink (bytes [1]) claimed ∧
      Taken 0x26#8 .uplink (bytes [0]) claimed ∧ ready.link = .offline ∧ Taken 0x26#8 .uplink (bytes [0]) ready ∧
      claimed.link = .online ∧ claimed.batch = none ∧
      (∀ e ∈ claimed.authQueue, (claimed.dock e.dock).retirePending = false)) := by decide +kernel

theorem witness_AuthList :
    Free .uplink { claimed with station := .starting } ∧ Taken 0x23#8 .uplink [] claimed := by decide +kernel

theorem witness_CardTableLawKept :
    let s := hired .out (some 0) ready
    (cardLaw s = true ∧ s.hires.length ≤ 96 ∧ (s.hires.map Hire.number).Nodup ∧
      ∀ r ∈ s.hires, (findCard r.card s).isSome) ∧ step s = .next s := by
  refine ⟨by decide +kernel, rfl⟩
/-! ## Witnesses: hires -/

/-- Hire 7 OUT since minute 0, at minute 100. -/
def out100 : State := { hired .out (some 0) ready with clock := { minute := 100, second := 0 } }

theorem witness_Charge : (hire7 .out (some 0)).start = some 0 ∧ tariff0.c ≠ 0 := by decide

theorem witness_HireQueryAndRead :
    let starting := hired .starting none ready
    Taken 0x11#8 .terminal (bytes [0, 7]) out100 ∧ findHire 7 out100 = some (hire7 .out (some 0)) ∧
    (hire7 .out (some 0)).state ≠ .starting ∧ Taken 0x11#8 .terminal (bytes [0, 8]) out100 ∧ findHire 8 out100 = none ∧
    Taken 0x11#8 .uplink (bytes [0, 7]) starting ∧ findHire 7 starting = some (hire7 .starting none) ∧
    Taken 0x2E#8 .uplink (bytes [0, 7]) out100 ∧ Taken 0x2E#8 .uplink (bytes [0, 8]) out100 ∧
    Free .terminal { ready with station := .starting } ∧ Free .uplink { ready with station := .starting } ∧ (bytes [0, 7]).length = 2 := by
  decide +kernel

theorem witness_HireCloseRemote :
    let fields (h station : Nat) : List Byte := beBytes 2 h ++ beBytes 4 90 ++ beBytes 2 station
    let poor (st : Standing) : State := { out100 with cards := [{ card9 with
      balance := 99, held := 3000, openCount := 1, standing := st }] }
    (Taken 0x2C#8 .uplink (fields 7 0) out100 ∧ numAt (fields 7 0) 6 2 = 0) ∧
    (Taken 0x2C#8 .uplink (fields 8 1) out100 ∧ findHire 8 out100 = none) ∧
    (findHire 7 (hired .starting none ready) = some (hire7 .starting none) ∧ Taken 0x2C#8 .uplink (fields 7 1) (hired .starting none ready)) ∧
    (Taken 0x2C#8 .uplink (fields 7 1) out100 ∧ findHire 7 out100 = some (hire7 .out (some 0)) ∧
      findCard 9 out100 = some { card9 with held := 3000, openCount := 1 } ∧
      0 ≤ max (card9.balance - (hireCharge (hire7 .out (some 0)) 90 : Nat)) (-99999)) ∧
    (max ((99 : Int) - (hireCharge (hire7 .out (some 0)) 90 : Nat)) (-99999) < 0 ∧
      (findCard 9 (poor .good)).map Card.standing = some .good ∧ (findCard 9 (poor .blocked)).map Card.standing = some .blocked) := by
  decide +kernel

/-- The fields of a HIRE_RESTORE: hire, card, bike, STANDARD, start, hold 0, the terms of the power-on tariff with
discount 0, and max duration. -/
def restoring (hire bike start maxDuration : Nat) : List Byte :=
  beBytes 2 hire ++ beBytes 7 9 ++ beBytes 3 bike ++ bytes [0] ++ beBytes 4 start ++ beBytes 2 0 ++ bytes [30, 30] ++
    beBytes 2 100 ++ beBytes 2 50 ++ beBytes 2 1500 ++ bytes [0] ++ beBytes 2 maxDuration

theorem witness_HireRestore :
    let s : State := { toHire with clock := { minute := 100, second := 0 } }
    let f := restoreFields (restoring 8 6 0 1440)
    (Taken 0x2D#8 .uplink (restoring 8 6 0 1440) s ∧ f.hire = 8 ∧ f.card = 9 ∧ f.bike = 6 ∧ f.kind = 0 ∧ f.start = 0 ∧
      f.hold = 0 ∧ f.terms = tariff0) ∧
    (findCard f.card s = some card9 ∧ (∀ r ∈ s.hires, r.number ≠ f.hire) ∧ (∀ r ∈ s.hires, r.bike ≠ f.bike) ∧
      (∀ d, d < s.installed → (s.dock d).bike.bind Bike.id ≠ some f.bike) ∧ s.hires.length < 96 ∧ card9.openCount < 4 ∧
      s.clock.minute - f.start < f.terms.maxDuration) ∧
    ((restoreFields (restoring 8 6 0 100)).terms.maxDuration ≤ s.clock.minute - 0 ∧
      Taken 0x2D#8 .uplink (restoring 8 6 0 100) s) ∧
    (restoreFields (restoring 0 6 0 1440)).hire = 0 ∧
    s.clock.minute < (restoreFields (restoring 8 6 101 1440)).start ∧
    (∃ r ∈ out100.hires, r.number = (restoreFields (restoring 7 6 0 1440)).hire) ∧
    ((∀ r ∈ out100.hires, r.number ≠ 8) ∧ ∃ r ∈ out100.hires, r.bike = (restoreFields (restoring 8 5 0 1440)).bike) ∧
    findCard 9 ready = none ∧
    (s.dock 2).bike.bind Bike.id = some (restoreFields (restoring 8 5 0 1440)).bike ∧
    96 ≤ { s with hires := List.replicate 96 (hire7 .out (some 0)) }.hires.length ∧
    (findCard 9 { s with cards := [{ card9 with openCount := 4 }] }).map Card.openCount = some 4 := by decide +kernel

theorem witness_HireNumbersUnique :
    (out100.hires.length ≤ 96 ∧ (out100.hires.map Hire.number).Nodup ∧ ∀ r ∈ out100.hires, r.number ≠ 0) ∧
    step out100 = .next out100 := by
  refine ⟨by decide +kernel, rfl⟩

/-! ## Witnesses: batches -/

/-- The fields of a BATCH_OPEN for crew 87. -/
def batchOf (kind target : Nat) (bikes : List Nat) : List Byte :=
  bytes [kind, 0, 87, target, bikes.length] ++ bikes.flatMap (beBytes 3)

/-- An open COLLECT batch with bike 5 on its manifest. -/
def collecting : Batch :=
  { kind := .collect, crew := 87, opened := 0, manifest := [{ bike := 5, done := false }], target := 0, done := 0,
    idle := 100, expiryWaiting := false }

/-- Dock 2 HELD with bike 5 under a van hold, in an open COLLECT batch. -/
def batching : State := { dock2 { record .held (some bike5) none none with vanHold := true } ready with batch := some collecting }

theorem witness_BatchOpenManifest :
    let s := dock2 (record .vacant none none none) ready
    let f (kind : Nat) := batchFields (batchOf kind 0 [5, 6])
    (Taken 0x40#8 .service (batchOf 0 0 [5]) batching ∧ batching.batch = some collecting) ∧
    (ready.batch = none ∧ Taken 0x40#8 .service (batchOf 0 17 []) ready ∧
      ¬ (batchFields (batchOf 0 17 [])).target ≤ 16 ∧ (batchFields (batchOf 0 17 [])).count = 0) ∧
    (Taken 0x40#8 .service (batchOf 1 0 [5, 6]) s ∧ (f 1).kind = 1 ∧ (f 1).crew = 87 ∧ (f 1).count = 2 ∧
      (∀ b ∈ (f 1).bikes, b ≠ 0) ∧ (f 1).bikes.Nodup ∧ (f 1).target = 0 ∧ s.batch = none ∧
      ∀ d, d < s.installed → (s.dock d).state ≠ .reserved) ∧
    (Taken 0x40#8 .service (batchOf 0 0 [5, 6]) toHire ∧ (f 0).kind = 0 ∧ (f 0).target = 0 ∧ (f 0).count = 2) := by
  decide +kernel

/-- Six HELD docks 0 to 5, docked since minute 0, of which a target of 16 under min keep 4 takes two. -/
def sixHeld : State :=
  (List.range 6).foldl (fun t d => setDock d (record .held (some (arrivedBike (some (10 + d)) .standard 0)) none none) t) ready

theorem witness_BatchOpenTarget :
    let hireable (d : Nat) : Bool := verdict d sixHeld == .hireable
    let since (d : Nat) : Nat := match (sixHeld.dock d).bike with | some b => b.dockedSince | none => 0
    let open_ (d : Nat) : Bool := (sixHeld.dock d).state == .held && (effective d sixHeld).cls != .closed
    let doubtful (d : Nat) : Bool := quarantined (sixHeld.dock d) sixHeld || ((sixHeld.dock d).bike.bind Bike.id).isNone
    Taken 0x40#8 .service (batchOf 0 16 []) sixHeld ∧ sixHeld.batch = none ∧
    (batchFields (batchOf 0 16 [])).target = 16 ∧
    ((List.range sixHeld.installed).filter fun d => open_ d && !doubtful d) = [0, 1, 2, 3, 4, 5] ∧
    [0, 1, 2, 3, 4, 5].Pairwise (fun a b => since a < since b ∨ (since a = since b ∧ a < b)) ∧
    [0, 1, 2, 3, 4, 5] = [0, 1] ++ [2, 3, 4, 5] ∧
    [0, 1].countP hireable + sixHeld.settings.minKeep ≤ (List.range sixHeld.installed).countP hireable ∧
    (hireable 2 = true ∧ (List.range sixHeld.installed).countP hireable ≤ [0, 1].countP hireable + sixHeld.settings.minKeep) := by
  decide +kernel

theorem witness_BatchTakeReleases :
    let stranded := dock2 (record .retired (some bike5) none none) batching
    (Taken 0x41#8 .service (bytes [2]) ready ∧ ready.batch = none) ∧
    (Taken 0x41#8 .service (bytes [8]) batching ∧ batching.batch = some collecting ∧ batching.installed ≤ 8) ∧
    (Taken 0x41#8 .service (bytes [3]) batching ∧ (batching.dock 3).state = .unverified) ∧
    (Taken 0x41#8 .service (bytes [2]) batching ∧ (batching.dock 2).state = .held ∧ (batching.dock 2).vanHold = true ∧
      nothingInHand 2 batching = true ∧ batching.bus.queue.length < 16) ∧
    (Taken 0x41#8 .service (bytes [255]) batching ∧
      ∀ e, e < 2 → (batching.dock e).state ≠ .held ∧ (batching.dock e).state ≠ .retired) ∧
    ((stranded.dock 2).state = .retired ∧ (stranded.dock 2).bike.isSome ∧ (effective 2 stranded).cls ≠ .closed) ∧
    (∀ d, d < ready.installed → (ready.dock d).state = .unverified) ∧
    (let full := modBus (fun b => { b with queue := queued 16 }) batching
     Taken 0x41#8 .service (bytes [2]) full ∧ UnlatchRefused 2 full) := by
  refine ⟨by decide +kernel, by decide +kernel, by decide +kernel, by decide +kernel, by decide +kernel, by decide +kernel,
    by decide +kernel, by decide +kernel, .inr (.inr (.inr ?_))⟩
  decide +kernel

theorem witness_ReturnPermission :
    let s : State := { hired .starting none (dock2 (record .releasing (some bike5) (some (.hire 7)) (some .opened)) ready) with
      batch := some { collecting with kind := .deliver } }
    (settingsLaw s = true ∧ queueLaw s = true ∧ installedLaw s = true ∧ dockLaw s = true ∧ (dockedIds s).Nodup ∧
      authLaw s = true ∧ batchLaw s = true ∧ ∀ b, s.batch = some b → b.kind = .deliver → b.target = 0 ∧ (b.manifest.map ManifestEntry.bike).Nodup) ∧
    (s.station = .ready ∧ cardLaw s = true ∧ bikeLaw s = true ∧ hireLaw s = true) ∧
    (∀ r ∈ s.hires, r.state = .starting → ∀ d, r.dockFrom = some d → (s.dock d).bike.bind Bike.id = some r.bike) ∧
    step s = .next s := by
  refine ⟨⟨by decide +kernel, by decide +kernel, by decide +kernel, by decide +kernel, by decide +kernel, by decide +kernel,
    by decide +kernel, ?_⟩, by decide +kernel, ?_, rfl⟩
  · rintro b hb -
    cases hb
    decide
  · intro r hr _ d hd
    rw [List.mem_singleton.mp hr] at hd ⊢
    cases hd
    decide +kernel

theorem witness_BatchEndsAndRead :
    let expired : State := { batching with due := { Due.nothing with idle := true } }
    let releasing := dock2 (record .releasing (some bike5) (some .batch) (some .opened)) expired
    (expired.batch = some collecting ∧ expired.due.idle = true ∧
      ∀ d, d < expired.installed → (expired.dock d).state ≠ .releasing) ∧
    (releasing.batch = some collecting ∧ releasing.due.idle = true ∧ 2 < releasing.installed ∧
      (releasing.dock 2).state = .releasing ∧ (releasing.dock 2).owner = some .batch) ∧
    Taken 0x42#8 .service [] expired ∧ Taken 0x42#8 .service [] releasing ∧ Taken 0x42#8 .service [] ready ∧
    Taken 0x43#8 .service [] ready ∧ Taken 0x43#8 .service [] batching := by decide +kernel

/-! ## Witnesses: faults -/

/-- The fields of a REPORT_FAULT. -/
def faultFields (category subject : Nat) : List Byte := bytes [category] ++ beBytes 3 subject

theorem witness_DockFaults :
    let at2 (st : DockState) (bike : Option Bike) := dock2 (record st bike none none) ready
    let masked : State := { ready with settings := { ready.settings with categoryMask := 16 } }
    (Taken 0x12#8 .terminal (faultFields 11 2) ready ∧ Taken 0x12#8 .terminal (faultFields 5 2) ready ∧
      Taken 0x12#8 .service (faultFields 4 2) ready ∧ Taken 0x12#8 .terminal (faultFields 10 2) ready) ∧
    (Taken 0x12#8 .terminal (faultFields 4 8) ready ∧ ready.installed ≤ numAt (faultFields 4 8) 1 3) ∧
    (masked.settings.categoryMask.testBit 4 = true ∧ numAt (faultFields 4 7) 1 3 < masked.installed) ∧
    (ready.settings.categoryMask.testBit 4 = false ∧ (ready.dock 2).faultCount + 1 < ready.settings.dockThreshold ∧
      (ready.dock 2).faultCount < 15) ∧
    (Taken 0x12#8 .service (faultFields 5 2) (at2 .held (some bike5)) ∧ ready.settings.categoryMask.testBit 5 = false ∧
      ((at2 .held (some bike5)).dock 2).state = .held ∧ ((at2 .vacant none).dock 2).state = .vacant) ∧
    (Taken 0x44#8 .service (bytes [8]) ready ∧ Taken 0x44#8 .service (bytes [2]) (at2 .held (some bike5)) ∧
      Taken 0x44#8 .service (bytes [2]) (at2 .retired (some bike5)) ∧ ((at2 .retired (some bike5)).dock 2).state = .retired ∧
      ((at2 .retired (some bike5)).dock 2).retirePending = false ∧ ready.batch = none ∧
      ((at2 .retired none).dock 2).bike = none) := by decide +kernel

theorem witness_ReportBikeFault :
    let full : State := { ready with
      bikeFaults := (List.range 32).map fun i => { bike := i + 1, count := 3, quarantined := true, lastReport := 0 } }
    (Category.riderTyre.code = 7 ∧ Taken 0x12#8 .terminal (faultFields 7 0) ready) ∧
    (Taken 0x12#8 .terminal (faultFields 7 40) full ∧ findBikeFault 40 full = none ∧ 32 ≤ full.bikeFaults.length ∧
      (∀ f ∈ full.bikeFaults, f.quarantined = true) ∧ full.settings.categoryMask.testBit 7 = false) ∧
    (Taken 0x12#8 .terminal (faultFields 7 40) ready ∧ findBikeFault 40 ready = none ∧ ready.bikeFaults.length < 32 ∧
      1 < ready.settings.bikeThreshold) ∧
    (Taken 0x12#8 .service (faultFields 9 40) ready ∧ Category.crewBike.code = 9 ∧ ready.settings.categoryMask.testBit 9 = false) ∧
    (Taken 0x12#8 .terminal (faultFields 6 40) ready ∧ Category.riderBrakes.code = 6) := by decide +kernel

/-- Bike 5 has a fault entry of count 1. -/
def faulted : State := { ready with bikeFaults := [{ bike := 5, count := 1, quarantined := false, lastReport := 0 }] }

theorem witness_BikeClear :
    (Free .service { faulted with station := .starting } ∧ (beBytes 3 5).length = 3) ∧
    (Taken 0x45#8 .service (beBytes 3 0) faulted ∧ numAt (beBytes 3 0) 0 3 = 0) ∧
    (Taken 0x45#8 .service (beBytes 3 6) faulted ∧ findBikeFault (numAt (beBytes 3 6) 0 3) faulted = none) ∧
    (Taken 0x45#8 .service (beBytes 3 5) faulted ∧ (findBikeFault (numAt (beBytes 3 5) 0 3) faulted).isSome) := by decide +kernel

theorem witness_LeakLowersCounts :
    faulted.due.leak = false ∧ { faulted with due := { Due.nothing with leak := true } }.due.leak = true := by decide

/-! ## Witnesses: patrol, audits and battery sense -/

theorem witness_PatrolVisits :
    let due : State := { polling with
      due := { Due.nothing with patrol := true, postscaler := true }, patrol := { polling.patrol with cursor := 7 } }
    (due.due.patrol = true ∧ due.settings.patrolEnable = 1 ∧ due.station = .ready ∧ due.audit.kind = .idle ∧
      nothingInHand 7 due = true ∧ due.bus.inFlight.isSome ∧ due.bus.queue.length < 16 ∧ due.due.postscaler = true) ∧
    ((setDock 7 (record .claimed (some bike5) none none) due).dock 7).state = .claimed ∧
    (let s := modBus (fun b => { b with queue := queued 16 }) due
     16 ≤ s.bus.queue.length ∧ nothingInHand 7 s = true) ∧
    (due.patrol.cursor = 7 ∧ ¬ 7 + 1 < due.installed ∧ polling.patrol.cursor + 1 < polling.installed) ∧
    (polling.due.patrol = false ∧ polling.due.postscaler = false) := by decide +kernel

theorem witness_StatusCompared :
    let held := sending .status 2 .patrol (dock2 (record .held (some bike5) none none) ready)
    (held.bus.inFlight = some { what := .command (auditStatus 2), ticks := some 3 } ∧ 2 ∉ held.audit.outstanding ∧
      (held.dock 2).state = .held ∧ (held.dock 2).bike = some bike5 ∧ bike5.id = some 5 ∧ (effective 2 held).cls ≠ .charging) ∧
    ((5#8 : Byte).getLsbD 0 = true ∧ (5#8 : Byte).getLsbD 2 = true ∧ (5#24 : BitVec 24).toNat = 5) ∧
    ((1#8 : Byte).getLsbD 0 = true ∧ (1#8 : Byte).getLsbD 2 = false ∧
      nothingInHand 2 { held with bus := { held.bus with inFlight := none } } = true) ∧
    ((0#8 : Byte).getLsbD 0 = false ∧ (held.dock 2).retirePending = false ∧ held.batch = none ∧
      held.settings.categoryMask.testBit 3 = false ∧ (held.dock 2).faultCount + 1 < held.settings.dockThreshold) := by
  decide +kernel

/-- A patrol visit's STATUS is in flight at dock 2, whose record is `k`. -/
abbrev visiting (k : Dock) (s : State) : State := sending .status 2 .patrol (dock2 k s)

/-- An AUDIT_MISMATCH report against dock 2 is counted below the threshold. -/
abbrev reported (s : State) : Prop :=
  (s.dock 2).retirePending = false ∧ s.settings.categoryMask.testBit 3 = false ∧
    (s.dock 2).faultCount + 1 < s.settings.dockThreshold ∧ (s.dock 2).faultCount + 1 ≤ 15

/-- Bike 6 is recorded at no dock but 2 and has no hire. -/
abbrev unknown (s : State) : Prop :=
  (∀ e, e < s.installed → e ≠ 2 → (s.dock e).bike.bind Bike.id ≠ some 6) ∧ openHireOf 6 s = none

theorem witness_StatusCompared_other :
    let vacant := visiting (record .vacant none none none) ready
    let shut : State := { vacant with settings := { vacant.settings with attributeEnable := 1 }
                                      attrs := vacant.attrs.setIfInBounds 0 ⟨true, false, .standard⟩ }
    let reserved := visiting { record .vacant none none none with state := .reserved, reserved := true }
      { ready with batch := some { collecting with kind := .deliver, manifest := [] } }
    let claimed : State := { visiting (record .claimed (some bike5) none none) ready with
      authQueue := [{ tag := 9, card := 3, dock := 2, wanted := .standard, remaining := 4, timedOut := false }] }
    (vacant.bus.inFlight = some { what := .command (auditStatus 2), ticks := some 3 } ∧ 2 ∉ vacant.audit.outstanding ∧
      (0#8 : Byte).getLsbD 0 = false ∧ (5#8 : Byte).getLsbD 0 = true ∧ vacant.installed ≤ 64 ∧
      vacant.bus.queue.length < 16 ∧ nothingInHand 2 { vacant with bus := { vacant.bus with inFlight := none } } = true) ∧
    ((vacant.dock 2).state = .vacant ∧ vacant.batch = none ∧ reported vacant ∧ unknown vacant ∧ returnAllowed 2 vacant = true) ∧
    (reported shut ∧ unknown shut ∧ returnAllowed 2 shut = false ∧ (shut.dock 2).state = .vacant) ∧
    ((reserved.dock 2).state = .reserved ∧ reported reserved ∧ unknown reserved ∧ returnAllowed 2 reserved = true ∧
      reserved.batch = some { collecting with kind := .deliver, manifest := [] } ∧
      ∀ e, e < reserved.installed → (reserved.dock e).state ≠ .vacant) ∧
    ((claimed.dock 2).state = .claimed ∧ reported claimed ∧ unknown claimed ∧ claimed.batch = none ∧
      authAt 2 claimed = claimed.authQueue.head? ∧ (claimed.dock 2).bike.bind Bike.id = some 5) :=
  ⟨by decide +kernel, by decide +kernel, by decide +kernel, by decide +kernel, by decide +kernel⟩

theorem witness_StatusCompared_heldAndRetired :
    let held := visiting (record .held (some bike5) none none) ready
    let retired (bike : Option Bike) (s : State) := visiting (record .retired bike none none) s
    let hireOut := hired .out (some 0) ready
    (held.batch = none ∧ (held.dock 2).retirePending = false ∧ (held.dock 2).bike.bind Bike.id ≠ some 6 ∧
      (held.dock 2).faultCount + 1 < held.settings.dockThreshold) ∧
    (((retired none ready).dock 2).bike = none ∧ ((retired (some bike5) ready).dock 2).bike = some bike5) ∧
    (∃ r c, openHireOf 5 (retired none hireOut) = some r ∧ findCard r.card (retired none hireOut) = some c ∧
      (charge r.terms r.kind ((retired none hireOut).clock.minute - r.start.getD 0) : Int) ≤ c.balance) ∧
    (∀ e, e < (retired none hireOut).installed → e ≠ 2 → ((retired none hireOut).dock e).bike.bind Bike.id ≠ some 5) :=
  ⟨by decide +kernel, by decide +kernel, ⟨_, _, rfl, rfl, by decide +kernel⟩, by decide +kernel⟩

theorem witness_Audits :
    let vacant : State := (List.range 8).foldl (fun t d => setDock d (record .vacant none none none) t) polling
    let starting (toDo outstanding : List Nat) : State := { polling with
      due := { Due.nothing with auditPass := true }
      audit := { kind := .startUp, toDo := toDo, outstanding := outstanding, mismatches := 0, counted := [] } }
    let full (p : Port) : State := { starting [] [] with audit := { (starting [] []).audit with kind := .full p } }
    (Taken 0x37#8 .service [] vacant ∧ vacant.audit.kind = .idle ∧ vacant.pinLow = false ∧ 0 < vacant.installed ∧
      vacant.bus.inFlight = some { what := .poll, ticks := some 1 } ∧ vacant.bus.queue = [] ∧
      ∀ d, d < vacant.installed → (vacant.dock d).owed = none ∧ (vacant.dock d).state = .vacant) ∧
    ((full .uplink).audit.kind = .full .uplink ∧ (full .service).audit.kind = .full .service ∧
      Taken 0x37#8 .uplink [] (full .uplink) ∧ (full .uplink).due.auditPass = true) ∧
    (let s := modBus (fun b => { b with queue := queued 15 }) (starting [2, 3] [])
     s.due.auditPass = true ∧ s.audit.kind = .startUp ∧ s.pinLow = false ∧ s.audit.toDo = 2 :: [3] ∧
       s.audit.outstanding = [] ∧ nothingInHand 2 s = true ∧ s.bus.inFlight.isSome ∧ s.bus.queue.length = 15) ∧
    16 ≤ (modBus (fun b => { b with queue := queued 16 }) (starting [2, 3] [])).bus.queue.length ∧
    ((starting [] []).audit.toDo = [] ∧ (starting [] []).audit.outstanding = []) ∧
    (let s := sending .status 2 .patrol (starting [] [2])
     s.pinLow = false ∧ s.bus.inFlight = some { what := .command (auditStatus 2), ticks := some 3 } ∧
       s.audit.kind = .startUp ∧ s.audit.toDo = [] ∧ s.audit.outstanding = [2] ∧ (s.dock 2).state = .unverified ∧
       (4#8 : Byte).getLsbD 0 = false ∧ (∀ r ∈ s.hires, r.state = .starting → r.dockFrom ≠ some 2) ∧ s.batch = none ∧
       (s.dock 2).retirePending = false ∧ (s.dock 2).faultCount < s.settings.dockThreshold) := by decide +kernel

theorem witness_Audits_events :
    let s : State := { dock2 (record .unverified none none none) polling with
      audit := { kind := .startUp, toDo := [2, 3], outstanding := [], mismatches := 0, counted := [] } }
    (pollInFlight s = true ∧ 2 < s.installed ∧ (s.dock 2).state = .unverified ∧ (s.dock 2).retirePending = false ∧
      s.batch = none ∧ (∀ r ∈ s.hires, r.state = .starting → r.dockFrom ≠ some 2) ∧
      (s.dock 2).faultCount < s.settings.dockThreshold ∧ s.audit.toDo.erase 2 ≠ []) ∧
    (openHireOf 6 s = none ∧ ∀ e, e < s.installed → e ≠ 2 → (s.dock e).bike.bind Bike.id ≠ some 6) := by decide +kernel

theorem witness_BatterySense :
    let bike (id sense : Option Nat) : Bike := { arrivedBike id .electric 0 with sense := sense }
    let at2 (b : Bike) := dock2 (record .held (some b) none none) polling
    let idle := sending .senseStart 2 .patrol (at2 (bike (some 5) none))
    (idle.bus.inFlight = some { what := .command { kind := .senseStart, dock := 2, owner := .patrol, live := true }, ticks := some 3 } ∧
      (idle.dock 2).bike = some (bike (some 5) none)) ∧
    (((at2 (bike (some 5) (some 11))).dock 2).bike = some (bike (some 5) (some 11)) ∧
      pollInFlight (at2 (bike (some 5) (some 11))) = true ∧ 2 < polling.installed ∧
      polling.settings.batteryFloor ≤ min (10#8 : Byte).toNat 100 ∧ min (9#8 : Byte).toNat 100 < polling.settings.batteryFloor) ∧
    (((at2 (bike none (some 10))).dock 2).bike = some (bike none (some 10)) ∧ (bike none (some 10)).id = none) := by decide +kernel

/-! ## Witnesses: the journal -/

/-- A journal of `n` records under the power-on watermarks. -/
def journalOf (n : Nat) (overrun : Bool) : State := { ready with journal := {
  records := (List.range n).map fun i => { seq := i + 1, station := 0, minute := 0, entry := .overrun i }
  nextSeq := n + 1, lost := if overrun then 3 else 0, held := decide (224 ≤ n), overrun := overrun } }

theorem witness_JournalEntry :
    ((journalOf 0 false).journal.records.length < 256 ∧ (journalOf 0 false).journal.overrun = false) ∧
    (journalOf 255 false).journal.records.length < 256 ∧ 256 ≤ (journalOf 256 false).journal.records.length ∧
    ((journalOf 255 true).journal.records.length = 255 ∧ (journalOf 255 true).journal.overrun = true) ∧
    ((journalOf 254 true).journal.records.length < 255 ∧ (journalOf 254 true).journal.overrun = true) := by decide +kernel

theorem witness_JournalPeekAndRelease :
    Taken 0x30#8 .uplink (bytes [0]) ready ∧ Taken 0x30#8 .uplink (bytes [5]) ready ∧
    Taken 0x30#8 .uplink (bytes [4]) (journalOf 3 false) ∧ Taken 0x31#8 .uplink (bytes [0, 4]) (journalOf 3 false) ∧
    (journalOf 3 false).journal.records.length < 4 ∧ Taken 0x31#8 .uplink (bytes [0, 3]) (journalOf 3 false) ∧
    3 ≤ (journalOf 3 false).journal.records.length := by decide +kernel

theorem witness_JournalAndSettingsLawKept :
    settingsLaw (journalOf 225 false) = true ∧ journalLaw (journalOf 225 false).journal = true ∧
    step (journalOf 225 false) = .next (journalOf 225 false) := by
  refine ⟨by decide +kernel, by decide +kernel, rfl⟩

/-! ## Witnesses: notices -/

/-- The terminal's lists after step 4 of the worked example of section 10.4. -/
def nested : State := { ready with
  terminal := { PortState.powerOn with pending := [.bikeTaken 6 1318, .authDone 7 .ok], inService := [.hireDockOpen] } }

theorem witness_TakeAndPeekNotice :
    (Taken 0x01#8 .terminal [] ready ∧ Taken 0x02#8 .terminal [] ready ∧ ready.terminal.pending = []) ∧
    (Taken 0x01#8 .terminal [] nested ∧ Taken 0x02#8 .terminal [] nested ∧
      (nested.port .terminal).pending = [.bikeTaken 6 1318] ++ .authDone 7 .ok :: [] ∧
      (Notice.authDone 7 .ok).kind.priority ≤ (nested.port .terminal).mask ∧
      ((nested.port .terminal).pending.map Notice.kind).Nodup ∧
      ∀ m ∈ [Notice.bikeTaken 6 1318], (Notice.authDone 7 .ok).kind.priority < m.kind.priority) := by decide +kernel

/-- Step 5 of the worked example: TAKE_NOTICE hands out AUTH_DONE with 1 left. -/
theorem test_take_notice_nested :
    (match exec (.takeNotice .terminal 0#8 []) nested with
     | .next t => (t.terminal.reply.map Reply.fields) ==
         some [.num 1 1, .area [7#8, 0#8, 0#8, 0#8, 0#8, 0#8, 0#8, 0#8], .num 1 1] && t.terminal.pending == [.bikeTaken 6 1318] &&
         t.terminal.inService == [.hireDockOpen, .authDone] && !attn .terminal t
     | _ => false) = true := by decide +kernel

theorem witness_NoticeEndAndMask :
    let both : State := { nested with terminal := { nested.terminal with inService := [.hireDockOpen, .authDone] } }
    (Taken 0x03#8 .terminal (bytes [7]) nested ∧ numAt (bytes [7]) 0 1 ≠ 255) ∧
    (Taken 0x03#8 .terminal (bytes [1]) nested ∧ NoticeKind.authDone.port = .terminal ∧ NoticeKind.authDone.code = 1 ∧
      .authDone ∉ (nested.port .terminal).inService) ∧
    (Taken 0x03#8 .terminal (bytes [2]) both ∧ (both.port .terminal).inService = [] ++ .hireDockOpen :: [.authDone] ∧
      NoticeKind.hireDockOpen.code = 2) ∧
    (Taken 0x03#8 .terminal (bytes [255]) ready ∧ (ready.port .terminal).inService = []) ∧
    (Taken 0x03#8 .terminal (bytes [255]) both ∧ (both.port .terminal).inService = [.hireDockOpen] ++ .authDone :: [] ∧
      .authDone ∉ [NoticeKind.hireDockOpen] ∧
      ∀ m ∈ [NoticeKind.hireDockOpen], NoticeKind.authDone.priority ≤ m.priority) ∧
    (Taken 0x04#8 .terminal (bytes [8]) nested ∧ Taken 0x04#8 .terminal (bytes [7]) nested) := by decide +kernel

theorem witness_NoticeEndAndMask_unknown : ∀ k : NoticeKind, k.port = .terminal → k.code ≠ 7 := by
  intro k
  cases k <;> decide

theorem witness_NoticesLawKept : noticesLaw nested = true ∧ step nested = .next nested :=
  ⟨by decide +kernel, rfl⟩

/-! ## Witnesses: the configuration and the ports -/

/-- The fields of a CONFIG_SET with one setting. -/
def configFields (field v : Nat) : List Byte := bytes [1, field] ++ beBytes 4 v

/-- A CONFIG_SET with one setting is taken and carries it. -/
abbrev taken (field v : Nat) (s : State) : Prop :=
  Taken 0x34#8 .uplink (configFields field v) s ∧ numAt (configFields field v) 1 1 = field ∧
    numAt (configFields field v) 2 4 = v

theorem witness_Configuration :
    let numbered : State := { ready with settings := { ready.settings with stationNumber := 1 } }
    (Taken 0x34#8 .uplink (bytes [0]) ready ∧ Taken 0x09#8 .service [] ready ∧
      ready.settings.lowerWatermark < ready.settings.upperWatermark) ∧
    (taken 1 7 ready ∧ settingRange 1 = some (8, 64)) ∧
    (taken 19 5 numbered ∧ settingRange 19 = some (1, 65535) ∧ numbered.settings.stationNumber ≠ 0) ∧
    (taken 1 64 ready ∧ taken 19 65535 ready ∧ ready.settings.stationNumber = 0) := by
  decide +kernel

theorem witness_Configuration_patrolAndWatermarks :
    let off : State := { ready with settings := { ready.settings with patrolEnable := 0 } }
    (taken 10 1 ready ∧ taken 10 0 ready ∧ ready.settings.patrolEnable = 1 ∧ ready.due.postscaler = false) ∧
    (taken 10 1 off ∧ off.settings.patrolEnable = 0) ∧
    (taken 17 224 ready ∧ settingRange 17 = some (0, 254) ∧ ready.settings.upperWatermark = 224) ∧
    (taken 16 160 ready ∧ settingRange 16 = some (64, 255) ∧ ready.settings.lowerWatermark = 160) ∧
    (taken 16 200 (journalOf 200 false) ∧ (journalOf 200 false).journal.held = false ∧
      200 ≤ (journalOf 200 false).journal.records.length ∧ (journalOf 199 false).journal.records.length < 200) := by
  decide +kernel

theorem witness_PortLine :
    let broken : State := { ready with uplink := { ready.uplink with atSpacing := true } }
    let bad : List Byte := bytes [2, 0x7E, 9, 1, 1]
    (ready.pinLow = false ∧ (ready.port .uplink).atSpacing = false ∧ (1#8 : Byte).toNat < 2 ∧ 250 < (251#8 : Byte).toNat) ∧
    (frameComplete (bytes [2, 1, 2, 0, 0]) = true ∧ frameChecks (bytes [2, 1, 2, 0, 0]) = false ∧ 0x7E#8 ∉ bytes [2, 1, 2, 0, 0]) ∧
    (bad = 2#8 :: ([] ++ 0x7E#8 :: bytes [9, 1, 1]) ∧ frameComplete bad = true ∧ frameChecks bad = false ∧ 0x7E#8 ∉ [2#8] ∧
      bytes [9, 1, 1] = 9#8 :: bytes [1, 1] ∧ 2 ≤ (9#8 : Byte).toNat ∧ (9#8 : Byte).toNat ≤ 250 ∧
      (bytes [1, 1]).length < (9#8 : Byte).toNat + 2) ∧
    ((broken.port .uplink).atSpacing = true ∧ { ready with pinLow := true }.pinLow = true) := by decide +kernel

theorem witness_PortLine_inside :
    let inside := 4#8 :: ([] ++ requestBytes 0x01#8 9#8 [])
    (0x7E#8 ∉ [4#8] ∧ frameComplete inside = true ∧ frameChecks inside = false) ∧
    (∃ t, exec (.requestFrameWaiting .uplink 0x01#8 9#8 []) ready = .next t ∧ (t.port .uplink).partialFrame = []) :=
  ⟨by decide +kernel, _, rfl, by decide +kernel⟩

/-- The resumed search comes to stand in an inner frame, or takes a request frame that it completes (R166). -/
theorem test_resumed_search :
    (match exec (.requestFrameBadCheck .uplink (bytes [2, 0x7E, 9, 1, 1])) ready with
     | .next t => t.uplink.partialFrame == bytes [0x7E, 9, 1, 1]
     | _ => false) = true ∧
    (match exec (.requestFrameBadCheck .uplink (4#8 :: requestBytes 0x01#8 9#8 [])) ready with
     | .next t => t.uplink.partialFrame == [] && (t.uplink.reply.map Reply.tag) == some 9#8
     | _ => false) = true := by decide +kernel

theorem witness_FramesTakenInTurn :
    let sent : State := { ready with uplink := { ready.uplink with reply := some { code := 0xA2#8, tag := 0#8, result := .ok, fields := [] } } }
    let waits : State := { sent with uplink := { sent.uplink with waiting := some { code := 0x10#8, tag := 1#8, fields := [] } } }
    (deaf .uplink ready = false ∧ (ready.port .uplink).waiting = none ∧ (ready.port .uplink).reply = none) ∧
    ((sent.port .uplink).reply.isSome ∧ (sent.port .uplink).waiting = none ∧ deaf .uplink sent = false) ∧
    ((waits.port .uplink).waiting = some { code := 0x10#8, tag := 1#8, fields := [] } ∧
      portChecks 0x10#8 .uplink [] waits.station = some .notHere) ∧
    (let asks : State := { sent with uplink := { sent.uplink with waiting := some { code := 0x23#8, tag := 1#8, fields := [] } } }
     (asks.port .uplink).reply.isSome ∧ deaf .uplink asks = false ∧ (asks.port .uplink).partialFrame = [] ∧
       (asks.port .uplink).waiting = some { code := 0x23#8, tag := 1#8, fields := [] } ∧
       portChecks 0x23#8 .uplink [] asks.station = none) ∧
    requestRow 0x27#8 = none ∧
    (requestRow 0x20#8 = some ⟨0x20#8, false, true, false, true, .counted 1 15 0⟩ ∧
      requestRow 0x22#8 = some ⟨0x22#8, false, true, false, false, .fixed 7⟩) := by decide +kernel

theorem witness_FramesTakenInTurn_known : ∃ request ∈ requestCommands, request.1 = 0x23#8 ∧
    request.2 .uplink 1#8 [] = .authList .uplink 1#8 [] :=
  ⟨(0x23#8, .authList), List.mem_of_getElem? (i := 13) rfl, rfl, rfl⟩

theorem witness_BytesReadBack :
    (bytes [1, 2]).length ≤ 248 ∧ 65535 < 256 ^ 2 ∧
    (let r : Record := { seq := 4294967295, station := 65535, minute := 4294967295
                         entry := .hireClose 7 9 5 (.remote 3) 16384 999999 (-99999) }
     r.seq < 4294967296 ∧ r.station < 65536 ∧ r.minute < 4294967296 ∧
       r.entry = .hireClose 7 9 5 (.remote 3) 16384 999999 (-99999) ∧ 999999 ≤ 999999 ∧ (-99999 : Int) ≤ -99999) := by decide

/-! ## A few steps through the station -/

/-- The rider's return of the witness: the hire is closed at no charge, the dock HELD, the terminal told. -/
theorem test_rider_return :
    (match exec (.inserted 2#8 5#24 0#8 false) returning with
     | .next t => t.hires.isEmpty && (t.dock 2).state == .held && t.cards.map Card.held == [0] &&
         t.terminal.pending == [.returnDone 2 7 0] && t.bus.inFlight.isNone
     | _ => false) = true := by decide +kernel

/-- HIRE_START at dock 2: accepted as hire 1, with the UNLATCH taken onto the idle bus. -/
theorem test_hire_start :
    (match exec (.hireStart .terminal 0#8 (hireFields 9 0 2)) toHire with
     | .next t => (t.dock 2).state == .releasing && t.hires.map Hire.number == [1] && t.cards.map Card.held == [3000] &&
         t.bus.inFlight == some { what := .command { kind := .unlatch, dock := 2, owner := .release, live := true }, ticks := none }
     | _ => false) = true := by decide +kernel

/-- A pull under an expired window races the closing LOCK: LOCKED_EMPTY starts the hire (section 3.2). -/
theorem test_locked_empty_pull :
    let s := hired .starting none (sending .lock 2 .release
      (dock2 (record .releasing (some bike5) (some (.hire 7)) (some .locking)) ready))
    (match exec (.lockedEmpty 2#8) s with
     | .next t => (t.dock 2).state == .vacant && t.hires.map Hire.state == [.out] && t.terminal.pending == [.bikeTaken 2 7]
     | _ => false) = true := by decide +kernel

/-- The worked example of section 8.2 at dock 21, here dock 2: another bike than the recorded one is found by the patrol, so
that AUDIT_MISMATCH, DOCK_FAULT and the HIRE_CLOSE of its hire are journaled in this order (R141, R55). -/
theorem test_patrol_finds_another_bike :
    let s := hired .out (some 0) (visiting (record .held (some { bike5 with id := some 8 }) none none) ready)
    (match exec (.statusIs 2#8 5#24 5#8) s with
     | .next t => ((t.dock 2).bike.bind Bike.id) == some 5 && (t.dock 2).faultCount == 1 && t.hires.isEmpty &&
         (t.journal.records.map Record.entry).take 2 == [.auditMismatch 2 (some 8) (some 5), .dockFault 2 .auditMismatch 1] &&
         t.depth == 3
     | _ => false) = true := by decide +kernel

/-- A severe report raises the count to the threshold and retires a HELD dock (R128). -/
theorem test_crew_report_retires :
    (match exec (.reportFault .service 0#8 (faultFields 5 2)) toHire with
     | .next t => (t.dock 2).state == .retired && (t.dock 2).faultCount == 3 && t.service.pending == [.dockRetired 2] &&
         t.depth == 2
     | _ => false) = true := by decide +kernel

/-- A target of 16 over six hireable docks takes two and leaves min keep 4 (R108). -/
theorem test_target_leaves_min_keep :
    (match exec (.batchOpen .service 0#8 (batchOf 0 16 [])) sixHeld with
     | .next t => (List.range 6).map (fun d => (t.dock d).vanHold) == [true, true, false, false, false, false]
     | _ => false) = true := by decide +kernel

end Sys2Proof.Tests
end

section
/-! PROOFS. The Dock Table: what it holds at power-on, the verdict of R15, and its three requests. -/

namespace Sys2Proof.Machine

/-! ## Power-on -/

/-- Every dock record stands at power-on after reset, a number above 63 reading the same (R7). -/
theorem dock_reset (d : Nat) : State.reset.dock d = Dock.powerOn := by
  unfold State.dock State.reset
  simp only [Vector.getElem?_replicate]
  split <;> rfl

theorem group_reset (g : Nat) : State.reset.group g = Attributes.open := by
  unfold State.group State.reset
  simp only [Vector.getElem?_replicate]
  split <;> rfl

theorem policy_reset (i : Nat) : State.reset.policy i = Policy.powerOn := by
  unfold State.policy State.reset
  simp only [Vector.getElem?_replicate]
  split <;> rfl

theorem tariff_reset (i : Nat) : State.reset.tariff i = Tariff.powerOn := by
  unfold State.tariff State.reset
  simp only [Vector.getElem?_replicate]
  split <;> rfl

theorem port_reset (p : Port) : State.reset.port p = PortState.powerOn := by cases p <;> rfl

end Sys2Proof.Machine

namespace Sys2Proof.Settled

open Sys2Proof.Machine

/-- Settles O2: each table read back from the state after reset. -/
theorem resetValues : Obligations.ResetValues := by
  unfold Obligations.ResetValues
  dsimp only
  refine ⟨fun d _ => ?_, rfl, fun g _ => group_reset g, fun i _ => policy_reset i, fun i _ => tariff_reset i, rfl,
    rfl, rfl, rfl, rfl, rfl, rfl, rfl, rfl, rfl, rfl, rfl, rfl, rfl, rfl, rfl, rfl, fun p => ?_⟩
  · rw [dock_reset]
    exact ⟨rfl, rfl, rfl, rfl, rfl, rfl, rfl, rfl, rfl⟩
  · rw [port_reset]
    exact ⟨rfl, rfl, rfl⟩

end Sys2Proof.Settled

namespace Sys2Proof.Machine

/-! ## The hireable verdict (R15) -/

theorem riderClass_iff (c : DockClass) : riderClass c = true ↔ c = .standard ∨ c = .charging := by
  simp [riderClass]

/-- An identified docked bike is quarantined only by an entry of the Bike Fault Table with its flag set (R3). -/
theorem quarantined_eq_false_iff {k : Dock} {b : Bike} (hb : k.bike = some b) (s : State) :
    quarantined k s = false ↔ ∀ i f, b.id = some i → findBikeFault i s = some f → f.quarantined = false := by
  unfold quarantined quarantinedId
  rw [hb]
  cases hi : b.id with
  | none => simp [hi]
  | some i =>
    simp only [hi, Option.some.injEq]
    constructor
    · rintro h j f rfl hf
      simpa [hf] using h
    · intro h
      cases hf : findBikeFault i s with
      | none => rfl
      | some f => exact h i f rfl hf

/-- The charge level of a bike is below min charge, or absent (R15). -/
theorem charged_eq_false_iff (b : Bike) (s : State) :
    charged b s = false ↔ ∀ c, b.charge = some c → c.level < s.settings.minCharge := by
  unfold charged
  cases b.charge <;> simp

theorem verdict_vanHold {d : Nat} {s : State} (h : (s.dock d).vanHold = true) : verdict d s = .vanHold := if_pos h

theorem verdict_notPermitted {d : Nat} {s : State} (h : (s.dock d).vanHold = false)
    (hr : ¬ (riderClass (effective d s).cls = true ∧ (effective d s).releasePermitted = true)) :
    verdict d s = .notPermitted := by
  unfold verdict
  rw [if_neg (by simp [h]), if_pos]
  simpa [Classical.or_iff_not_imp_left] using hr

/-- Past the van hold and the permission, a dock with no bike is not ready (R15). -/
theorem verdict_noBike {d : Nat} {s : State} (h : (s.dock d).vanHold = false)
    (hr : riderClass (effective d s).cls = true ∧ (effective d s).releasePermitted = true)
    (hb : (s.dock d).bike = none) : verdict d s = .notReady := by
  unfold verdict
  rw [if_neg (by simp [h]), if_neg (by simp [hr]), hb]

/-- Past the van hold and the permission, the verdict is about the bike (R15). -/
theorem verdict_bike {d : Nat} {s : State} (h : (s.dock d).vanHold = false)
    (hr : riderClass (effective d s).cls = true ∧ (effective d s).releasePermitted = true)
    {b : Bike} (hb : (s.dock d).bike = some b) :
    verdict d s =
      if (s.dock d).state = .held ∧ (s.dock d).retirePending = false ∧ b.id.isSome ∧
          quarantined (s.dock d) s = false then
        if b.kind = .electric ∧ (effective d s).cls = .charging ∧ charged b s = false then .lowCharge else .hireable
      else .notReady := by
  unfold verdict
  rw [if_neg (by simp [h]), if_neg (by simp [hr]), hb]

end Sys2Proof.Machine

namespace Sys2Proof.Settled

open Sys2Proof.Machine

/-- Settles O8: the rows of R15 in their order. -/
theorem hireableVerdict : Obligations.HireableVerdict := by
  unfold Obligations.HireableVerdict
  intro d s k a rider ready low
  have hrider : (riderClass (effective d s).cls = true ∧ (effective d s).releasePermitted = true) ↔ rider := by
    rw [riderClass_iff]
    exact Iff.rfl
  have hready : ∀ b, k.bike = some b →
      ((s.dock d).state = .held ∧ (s.dock d).retirePending = false ∧ b.id.isSome ∧
        quarantined (s.dock d) s = false ↔ ready b) := fun b hb => by
    rw [quarantined_eq_false_iff hb]
  have hlow : ∀ b, (b.kind = .electric ∧ (effective d s).cls = .charging ∧ charged b s = false ↔ low b) := fun b => by
    rw [charged_eq_false_iff]
    exact Iff.rfl
  refine ⟨verdict_vanHold, fun h hr => verdict_notPermitted h (hrider.not.mpr hr), fun h hr b hb h1 h2 => ?_,
    fun h hr b hb h1 h2 => ?_, fun h hr b hb h1 => ?_, fun h hr hb => verdict_noBike h (hrider.mpr hr) hb⟩ <;>
    rw [verdict_bike h (hrider.mpr hr) hb]
  · exact (if_pos ((hready b hb).mpr h1)).trans (if_pos ((hlow b).mpr h2))
  · exact (if_pos ((hready b hb).mpr h1)).trans (if_neg ((hlow b).not.mpr h2))
  · exact if_neg ((hready b hb).not.mpr h1)

end Sys2Proof.Settled

namespace Sys2Proof.Machine

/-! ## DOCK_READ and DOCK_LIST -/

/-- The fields of DOCK_READ in their widths, one by one (R17, R170). -/
theorem dockFields_eq (d : Nat) (s : State) :
    let k := s.dock d
    let yes (b : Bool) : ReplyField := .num 1 b.toNat
    dockFields d s =
        [.num 1 d, .num 1 k.state.code, yes k.bike.isSome, .num 3 ((k.bike.bind Bike.id).getD 0),
         .num 1 (match k.bike with | some b => b.kind.code | none => 0),
         .num 4 (match k.bike with | some b => b.dockedSince | none => 0),
         yes (k.bike.bind Bike.charge).isSome,
         .num 1 (match k.bike.bind Bike.charge with | some c => c.level | none => 0),
         yes (k.bike.bind Bike.sense).isSome, yes (quarantined k s), yes k.owner.isSome,
         .num 2 (match k.owner with | some (.hire h) => h | some .batch => Config.batchOwner.toNat | none => 0),
         yes k.reserved, yes k.vanHold, yes k.retirePending, yes k.owed.isSome, .num 1 k.faultCount, .num 1 k.identRetries,
         yes (s.group (d / 4)).releasePermitted, yes (s.group (d / 4)).returnPermitted, .num 1 (s.group (d / 4)).cls.code,
         yes (effective d s).releasePermitted, yes (effective d s).returnPermitted, .num 1 (effective d s).cls.code,
         .num 1 (verdict d s).code] := by
  intro k yes
  have hk : s.dock d = k := rfl
  unfold dockFields Dock.level
  rw [hk]
  have howner : ((k.owner.map Owner.code).isSome, (k.owner.map Owner.code).getD 0) =
      (k.owner.isSome, match k.owner with | some (.hire h) => h | some .batch => Config.batchOwner.toNat | none => 0) := by
    rcases k.owner with _ | _ | _ <;> rfl
  obtain ⟨hsome, hvalue⟩ := Prod.ext_iff.mp howner
  dsimp only at hsome hvalue
  simp only [optionField, hsome, hvalue]
  cases hb : k.bike with
  | none => rfl
  | some b => cases hc : b.charge <;> simp [hc, attributeFields, byteField, yesField, bikeField, longField, yes]

theorem exec_dockRead (p : Port) (tag : Byte) (fields : List Byte) (s : State) :
    exec (.dockRead p tag fields) s = .next (frameArrives p 0x08#8 tag fields s) := rfl

theorem exec_dockList (p : Port) (tag : Byte) (fields : List Byte) (s : State) :
    exec (.dockList p tag fields) s = .next (frameArrives p 0x13#8 tag fields s) := rfl

theorem exec_attrSet (p : Port) (tag : Byte) (fields : List Byte) (s : State) :
    exec (.attrSet p tag fields) s = .next (frameArrives p 0x2A#8 tag fields s) := rfl

end Sys2Proof.Machine

namespace Sys2Proof.Settled

open Sys2Proof.Machine

/-- Settles O10: both requests answer from the table, by what a request that only reads does. -/
theorem dockReadAndList : Obligations.DockReadAndList := by
  unfold Obligations.DockReadAndList
  intro s p tag fields
  simp only [exec_dockRead, exec_dockList, Host.Outcome.next.injEq]
  refine ⟨fun h => ⟨fun hd => ?_, fun hd => ?_⟩, fun h => ?_, fun hf hp h0 hs => ?_, fun hf hp => ?_⟩
  · refine frameArrives_reads h rfl rfl fun t ht => ?_
    subst ht
    exact if_pos (by simpa using hd)
  · refine frameArrives_reads h rfl rfl fun t ht => ?_
    subst ht
    refine (if_neg (by simpa using hd)).trans ?_
    rw [dockFields_modPort]
    exact congrArg (fun reply => (_, _, reply)) (dockFields_eq _ s)
  · refine frameArrives_reads h rfl rfl fun t ht => ?_
    subst ht
    unfold dockList
    simp only [countDocks_modPort, verdict_modPort, kindAt_modPort, returnAllowed_modPort, modPort_dock]
    rfl
  · refine frameArrives_refused hf rfl ?_
    rw [h0, hs]
    cases p
    · rfl
    · exact absurd rfl hp
    · rfl
  · refine frameArrives_refused hf rfl ?_
    rw [hp]
    rfl

end Sys2Proof.Settled

namespace Sys2Proof.Machine

/-! ## ATTR_SET (R13) -/

theorem inFlightState_iff (st : DockState) :
    inFlightState st = true ↔ st = .claimed ∨ st = .releasing ∨ st = .latching ∨ st = .ejecting := by
  cases st <;> decide

/-- Check 5 of R13, over the installed docks of the group. -/
theorem groupBusy_iff (g : Nat) (s : State) : groupBusy g s = true ↔
    ∃ d, d < s.installed ∧ d / 4 = g ∧ ((s.dock d).state = .claimed ∨ (s.dock d).state = .releasing ∨
      (s.dock d).state = .latching ∨ (s.dock d).state = .ejecting) := by
  simp [groupBusy, State.installedDocks, inFlightState_iff]

theorem fieldClass_code {n : Nat} (h : n < 4) : (fieldClass n).code = n := by
  interval_cases n <;> rfl

/-- The group entry that ATTR_SET carries (R13, R170). -/
def carriedAttributes (fields : List Byte) : Attributes where
  releasePermitted := fieldBool (numAt fields 1 1)
  returnPermitted := fieldBool (numAt fields 2 1)
  cls := fieldClass (numAt fields 3 1)

theorem attrSet_badRange {fields : List Byte} (p : Port) (s : State)
    (h : ¬ (numAt fields 0 1 ≤ 15 ∧ numAt fields 3 1 < 4 ∧ numAt fields 1 1 ≤ 1 ∧ numAt fields 2 1 ≤ 1)) :
    attrSet fields p s = (s, .refusedRange, []) := by
  unfold attrSet
  dsimp only
  split
  · rfl
  · split
    · rfl
    · rw [if_pos (by omega)]
      rfl

/-- Past its range checks ATTR_SET looks at the docks of the group and then replaces its entry (R13). -/
theorem attrSet_goodRange {fields : List Byte} (p : Port) (s : State)
    (h : numAt fields 0 1 ≤ 15 ∧ numAt fields 3 1 < 4 ∧ numAt fields 1 1 ≤ 1 ∧ numAt fields 2 1 ≤ 1) :
    attrSet fields p s = if groupBusy (numAt fields 0 1) s then (s, .groupBusy, []) else
      ({ s with attrs := s.attrs.setIfInBounds (numAt fields 0 1) (carriedAttributes fields) }, .ok, []) := by
  obtain ⟨hg, hc, hr, ht⟩ := h
  unfold attrSet
  dsimp only
  rw [if_neg (by omega), if_neg (by omega), if_neg (by omega)]
  rfl

end Sys2Proof.Machine

namespace Sys2Proof.Settled

open Sys2Proof.Machine

/-- Settles O11: the checks of R13 in their order, then the write. -/
theorem attrSet : Obligations.AttrSet := by
  unfold Obligations.AttrSet
  intro s p tag fields
  simp only [exec_attrSet, Host.Outcome.next.injEq, ← groupBusy_iff]
  refine ⟨fun hf hp => ?_, fun hf hp hl hs => ?_, fun h => ⟨fun hg => ?_, fun hg hb => ?_, fun hg hb => ?_⟩⟩
  · refine frameArrives_refused hf rfl ?_
    cases p
    · rfl
    · exact absurd rfl hp
    · rfl
  · refine frameArrives_refused hf rfl ?_
    subst hp
    simp [portChecks, requestRow, requestTable, RequestRow.takenOn, FieldSize.agrees, hl, hs]
  · exact frameArrives_reads h rfl rfl fun t _ => attrSet_badRange p t hg
  · refine frameArrives_reads h rfl rfl fun t ht => ?_
    subst ht
    rw [attrSet_goodRange p _ hg]
    exact if_pos (by simpa using hb)
  · refine ⟨carriedAttributes fields, rfl, rfl, fieldClass_code hg.2.1, ?_⟩
    refine frameArrives_taken h rfl rfl ?_
    rw [attrSet_goodRange p _ hg, if_neg (by simpa using hb)]
    cases p <;> rfl

end Sys2Proof.Settled

end

section
/-! PROOFS. Every operation of the part is made of a few elementary acts (`Acting`). A relation that is reflexive and
transitive and that the elementary acts respect holds across every operation; the walk over the operations is made once,
for any such relation. -/

namespace Sys2Proof.Machine

/-! ## The elementary acts -/

/-- The relation `R` holds across each elementary act of the blocks: a write to the Dock Table, the bus, the audit, the
patrol, the marks of expiries, the cards and hires, the Auth Queue, the batch or the Bike Fault Table, the station
becoming READY, a notice raised and a journal record entered. -/
structure Acting (R : State → State → Prop) : Prop where
  refl : ∀ s, R s s
  trans : ∀ {s t u}, R s t → R t u → R s u
  work : ∀ (b : Bus) (k : Vector Dock Config.docks) (s : State), R s { s with bus := b, docks := k }
  audit : ∀ (a : Audit) (s : State), R s { s with audit := a }
  patrol : ∀ (p : Patrol) (d : Due) (s : State), R s { s with patrol := p, due := d }
  ready : ∀ s : State, R s { s with station := .ready }
  money : ∀ (c : List Card) (h : List Hire) (n : Nat) (s : State), R s { s with cards := c, hires := h, lastHire := n }
  auths : ∀ (q : List AuthEntry) (n : Nat) (s : State), R s { s with authQueue := q, lastTag := n }
  batch : ∀ (b : Option Batch) (s : State), R s { s with batch := b }
  bikeFaults : ∀ (f : List BikeFault) (s : State), R s { s with bikeFaults := f }
  raise : ∀ (n : Notice) (s : State), R s (raise n s)
  enter : ∀ (e : Entry) (s : State), R s (enterRecord e s)

/-! ## Operations in steps -/

/-- The Bike Fault Table without the entry of an identified bike (R113, R137). -/
def dropFaultOf (i : Option Nat) (s : State) : State :=
  match i with
  | some i => dropBikeFault i s
  | none => s

/-- A collection wants its bike: a COLLECT batch is open and names it, PENDING (R113). -/
def collectWants (bike : Option Bike) (s : State) : Bool :=
  match s.batch, bike.bind Bike.id with
  | some b, some i => b.kind == .collect && b.manifest.any (fun m => !m.done && m.bike == i)
  | _, _ => false

/-- A collection up to the notice that tells it: steps 2 to 5 of R113. -/
def collected (bike : Option Bike) (d : Nat) (s : State) : State :=
  let id := bike.bind Bike.id
  let s2 := dropFaultOf id
    (modBatch (fun b => if collectWants bike s then b.markDone (id.getD 0) else b.countDone) s)
  let s3 := enterRecord (.bikeCollected (id.getD 0) d (crewOf s2)) s2
  raise (.batchProgress (doneCount s3)) s3

/-- A collection is its steps 2 to 5, and then the idle timer unless the batch waits for its end (R113, R117). -/
theorem collect_eq (bike : Option Bike) (d : Nat) (s : State) :
    collect bike d s = match (collected bike d s).batch with
      | some b => if b.expiryWaiting then collected bike d s else restartIdle (collected bike d s)
      | none => collected bike d s := rfl

/-- What follows at the owner of a release that has ended without a pull (R50, R52, R114). -/
def releaseOver (d : Nat) (o : Option Owner) (s : State) : State :=
  match o with
  | some (.hire h) => lapseHire d h s
  | some .batch => batchReleaseEnded s
  | none => s

/-- A rider return moves a reservation that the pull of R6 has put on its dock (R106, R111; assumption log 16). -/
def reservationAside (d : Nat) (delivery : Bool) (s : State) : State :=
  if !delivery && (s.dock d).state == .reserved && (s.dock d).reserved then moveReservation d s else s

/-- Dock `d` becomes HELD with an arrived bike, held for the van if it is wanted (R4, R56, R107). -/
def takeIn (d T : Nat) (kind : BikeKind) (s : State) : State :=
  holdIfWanted d (modDock d (fun k => { k.settled .held (some (newBike T kind s.now)) with vanHold := false }) s)

/-- An arrival is told: as a delivery under a batch that is still open, else as a rider return (R56, R110). -/
def tellArrival (d T : Nat) (delivery : Bool) (x : State × Option (Nat × Nat)) : State :=
  if delivery && x.1.batch.isSome then deliver d T x.1 else riderReturn d T x.2 x.1

/-- An ELECTRIC bike that arrives at a CHARGING dock is sensed (R56, R150). -/
def senseArrival (d : Nat) (kind : BikeKind) (s : State) : State :=
  if kind = .electric ∧ (effective d s).cls = .charging then placeSense d s else s

/-- The steps of an accepted arrival (R56). -/
theorem acceptArrival_eq (d T : Nat) (kind : BikeKind) (delivery : Bool) (s : State) :
    acceptArrival d T kind delivery s = applyPending d (senseArrival d kind (tellArrival d T delivery
      (closeBikeHire T d (takeIn d T kind (reservationAside d delivery (clearElsewhere d T s)))))) := rfl

/-- A RESERVED dock that an arrival other than a delivery comes to passes its reservation on (R54, R111). -/
def reservationLost (d : Nat) (s : State) : State := if (s.dock d).state = .reserved then moveReservation d s else s

theorem arriveFree_eq (d T : Nat) (kind : BikeKind) (s : State) :
    arriveFree d T kind s = if isDelivery d T s then acceptArrival d T kind true s
      else if returnAllowed d (reservationLost d s) then
        if T = 0 then enterLatching d (reservationLost d s) else acceptArrival d T kind false (reservationLost d s)
      else refuseArrival d (reservationLost d s) := rfl

/-- The STARTING hire on an UNVERIFIED dock that is found empty becomes OUT (R148). -/
def startedWhenGone (d : Nat) (s : State) : State :=
  match startingHireAt d s with
  | some r => startAtAudit r d s
  | none => s

/-- The record of an UNVERIFIED dock found empty, and the reservation that may follow (R106, R148). -/
def resolvedEmpty (d : Nat) (s : State) : State :=
  let s2 := modDock d (fun k => { k.settled .vacant none with vanHold := false }) s
  if (s2.dock d).retirePending then s2 else topUp s2

theorem resolveEmpty_eq (d : Nat) (s : State) :
    resolveEmpty d s = afterResolution d (resolvedEmpty d (startedWhenGone d s)) := rfl

/-- The STARTING hire on an UNVERIFIED dock that is found with a bike is cancelled, or is OUT with another (R148). -/
def hireWhenFound (d : Nat) (f : Found) (s : State) : State :=
  match startingHireAt d s with
  | some r => if f.tag = 0 ∨ f.tag = r.bike then cancelHire r s else startAtAudit r d s
  | none => s

/-- R6 for a bike whose tag was read. -/
def clearIfRead (d T : Nat) (s : State) : State := if T = 0 then s else clearElsewhere d T s

/-- R93 for a bike whose tag was read. -/
def closeIfRead (d T : Nat) (s : State) : State := if T = 0 then s else (closeBikeHire T d s).1

/-- A lock found open is closed by the Patrol Unit (R142, R148). -/
def lockIfOpen (d : Nat) (f : Found) (s : State) : State := if f.closed then s else placeLock patrolLock d s

/-- The steps of a resolution with a bike (R148). -/
theorem resolveFound_eq (d : Nat) (f : Found) (s : State) :
    resolveFound d f s = afterResolution d (senseCheck d (lockIfOpen d f (closeIfRead d f.tag
      (takeIn d f.tag f.kind (clearIfRead d f.tag (hireWhenFound d f s)))))) := rfl

/-- The STARTING hire on an UNVERIFIED dock that goes, or is silent, is cancelled (R9, R148). -/
def hireWhenGone (d : Nat) (s : State) : State :=
  match startingHireAt d s with
  | some r => cancelHire r s
  | none => s

theorem resolveSilent_eq (d : Nat) (s : State) : resolveSilent d s = enterRetiredEmpty d (hireWhenGone d s) := rfl

/-- The bike of a dropped dock is journaled missing (R9). -/
def missedWhenDropped (d : Nat) (s : State) : State :=
  match (s.dock d).bike with
  | some b => enterRecord (.bikeMissing (b.id.getD 0) d) s
  | none => s

theorem dropDock_eq (d : Nat) (s : State) :
    dropDock d s = setDock d Dock.powerOn (hireWhenGone d (missedWhenDropped d s)) := rfl

/-- The docks dropped or set up as the next docks-installed value is applied (R9). -/
def renumberDocks (s : State) : State :=
  if s.settings.docksNext < s.installed then
    (docksFrom s.settings.docksNext s.installed).foldl (fun t d => dropDock d t) s
  else (docksFrom s.installed s.settings.docksNext).foldl (fun t d => setDock d Dock.powerOn t) s

theorem applyInstalled_eq (s : State) :
    applyInstalled s = { renumberDocks s with installed := s.settings.docksNext } := rfl

variable {R : State → State → Prop}

namespace Acting

theorem busOnly (A : Acting R) {s t : State} (h : BusOnly s t) : R s t := by
  rw [h.1]
  exact A.work _ _ s

theorem setDock (A : Acting R) (d : Nat) (k : Dock) (s : State) : R s (setDock d k s) := A.work _ _ s

theorem modDock (A : Acting R) (d : Nat) (f : Dock → Dock) (s : State) : R s (modDock d f s) := A.setDock d _ s

theorem modBus (A : Acting R) (f : Bus → Bus) (s : State) : R s (modBus f s) := A.work _ _ s

theorem modAudit (A : Acting R) (f : Audit → Audit) (s : State) : R s (modAudit f s) := A.audit _ s

theorem modDue (A : Acting R) (f : Due → Due) (s : State) : R s (modDue f s) := A.patrol s.patrol _ s

theorem modCard (A : Acting R) (id : Nat) (f : Card → Card) (s : State) : R s (modCard id f s) :=
  A.money _ s.hires s.lastHire s

theorem modHire (A : Acting R) (h : Nat) (f : Hire → Hire) (s : State) : R s (modHire h f s) :=
  A.money s.cards _ s.lastHire s

theorem dropHire (A : Acting R) (h : Nat) (s : State) : R s (dropHire h s) := A.money s.cards _ s.lastHire s

theorem modBatch (A : Acting R) (f : Batch → Batch) (s : State) : R s (modBatch f s) := A.batch _ s

theorem dropAuth (A : Acting R) (tag : Nat) (s : State) : R s (dropAuth tag s) := A.auths _ s.lastTag s

theorem dropBikeFault (A : Acting R) (b : Nat) (s : State) : R s (dropBikeFault b s) := A.bikeFaults _ s

theorem modBikeFault (A : Acting R) (b : Nat) (f : BikeFault → BikeFault) (s : State) : R s (modBikeFault b f s) :=
  A.bikeFaults _ s

theorem ite (_ : Acting R) {s t u : State} (p : Prop) [Decidable p] (ht : R s t) (hu : R s u) :
    R s (if p then t else u) := by
  split
  · exact ht
  · exact hu

theorem foldl (A : Acting R) {α : Type} {f : State → α → State} (h : ∀ s a, R s (f s a)) (l : List α) (s : State) :
    R s (l.foldl f s) := by
  induction l generalizing s with
  | nil => exact A.refl s
  | cons a l ih => exact A.trans (h s a) (ih _)

/-! ## Cards and hires -/

theorem blockIfNegative (A : Acting R) (id : Nat) (s : State) : R s (blockIfNegative id s) := by
  unfold Machine.blockIfNegative
  split
  · split
    · exact A.trans (A.modCard _ _ s) (A.enter _ _)
    · exact A.refl s
  · exact A.refl s

theorem makeCardRoom (A : Acting R) (w : List Nat) (s : State) : R s (makeCardRoom w s).1 := by
  unfold Machine.makeCardRoom
  split
  · split
    · exact A.money _ s.hires s.lastHire s
    · exact A.refl s
  · exact A.refl s

theorem writeCard (A : Acting R) (w : List Nat) (c : CardSetting) (s : State) : R s (writeCard w c s).1 := by
  unfold Machine.writeCard
  split
  · exact A.modCard _ _ s
  · exact A.trans (A.makeCardRoom w s) (A.money _ (Machine.makeCardRoom w s).1.hires (Machine.makeCardRoom w s).1.lastHire _)

theorem writeCards (A : Acting R) (l : List CardSetting) (t : CardTally) (s : State) : R s (writeCards l t s).1 := by
  induction l generalizing t s with
  | nil => exact A.refl s
  | cons c l ih => exact A.trans (A.writeCard t.written c s) (ih _ _)

theorem cancelHire (A : Acting R) (r : Hire) (s : State) : R s (cancelHire r s) :=
  A.trans (A.modCard _ _ s) (A.dropHire _ _)

theorem closeHire (A : Acting R) (r : Hire) (m : Nat) (p : Place) (s : State) : R s (closeHire r m p s) :=
  A.trans (A.trans (A.trans (A.modCard _ _ s) (A.dropHire _ _)) (A.enter _ _)) (A.blockIfNegative _ _)

theorem closeBikeHire (A : Acting R) (b d : Nat) (s : State) : R s (closeBikeHire b d s).1 := by
  unfold Machine.closeBikeHire
  split
  · exact A.closeHire _ _ _ s
  · exact A.refl s

theorem makeOverdue (A : Acting R) (r : Hire) (s : State) : R s (makeOverdue r s) :=
  A.trans (A.trans (A.modHire _ _ s) (A.enter _ _)) (A.raise _ _)

theorem overdueCheck (A : Acting R) (s : State) : R s (overdueCheck s) := A.foldl (fun t r => A.makeOverdue r t) _ s

/-! ## The batch -/

/-- The record of the batch removed and a mark set beside it. -/
theorem batchOver (A : Acting R) (d : Due) (s : State) : R s { s with batch := none, due := d } :=
  A.trans (A.batch none s) (A.patrol s.patrol d _)

theorem restartIdle (A : Acting R) (s : State) : R s (restartIdle s) :=
  A.trans (A.modBatch _ s) (A.patrol (Machine.modBatch _ s).patrol _ _)

theorem topUp (A : Acting R) (s : State) : R s (topUp s) := by
  unfold Machine.topUp
  split
  · split
    · exact A.foldl (fun t d => A.modDock d _ t) _ s
    · exact A.refl s
  · exact A.refl s

theorem moveReservation (A : Acting R) (d : Nat) (s : State) : R s (moveReservation d s) := by
  unfold Machine.moveReservation
  dsimp only
  split
  · exact A.trans (A.modDock d _ s) (A.modDock _ _ _)
  · exact A.modDock d _ s

theorem holdIfWanted (A : Acting R) (d : Nat) (s : State) : R s (holdIfWanted d s) := by
  unfold Machine.holdIfWanted
  split
  · split
    · exact A.modDock d _ s
    · exact A.refl s
  · exact A.refl s

theorem giveBackSurplus (A : Acting R) (s : State) : R s (giveBackSurplus s) := by
  unfold Machine.giveBackSurplus
  split
  · split
    · split
      · exact A.modDock _ _ s
      · exact A.refl s
    · exact A.refl s
  · exact A.refl s

theorem deliver (A : Acting R) (d T : Nat) (s : State) : R s (deliver d T s) :=
  A.trans (A.trans (A.trans (A.trans (A.modBatch _ s) (A.enter _ _)) (A.raise _ _)) (A.restartIdle _))
    (A.giveBackSurplus _)

theorem endBatch (A : Acting R) (o : BatchOutcome) (s : State) : R s (endBatch o s) := by
  unfold Machine.endBatch
  split
  · exact A.refl s
  · rename_i b _
    have h1 : R s ((reservedDocks s).foldl (fun t d => giveBack d t) s) := A.foldl (fun t d => A.modDock d _ t) _ s
    have h2 : ∀ t, R t (t.installedDocks.foldl (fun t d => Machine.modDock d (fun k => { k with vanHold := false }) t) t) :=
      fun t => A.foldl (fun t d => A.modDock d _ t) _ t
    exact A.trans (A.trans (A.trans (A.trans h1 (h2 _)) (A.enter (.batchClosed b.crew b.kind o b.done b.pendingCount) _))
      (A.raise (.batchEnded o) _)) (A.batchOver _ _)

theorem batchReleaseEnded (A : Acting R) (s : State) : R s (batchReleaseEnded s) := by
  unfold Machine.batchReleaseEnded
  split
  · split
    · exact A.endBatch _ s
    · exact A.refl s
  · exact A.refl s

/-! ## Dock states and reports -/

theorem enterRetired (A : Acting R) (d : Nat) (s : State) : R s (enterRetired d s) :=
  A.trans (A.trans (A.trans (A.modDock d _ s) (A.busOnly (orphan_busOnly d _))) (A.enter _ _)) (A.raise _ _)

theorem enterRetiredEmpty (A : Acting R) (d : Nat) (s : State) : R s (enterRetiredEmpty d s) :=
  A.trans (A.modDock d _ s) (A.enterRetired d _)

theorem becomeVacant (A : Acting R) (d : Nat) (s : State) : R s (becomeVacant d s) := by
  unfold Machine.becomeVacant
  split
  · exact A.enterRetiredEmpty d s
  · exact A.trans (A.modDock d _ s) (A.topUp _)

theorem becomeHeld (A : Acting R) (d : Nat) (s : State) : R s (becomeHeld d s) := by
  unfold Machine.becomeHeld
  split
  · exact A.enterRetired d s
  · exact A.trans (A.modDock d _ s) (A.holdIfWanted d _)

theorem applyPending (A : Acting R) (d : Nat) (s : State) : R s (applyPending d s) := by
  unfold Machine.applyPending
  split
  · exact A.enterRetired d s
  · exact A.refl s

theorem retireAtThreshold (A : Acting R) (d : Nat) (s : State) : R s (retireAtThreshold d s) := by
  unfold Machine.retireAtThreshold
  split
  · exact A.enterRetired d s
  · exact A.enterRetired d s
  · exact A.trans (A.moveReservation d s) (A.enterRetired d _)
  · exact A.modDock d _ s
  · exact A.modDock d _ s
  · exact A.modDock d _ s
  · exact A.modDock d _ s
  · exact A.refl s
  · exact A.refl s

theorem reportDock (A : Acting R) (d : Nat) (c : Category) (severe : Bool) (s : State) :
    R s (reportDock d c severe s) := by
  unfold Machine.reportDock
  dsimp only
  split
  · exact A.refl s
  · split
    · exact A.trans (A.trans (A.modDock d _ s) (A.enter _ _)) (A.retireAtThreshold d _)
    · exact A.trans (A.modDock d _ s) (A.enter _ _)

theorem makeBikeFault (A : Acting R) (b : Nat) (s : State) : R s (makeBikeFault b s) := by
  unfold Machine.makeBikeFault
  split
  · exact A.refl s
  · dsimp only
    split
    · exact A.bikeFaults _ s
    · split
      · exact A.trans (A.dropBikeFault _ s) (A.bikeFaults _ _)
      · exact A.bikeFaults _ s

theorem reportBike (A : Acting R) (b : Nat) (c : Category) (severe : Bool) (s : State) :
    R s (reportBike b c severe s) := by
  unfold Machine.reportBike
  dsimp only
  split
  · exact A.refl s
  · split
    · exact A.trans (A.trans (A.trans (A.trans (A.trans (A.makeBikeFault b s) (A.modBikeFault b _ _)) (A.enter _ _))
        (A.modBikeFault b _ _)) (A.enter _ _)) (A.raise _ _)
    · exact A.trans (A.trans (A.makeBikeFault b s) (A.modBikeFault b _ _)) (A.enter _ _)

theorem endAuth (A : Acting R) (e : AuthEntry) (r : Result) (s : State) : R s (endAuth e r s) :=
  A.trans (A.trans (A.dropAuth _ s) (A.becomeHeld _ _)) (A.raise _ _)

theorem refuseClaim (A : Acting R) (d : Nat) (s : State) : R s (refuseClaim d s) := by
  unfold Machine.refuseClaim
  split
  · exact A.endAuth _ _ s
  · exact A.becomeHeld d s

theorem refuseClaimRemoved (A : Acting R) (d : Nat) (s : State) : R s (refuseClaimRemoved d s) := by
  unfold Machine.refuseClaimRemoved
  split
  · exact A.trans (A.dropAuth _ s) (A.raise _ _)
  · exact A.refl s

/-! ## Audits and placements -/

theorem placeQuiet (A : Acting R) (kind : CmdKind) (owner : PlacingUnit) (d : Nat) (s : State) :
    R s (placeQuiet kind owner d s).1 := A.busOnly (placeQuiet_busOnly kind owner d s)

theorem passOver (A : Acting R) (l : List Nat) (s : State) : R s (passOver l s) := by
  induction l generalizing s with
  | nil => exact A.refl s
  | cons d rest ih =>
    unfold Machine.passOver
    split
    · exact A.trans (A.modAudit _ s) (ih _)
    · split
      · exact ih s
      · have h := A.placeQuiet .status .patrol d s
        split
        · rename_i hp
          rw [hp] at h
          exact A.trans (A.trans h (A.modAudit _ _)) (ih _)
        · rename_i hp
          rw [hp] at h
          exact h

theorem auditPass (A : Acting R) (s : State) : R s (auditPass s) := by
  unfold Machine.auditPass
  split
  · exact A.refl s
  · exact A.passOver _ s

theorem startInterval (A : Acting R) (s : State) : R s (startInterval s) := by
  unfold Machine.startInterval
  split
  · exact A.patrol _ _ s
  · exact A.refl s

theorem auditEnd (A : Acting R) (s : State) : R s (auditEnd s) := by
  unfold Machine.auditEnd
  split
  · split
    · exact A.refl s
    · exact A.trans (A.trans (A.modAudit _ s) (A.raise _ _)) (A.startInterval _)
    · exact A.trans (A.trans (A.trans (A.modAudit _ s) (A.ready _)) (A.raise _ _)) (A.startInterval _)
  · exact A.refl s

theorem auditStep (A : Acting R) (s : State) : R s (auditStep s) := A.trans (A.auditPass s) (A.auditEnd _)

theorem tryReread (A : Acting R) (d : Nat) (s : State) : R s (tryReread d s) := by
  have h := A.placeQuiet .status .release d s
  unfold Machine.tryReread
  split
  · rename_i hp
    rw [hp] at h
    exact A.trans h (A.modDock d _ _)
  · rename_i hp
    rw [hp] at h
    exact h

theorem handDropped (A : Acting R) (c : Cmd) (s : State) : R s (handDropped c s) := by
  unfold Machine.handDropped
  split
  · split
    · exact A.trans (A.modAudit _ s) (A.auditStep _)
    · exact A.refl s
  · split
    · exact A.trans (A.modDock _ _ s) (A.tryReread _ _)
    · exact A.refl s
  · exact A.refl s

theorem dropped (A : Acting R) (c : Cmd) (s : State) : R s (dropped c s) := by
  unfold Machine.dropped
  split
  · have h := A.busOnly (lockChange_busOnly { kind := .lock, owner := .release, live := true } c.dock s)
    split
    · rename_i hl
      rw [hl] at h
      exact A.trans (A.trans h (A.modDock _ _ _)) (A.handDropped _ _)
    · rename_i hl
      rw [hl] at h
      exact A.trans h (A.modDock _ _ _)
  · exact A.handDropped c s

theorem placeLock (A : Acting R) (o : Owed) (d : Nat) (s : State) : R s (placeLock o d s) := by
  have h := A.busOnly (lockChange_busOnly o d s)
  unfold Machine.placeLock
  split
  · rename_i hl
    rw [hl] at h
    exact A.trans (A.trans h (A.dropped _ _)) (A.busOnly (kick_busOnly _))
  · rename_i hl
    rw [hl] at h
    exact A.trans h (A.busOnly (kick_busOnly _))

theorem placeUnlatch (A : Acting R) {d : Nat} {s t : State} (h : placeUnlatch d s = some t) : R s t := by
  unfold Machine.placeUnlatch at h
  split at h
  · cases h
  · rename_i hu
    cases h
    exact A.trans (A.trans (A.busOnly (unlatchChange_busOnly hu)) (A.dropped _ _)) (A.busOnly (kick_busOnly _))
  · rename_i hu
    cases h
    exact A.trans (A.busOnly (unlatchChange_busOnly hu)) (A.busOnly (kick_busOnly _))

theorem placeSense (A : Acting R) (d : Nat) (s : State) : R s (placeSense d s) := A.placeQuiet _ _ d s

theorem senseCheck (A : Acting R) (d : Nat) (s : State) : R s (senseCheck d s) := by
  unfold Machine.senseCheck
  split
  · exact A.placeSense d s
  · exact A.refl s

theorem endOperation (A : Acting R) (d : Nat) (s : State) : R s (endOperation d s) := A.busOnly (endOperation_busOnly d s)

/-! ## The release -/

theorem beginRelease (A : Acting R) (d : Nat) (o : Owner) (s : State) : R s (beginRelease d o s) := A.modDock d _ s

theorem setPhase (A : Acting R) (d : Nat) (p : Phase) (s : State) : R s (setPhase d p s) := A.modDock d _ s

theorem placeHold (A : Acting R) (id amount : Nat) (s : State) : R s (placeHold id amount s) := A.modCard _ _ s

theorem acceptHire (A : Acting R) (c : Card) (i : Nat) (k : BikeKind) (d : Nat) (s : State) :
    R s (acceptHire c i k d s) :=
  A.trans (A.trans (A.money s.cards (s.hires ++ [acceptedHire (freeHireNumber s) c i k d s]) (freeHireNumber s) s)
    (A.placeHold _ _ _)) (A.beginRelease d _ _)

theorem releaseOpened (A : Acting R) (d : Nat) (s : State) : R s (releaseOpened d s) := by
  unfold Machine.releaseOpened
  dsimp only
  split
  · exact A.trans (A.modDock d _ s) (A.raise _ _)
  · exact A.trans (A.modDock d _ s) (A.raise _ _)
  · exact A.modDock d _ s

theorem dropFaultOf (A : Acting R) (i : Option Nat) (s : State) : R s (dropFaultOf i s) := by
  unfold Machine.dropFaultOf
  split
  · exact A.dropBikeFault _ s
  · exact A.refl s

theorem collect (A : Acting R) (k : Option Bike) (d : Nat) (s : State) : R s (collect k d s) := by
  have h : R s (collected k d s) :=
    A.trans (A.trans (A.trans (A.modBatch _ s) (A.dropFaultOf _ _)) (A.enter _ _)) (A.raise _ _)
  rw [collect_eq]
  split
  · split
    · exact h
    · exact A.trans h (A.restartIdle _)
  · exact h

theorem pull (A : Acting R) (d : Nat) (s : State) : R s (pull d s) := by
  unfold Machine.pull
  dsimp only
  split
  · refine A.trans ?_ (A.raise _ _)
    have h2 := fun h => A.trans (A.trans (A.endOperation d s) (A.modHire h _ _)) (A.becomeVacant d (hireOut h _))
    split
    · exact A.trans (h2 _) (A.enter _ _)
    · exact h2 _
  · exact A.trans (A.trans (A.trans (A.endOperation d s) (A.becomeVacant d _)) (A.collect _ d _)) (A.batchReleaseEnded _)
  · exact A.trans (A.endOperation d s) (A.becomeVacant d _)

theorem lapseHire (A : Acting R) (d h : Nat) (s : State) : R s (lapseHire d h s) := by
  unfold Machine.lapseHire
  dsimp only
  split
  · exact A.trans (A.cancelHire _ s) (A.raise _ _)
  · exact A.raise _ s

/-- What follows the end of a release, by its owner. -/
theorem releaseOver (A : Acting R) (d : Nat) {s t : State} (h : R s t) (o : Option Owner) :
    R s (releaseOver d o t) := by
  unfold Machine.releaseOver
  split
  · exact A.trans h (A.lapseHire d _ _)
  · exact A.trans h (A.batchReleaseEnded _)
  · exact h

theorem lapse (A : Acting R) (d : Nat) (s : State) : R s (lapse d s) :=
  A.releaseOver d (A.trans (A.endOperation d s) (A.becomeHeld d _)) (s.dock d).owner

theorem closingLockSilent (A : Acting R) (d : Nat) (s : State) : R s (closingLockSilent d s) :=
  A.releaseOver d (A.trans (A.endOperation d s) (A.enterRetired d _)) (s.dock d).owner

theorem closeWith (A : Acting R) (p : Phase) (d : Nat) (s : State) : R s (closeWith p d s) :=
  A.trans (A.trans (A.modDock d _ s) (A.placeLock _ d _)) (A.setPhase d p _)

theorem clearElsewhere (A : Acting R) (d T : Nat) (s : State) : R s (clearElsewhere d T s) := by
  unfold Machine.clearElsewhere
  split
  · exact A.refl s
  · split
    · exact A.trans (A.modDock _ _ s) (A.reportDock _ _ _ _)
    · exact A.trans (A.modDock _ _ s) (A.reportDock _ _ _ _)
    · exact A.modDock _ _ s
    · exact A.pull _ s
    · exact A.refl s
    · exact A.refl s
    · exact A.refl s
    · exact A.refl s
    · exact A.refl s

/-! ## Arrivals and removals -/

theorem tellReturn (A : Acting R) (d : Nat) {s : State} (x : State × Option (Nat × Nat)) (h : R s x.1) :
    R s (tellReturn d x) := by
  unfold Machine.tellReturn
  split
  · exact A.trans h (A.raise _ _)
  · exact h

theorem riderReturn (A : Acting R) (d T : Nat) (c : Option (Nat × Nat)) (s : State) : R s (riderReturn d T c s) := by
  unfold Machine.riderReturn
  split
  · exact A.raise _ s
  · exact A.trans (A.enter _ s) (A.raise _ _)

theorem reservationAside (A : Acting R) (d : Nat) (delivery : Bool) (s : State) :
    R s (reservationAside d delivery s) := by
  unfold Machine.reservationAside
  split
  · exact A.moveReservation d s
  · exact A.refl s

theorem takeIn (A : Acting R) (d T : Nat) (k : BikeKind) (s : State) : R s (takeIn d T k s) :=
  A.trans (A.modDock d _ s) (A.holdIfWanted d _)

theorem tellArrival (A : Acting R) (d T : Nat) (delivery : Bool) {s : State} (x : State × Option (Nat × Nat))
    (h : R s x.1) : R s (tellArrival d T delivery x) := by
  unfold Machine.tellArrival
  split
  · exact A.trans h (A.deliver d T _)
  · exact A.trans h (A.riderReturn d T _ _)

theorem senseArrival (A : Acting R) (d : Nat) (k : BikeKind) (s : State) : R s (senseArrival d k s) := by
  unfold Machine.senseArrival
  split
  · exact A.placeSense d s
  · exact A.refl s

theorem acceptArrival (A : Acting R) (d T : Nat) (k : BikeKind) (delivery : Bool) (s : State) :
    R s (acceptArrival d T k delivery s) := by
  rw [acceptArrival_eq]
  refine A.trans (A.trans ?_ (A.senseArrival d k _)) (A.applyPending d _)
  exact A.tellArrival d T delivery _ (A.trans (A.trans (A.trans (A.clearElsewhere d T s) (A.reservationAside d delivery _))
    (A.takeIn d T k _)) (A.closeBikeHire T d _))

theorem enterLatching (A : Acting R) (d : Nat) (s : State) : R s (enterLatching d s) :=
  A.trans (A.trans (A.setDock d _ s) (A.tryReread d _)) (A.applyPending d _)

theorem refuseArrival (A : Acting R) (d : Nat) (s : State) : R s (refuseArrival d s) :=
  A.trans (A.trans (A.trans (A.placeLock ownReject d s) (A.modDock d _ _)) (A.raise _ _)) (A.applyPending d _)

theorem reservationLost (A : Acting R) (d : Nat) (s : State) : R s (reservationLost d s) := by
  unfold Machine.reservationLost
  split
  · exact A.moveReservation d s
  · exact A.refl s

theorem arriveFree (A : Acting R) (d T : Nat) (k : BikeKind) (s : State) : R s (arriveFree d T k s) := by
  rw [arriveFree_eq]
  split
  · exact A.acceptArrival d T k true s
  · split
    · split
      · exact A.trans (A.reservationLost d s) (A.enterLatching d _)
      · exact A.trans (A.reservationLost d s) (A.acceptArrival d T k false _)
    · exact A.trans (A.reservationLost d s) (A.refuseArrival d _)

theorem identified (A : Acting R) (d T : Nat) (k : BikeKind) (s : State) : R s (identified d T k s) :=
  A.trans (A.endOperation d s) (A.acceptArrival d T k _ _)

theorem unidentified (A : Acting R) (d : Nat) (s : State) : R s (unidentified d s) :=
  A.trans (A.trans (A.trans (A.endOperation d s) (A.becomeHeld d _)) (A.reportDock d _ _ _)) (A.enter _ _)

theorem rereadUnread (A : Acting R) (d : Nat) (s : State) : R s (rereadUnread d s) := by
  unfold Machine.rereadUnread
  split
  · exact A.unidentified d s
  · exact A.tryReread d s

theorem restartIdentification (A : Acting R) (d : Nat) (s : State) : R s (restartIdentification d s) := by
  unfold Machine.restartIdentification
  refine A.trans ?_ (A.applyPending d _)
  split
  · exact A.modDock d _ s
  · exact A.trans (A.modDock d _ s) (A.tryReread d _)

theorem replaceBike (A : Acting R) (d T : Nat) (k : BikeKind) (s : State) : R s (replaceBike d T k s) :=
  A.tellReturn d _ (A.trans (A.trans (A.trans (A.trans (A.trans (A.clearElsewhere d T s) (A.modDock d _ _))
    (A.holdIfWanted d _)) (A.enter _ _)) (A.reportDock d _ _ _)) (A.closeBikeHire T d _))

theorem mismatch (A : Acting R) (d T : Nat) (k : BikeKind) (s : State) : R s (mismatch d T k s) := by
  unfold Machine.mismatch
  split
  · exact A.trans (A.refuseClaim d s) (A.replaceBike d T k _)
  · exact A.replaceBike d T k s

theorem arriveRetired (A : Acting R) (d T : Nat) (s : State) : R s (arriveRetired d T s) := by
  have h : R s (Machine.raise (.returnRefused d) (Machine.placeLock retiredReject d s)) :=
    A.trans (A.placeLock _ d s) (A.raise _ _)
  unfold Machine.arriveRetired
  dsimp only
  cases (s.dock d).bike with
  | none => exact h
  | some b =>
    exact A.ite _ (A.refl s) (A.trans (A.trans h (A.modDock d _ _)) (A.enter _ _))

theorem startAtAudit (A : Acting R) (r : Hire) (d : Nat) (s : State) : R s (startAtAudit r d s) :=
  A.trans (A.modHire _ _ s) (A.enter _ _)

theorem afterResolution (A : Acting R) (d : Nat) (s : State) : R s (afterResolution d s) := by
  unfold Machine.afterResolution
  split
  · exact A.enterRetired d s
  · split
    · exact A.retireAtThreshold d s
    · exact A.refl s

theorem resolveEmpty (A : Acting R) (d : Nat) (s : State) : R s (resolveEmpty d s) := by
  have h : ∀ t, R t (Machine.resolvedEmpty d t) := fun t => by
    unfold Machine.resolvedEmpty
    dsimp only
    split
    · exact A.modDock d _ t
    · exact A.trans (A.modDock d _ t) (A.topUp _)
  rw [resolveEmpty_eq]
  refine A.trans (A.trans ?_ (h _)) (A.afterResolution d _)
  unfold Machine.startedWhenGone
  split
  · exact A.startAtAudit _ d s
  · exact A.refl s

theorem clearIfRead (A : Acting R) (d T : Nat) (s : State) : R s (clearIfRead d T s) := by
  unfold Machine.clearIfRead
  split
  · exact A.refl s
  · exact A.clearElsewhere d T s

theorem closeIfRead (A : Acting R) (d T : Nat) (s : State) : R s (closeIfRead d T s) := by
  unfold Machine.closeIfRead
  split
  · exact A.refl s
  · exact A.closeBikeHire T d s

theorem resolveFound (A : Acting R) (d : Nat) (f : Found) (s : State) : R s (resolveFound d f s) := by
  have h1 : R s (Machine.hireWhenFound d f s) := by
    unfold Machine.hireWhenFound
    split
    · split
      · exact A.cancelHire _ s
      · exact A.startAtAudit _ d s
    · exact A.refl s
  have h4 : ∀ t, R t (Machine.lockIfOpen d f t) := fun t => by
    unfold Machine.lockIfOpen
    split
    · exact A.refl t
    · exact A.placeLock _ d t
  rw [resolveFound_eq]
  exact A.trans (A.trans (A.trans (A.trans (A.trans (A.trans h1 (A.clearIfRead d _ _)) (A.takeIn d _ _ _)) (A.closeIfRead d _ _)) (h4 _))
    (A.senseCheck d _)) (A.afterResolution d _)

theorem resolve (A : Acting R) (d : Nat) (found : Option Found) (s : State) : R s (resolve d found s) := by
  unfold Machine.resolve
  split
  · exact A.resolveFound d _ s
  · exact A.resolveEmpty d s

theorem hireWhenGone (A : Acting R) (d : Nat) (s : State) : R s (hireWhenGone d s) := by
  unfold Machine.hireWhenGone
  split
  · exact A.cancelHire _ s
  · exact A.refl s

theorem resolveSilent (A : Acting R) (d : Nat) (s : State) : R s (resolveSilent d s) :=
  A.trans (A.hireWhenGone d s) (A.enterRetiredEmpty d _)

theorem resolveByEvent (A : Acting R) (d : Nat) (found : Option Found) (s : State) : R s (resolveByEvent d found s) :=
  A.trans (A.trans (A.resolve d found s) (A.modAudit _ _)) (A.auditEnd _)

theorem arriveSettled (A : Acting R) (d T : Nat) (k : BikeKind) (s : State) : R s (arriveSettled d T k s) := by
  unfold Machine.arriveSettled
  split
  · exact A.arriveFree d T k s
  · exact A.arriveFree d T k s
  · exact A.trans (A.trans (A.modDock d _ s) (A.endOperation d _)) (A.arriveFree d T k _)
  · split
    · exact A.restartIdentification d s
    · exact A.identified d T k s
  · split
    · exact A.refl s
    · exact A.mismatch d T k s
  · split
    · exact A.refl s
    · exact A.mismatch d T k s
  · exact A.arriveRetired d T s
  · exact A.resolveByEvent d _ s
  · exact A.refl s

theorem arrive (A : Acting R) (d T : Nat) (k : BikeKind) (s : State) : R s (arrive d T k s) := by
  unfold Machine.arrive
  split
  · unfold Machine.arriveReleasing
    split
    · split
      · exact A.refl s
      · exact A.lapse d s
    · exact A.trans (A.pull d s) (A.arriveSettled d T k _)
  · exact A.arriveSettled d T k s

theorem forcedRemoval (A : Acting R) (d : Nat) (s : State) : R s (forcedRemoval d s) := by
  have h : ∀ t, R t (Machine.reportDock d .lockFault true (enterRecord (.bikeMissing ((recordedId (s.dock d)).getD 0) d)
      (Machine.becomeVacant d t))) :=
    fun t => A.trans (A.trans (A.becomeVacant d t) (A.enter _ _)) (A.reportDock d _ _ _)
  unfold Machine.forcedRemoval
  dsimp only
  split
  · exact A.trans (A.refuseClaimRemoved d s) (h _)
  · exact h s

theorem strandedGone (A : Acting R) (d : Nat) (s : State) : R s (strandedGone d s) := by
  unfold Machine.strandedGone
  split
  · exact A.trans (A.modDock d _ s) (A.enter _ _)
  · exact A.refl s

theorem bikeRemoved (A : Acting R) (d : Nat) (s : State) : R s (bikeRemoved d s) := by
  unfold Machine.bikeRemoved
  split
  · exact A.refl s
  · exact A.refl s
  · exact A.trans (A.endOperation d s) (A.becomeVacant d _)
  · exact A.forcedRemoval d s
  · exact A.forcedRemoval d s
  · exact A.pull d s
  · exact A.trans (A.endOperation d s) (A.becomeVacant d _)
  · exact A.strandedGone d s
  · exact A.resolveByEvent d _ s

/-! ## The comparison and the replies -/

theorem compareRetired (A : Acting R) (d : Nat) (f : Found) (s : State) : R s (compareRetired d f s) := by
  have h := A.trans (A.trans (A.clearIfRead d f.tag s) (A.modDock d (fun k =>
      { k with bike := some (newBike f.tag f.kind (Machine.clearIfRead d f.tag s).now) }) _))
    (A.enter (.auditMismatch d (recordedId (s.dock d)) (foundId f.tag)) _)
  exact A.trans h (A.closeIfRead d f.tag _)

theorem compareRow (A : Acting R) (d : Nat) (found : Option Found) (s : State) : R s (compareRow d found s).1 := by
  unfold Machine.compareRow
  split
  · exact A.refl s
  · exact A.refl s
  · exact A.trans (A.trans (A.enter _ s) (A.arrive d _ _ _)) (A.reportDock d _ _ _)
  · exact A.trans (A.trans (A.enter _ s) (A.arrive d _ _ _)) (A.reportDock d _ _ _)
  · exact A.trans (A.trans (A.enter _ s) (A.becomeVacant d _)) (A.reportDock d _ _ _)
  · refine A.trans (A.refuseClaim d s) ?_
    dsimp only [Machine.compareClaimGone]
    split
    · exact A.strandedGone d _
    · exact A.trans (A.trans (A.enter _ _) (A.becomeVacant d _)) (A.reportDock d _ _ _)
  · split
    · exact A.refl s
    · exact A.mismatch d _ _ s
  · split
    · exact A.refl s
    · exact A.mismatch d _ _ s
  · split
    · exact A.strandedGone d s
    · exact A.refl s
  · split
    · exact A.refl s
    · exact A.compareRetired d _ s
  · exact A.refl s
  · exact A.refl s
  · exact A.refl s
  · exact A.refl s

theorem compare (A : Acting R) (d : Nat) (found : Option Found) (s : State) : R s (compare d found s).1 := by
  have h := A.compareRow d found s
  unfold Machine.compare Machine.afterRow
  split
  · split
    · exact A.trans (A.trans h (A.placeLock _ d _)) (A.senseCheck d _)
    · exact A.trans h (A.senseCheck d _)
  · exact h

theorem compareLock (A : Acting R) (d : Nat) (found : Option Found) (s : State) : R s (compareLock d found s) := by
  unfold Machine.compareLock
  split
  · exact A.refl s
  · exact A.compare d found s

theorem countMismatch (A : Acting R) (d : Nat) (m : Bool) (s : State) : R s (countMismatch d m s) := by
  unfold Machine.countMismatch
  split
  · exact A.modAudit _ s
  · exact A.refl s

theorem auditFinding (A : Acting R) (d : Nat) (found : Option Found) (s : State) : R s (auditFinding d found s) := by
  unfold Machine.auditFinding
  split
  · exact A.trans (A.compare d found s) (A.countMismatch d _ _)
  · split
    · exact A.resolve d found s
    · exact A.compare d found s
  · exact A.compare d found s

theorem patrolStatusReply (A : Acting R) (d : Nat) (found : Option Found) (s : State) :
    R s (patrolStatusReply d found s) := by
  unfold Machine.patrolStatusReply
  split
  · exact A.trans (A.trans (A.modAudit _ s) (A.auditFinding d found _)) (A.auditStep _)
  · exact A.compare d found s

theorem patrolStatusSilent (A : Acting R) (d : Nat) (s : State) : R s (patrolStatusSilent d s) := by
  unfold Machine.patrolStatusSilent
  dsimp only
  split
  · refine A.trans (A.trans (A.modAudit (fun a => { a with outstanding := a.outstanding.erase d }) s) ?_) (A.auditStep _)
    split
    · exact A.resolveSilent d _
    · exact A.refl _
  · exact A.refl s

theorem openedFor (A : Acting R) (c : Cmd) (s : State) : R s (openedFor c s) := by
  unfold Machine.openedFor
  dsimp only
  split
  · exact A.releaseOpened _ s
  · split
    · exact A.modDock _ _ s
    · exact A.refl s

theorem lockedWithFor (A : Acting R) (c : Cmd) (T : Nat) (k : BikeKind) (s : State) : R s (lockedWithFor c T k s) := by
  unfold Machine.lockedWithFor
  split
  · exact A.compareLock _ _ s
  · split
    · split
      · exact A.lapse _ s
      · exact A.trans (A.pull _ s) (A.arrive _ T k _)
    · split
      · exact A.arrive _ T k s
      · split
        · exact A.refl s
        · exact A.arrive _ T k s

theorem lockedEmptyFor (A : Acting R) (c : Cmd) (s : State) : R s (lockedEmptyFor c s) := by
  unfold Machine.lockedEmptyFor
  split
  · exact A.compareLock _ _ s
  · split
    · exact A.pull _ s
    · split
      · exact A.trans (A.endOperation _ s) (A.becomeVacant _ _)
      · exact A.refl s

theorem rereadReply (A : Acting R) (d : Nat) (found : Option Found) (s : State) : R s (rereadReply d found s) := by
  unfold Machine.rereadReply
  split
  · exact A.trans (A.endOperation d s) (A.becomeVacant d _)
  · split
    · exact A.rereadUnread d s
    · exact A.identified d _ _ s

theorem statusFor (A : Acting R) (c : Cmd) (found : Option Found) (s : State) : R s (statusFor c found s) := by
  unfold Machine.statusFor
  split
  · exact A.patrolStatusReply _ found s
  · split
    · exact A.rereadReply _ found s
    · exact A.compare _ found s

theorem senseStartedAt (A : Acting R) (d : Nat) (s : State) : R s (senseStartedAt d s) := by
  unfold Machine.senseStartedAt
  split
  · split
    · exact A.modDock d _ s
    · exact A.refl s
  · exact A.refl s

theorem senseDoneAt (A : Acting R) (d level : Nat) (s : State) : R s (senseDoneAt d level s) := by
  unfold Machine.senseDoneAt
  dsimp only
  split
  · split
    · split
      · split
        · exact A.trans (A.modDock d _ s) (A.reportBike _ _ _ _)
        · exact A.modDock d _ s
      · exact A.modDock d _ s
    · exact A.refl s
  · exact A.refl s

theorem noReplyFor (A : Acting R) (c : Cmd) (s : State) : R s (noReplyFor c s) := by
  unfold Machine.noReplyFor
  dsimp only
  split
  · exact A.patrolStatusSilent _ s
  · split
    · exact A.closeWith _ _ s
    · exact A.refl s
  · split
    · exact A.closingLockSilent _ s
    · split
      · exact A.trans (A.endOperation _ s) (A.becomeVacant _ _)
      · exact A.refl s
  · split
    · exact A.trans (A.endOperation _ s) (A.becomeVacant _ _)
    · exact A.refl s
  · split
    · exact A.rereadUnread _ s
    · exact A.refl s
  · exact A.refl s

/-! ## The rows of the dock bus and of the timers -/

theorem replied (A : Acting R) {act : State → State} (h : ∀ s, R s (act s)) (s : State) : R s (replied act s) :=
  A.trans (A.trans (A.busOnly (endExchange_busOnly s)) (h _)) (A.busOnly (moveOn_busOnly _))

theorem onDockResponseTimeout (A : Acting R) (s : State) : R s (onDockResponseTimeout s) := by
  unfold Machine.onDockResponseTimeout
  split
  · split
    · unfold timedOutOnBus
      split
      · exact A.busOnly (pollEnded_busOnly s)
      · exact A.trans (A.trans (A.trans (A.busOnly (endExchange_busOnly s)) (A.noReplyFor _ _)) (A.reportDock _ _ _ _))
          (A.busOnly (moveOn_busOnly _))
    · exact A.refl s
  · exact A.refl s

/-- A frame taken as the reply of the command in flight, or ignored (R21, R36). -/
theorem repliedOrIgnored (A : Acting R) {act : Cmd → State → State} (h : ∀ c s, R s (act c s)) (dock code : Byte)
    (s : State) : R s (match acceptedBy dock code s with
      | some c => Machine.replied (act c) s
      | none => ignoreFrame s) := by
  split
  · exact A.replied (h _) s
  · exact A.busOnly (ignoreFrame_busOnly s)

theorem onNoEvent (A : Acting R) (dock : Byte) (s : State) : R s (onNoEvent dock s) := by
  unfold Machine.onNoEvent
  split
  · exact A.busOnly (pollEnded_busOnly s)
  · exact A.busOnly (ignoreFrame_busOnly s)

theorem eventIs (A : Acting R) {act : Nat → State → State} (h : ∀ d s, R s (act d s)) (dock : Byte) (low : Bool)
    (s : State) : R s (eventIs dock low act s) := by
  unfold Machine.eventIs
  split
  · exact A.trans (A.trans (A.busOnly ((endExchange_busOnly s).trans ((sampleWire_busOnly low _).trans
      (pollIfLow_busOnly _)))) (h _ _)) (A.busOnly (moveOn_busOnly _))
  · exact A.busOnly ((ignoreFrame_busOnly s).trans (sampleWire_busOnly low _))

theorem onReleaseWindowExpiry (A : Acting R) (d : Nat) (s : State) : R s (onReleaseWindowExpiry d s) := by
  unfold Machine.onReleaseWindowExpiry
  split
  · exact A.closeWith _ d s
  · exact A.refl s

theorem onEjectWindowExpiry (A : Acting R) (d : Nat) (s : State) : R s (onEjectWindowExpiry d s) := by
  unfold Machine.onEjectWindowExpiry
  split
  · exact A.closeWith _ d s
  · exact A.refl s

theorem onAuthTimeout (A : Acting R) (s : State) : R s (onAuthTimeout s) := by
  unfold Machine.onAuthTimeout
  split
  · exact A.endAuth _ _ s
  · exact A.refl s

theorem onBatchIdleExpiry (A : Acting R) (s : State) : R s (onBatchIdleExpiry s) := by
  unfold Machine.onBatchIdleExpiry
  dsimp only
  split
  · split
    · exact A.trans (A.modDue _ s) (A.endBatch _ _)
    · exact A.trans (A.modDue _ s) (A.modBatch _ _)
  · exact A.refl s

theorem onSenseTimerExpiry (A : Acting R) (d : Nat) (s : State) : R s (onSenseTimerExpiry d s) := by
  unfold Machine.onSenseTimerExpiry
  split
  · exact A.modDock d _ s
  · exact A.refl s

theorem advanceCursor (A : Acting R) (s : State) : R s (advanceCursor s) := by
  unfold Machine.advanceCursor
  dsimp only
  split
  · exact A.patrol _ s.due s
  · exact A.patrol _ _ s

theorem visit (A : Acting R) (s : State) : R s (visit s) := by
  have h := A.placeQuiet .status .patrol s.patrol.cursor s
  unfold Machine.visit
  dsimp only
  split
  · exact A.advanceCursor s
  · split
    · rename_i hp
      rw [hp] at h
      exact A.trans h (A.advanceCursor _)
    · rename_i hp
      rw [hp] at h
      exact h

theorem onPatrolIntervalExpiry (A : Acting R) (s : State) : R s (onPatrolIntervalExpiry s) := by
  unfold Machine.onPatrolIntervalExpiry
  split
  · exact A.trans (A.patrol _ _ s) (A.visit _)
  · exact A.refl s

theorem onPatrolPostscalerExpiry (A : Acting R) (s : State) : R s (onPatrolPostscalerExpiry s) := by
  unfold Machine.onPatrolPostscalerExpiry
  split
  · exact A.trans (A.patrol _ _ s) (A.raise _ _)
  · exact A.refl s

theorem onPollHoldoffClear (A : Acting R) (low : Bool) (s : State) : R s (onPollHoldoffClear low s) := by
  unfold Machine.onPollHoldoffClear
  split
  · exact A.trans (A.modDue _ s) (A.busOnly ((modBus_busOnly _ _).trans ((sampleWire_busOnly low _).trans
      (pollIfLow_busOnly _))))
  · exact A.refl s

theorem onIdentRereadRetry (A : Acting R) (s : State) : R s (onIdentRereadRetry s) := by
  unfold Machine.onIdentRereadRetry
  split
  · refine A.trans (A.modDue _ s) (A.foldl (fun t d => ?_) _ _)
    unfold retryReread
    split
    · exact A.tryReread d t
    · exact A.refl t
  · exact A.refl s

theorem onAuditPass (A : Acting R) (s : State) : R s (onAuditPass s) := by
  unfold Machine.onAuditPass
  split
  · exact A.trans (A.modDue _ s) (A.auditStep _)
  · exact A.refl s

/-! ## The requests of the blocks -/

theorem openingWork (A : Acting R) (f : BatchFields) (s : State) : R s (openingWork f s).1 := by
  unfold Machine.openingWork
  dsimp only
  split
  · exact A.topUp s
  · split
    · exact A.foldl (fun t d => A.modDock d _ t) _ s
    · exact A.foldl (fun t d => A.modDock d _ t) _ s

theorem batchOpen (A : Acting R) (fields : List Byte) (p : Port) (s : State) : R s (batchOpen fields p s).1 := by
  unfold Machine.batchOpen
  dsimp only
  split
  · exact A.restartIdle s
  · split
    · exact A.refl s
    · exact A.trans (A.trans (A.batch _ s) (A.restartIdle _)) (A.openingWork _ _)

theorem batchTake (A : Acting R) (fields : List Byte) (p : Port) (s : State) : R s (batchTake fields p s).1 := by
  unfold Machine.batchTake
  dsimp only
  split
  · exact A.refl s
  · split
    · exact A.restartIdle s
    · split
      · exact A.restartIdle s
      · rename_i h
        exact A.trans (A.trans (A.trans (A.restartIdle s) (A.placeUnlatch h)) (A.modDock _ _ _)) (A.beginRelease _ _ _)

theorem batchClose (A : Acting R) (fields : List Byte) (p : Port) (s : State) : R s (batchClose fields p s).1 := by
  unfold Machine.batchClose
  dsimp only
  split
  · exact A.refl s
  · split
    · exact A.trans (A.restartIdle s) (A.endBatch _ _)
    · exact A.restartIdle s

theorem batchRead (A : Acting R) (fields : List Byte) (p : Port) (s : State) : R s (batchRead fields p s).1 := by
  unfold Machine.batchRead
  split
  · exact A.refl s
  · exact A.restartIdle s

theorem startHire (A : Acting R) (c : Card) (d : Nat) (s : State) : R s (startHire c d s).1 := by
  unfold Machine.startHire
  split
  · exact A.refl s
  · split
    · exact A.refl s
    · rename_i h
      exact A.trans (A.placeUnlatch h) (A.acceptHire _ _ _ _ _)

theorem startHire_of (A : Acting R) {c : Card} {d : Nat} {s t : State} {h : Option Nat}
    (hs : Machine.startHire c d s = (t, h)) : R s t := by
  have := A.startHire c d s
  rwa [hs] at this

theorem claimDock (A : Acting R) (card d : Nat) (k : BikeKind) (s : State) : R s (claimDock card d k s) :=
  A.trans (A.trans (A.auths _ _ s) (A.modDock d _ _)) (A.raise _ _)

theorem hireStart (A : Acting R) (fields : List Byte) (p : Port) (s : State) : R s (hireStart fields p s).1 := by
  unfold Machine.hireStart
  dsimp only
  split
  · exact A.refl s
  split
  · exact A.refl s
  split
  · exact A.refl s
  split
  · exact A.refl s
  · split
    · exact A.refl s
    · exact A.claimDock _ _ _ s
    · split
      · rename_i hs
        exact A.startHire_of hs
      · exact A.refl s

theorem resumeHire (A : Acting R) (card d : Nat) (k : BikeKind) (s : State) : R s (resumeHire card d k s).1 := by
  unfold Machine.resumeHire
  split
  · exact A.refl s
  · split
    · exact A.refl s
    · exact A.refl s
    · split
      · exact A.refl s
      · split
        · rename_i hs
          exact A.startHire_of hs
        · exact A.refl s

theorem hireCloseRemote (A : Acting R) (fields : List Byte) (p : Port) (s : State) :
    R s (hireCloseRemote fields p s).1 := by
  unfold Machine.hireCloseRemote
  dsimp only
  split
  · exact A.refl s
  · split
    · exact A.refl s
    · split
      · exact A.refl s
      · exact A.closeHire _ _ _ s

theorem hireRestore (A : Acting R) (fields : List Byte) (p : Port) (s : State) : R s (hireRestore fields p s).1 := by
  unfold Machine.hireRestore
  dsimp only
  split
  · exact A.refl s
  · have h : ∀ r n, R s { Machine.placeHold (restoreFields fields).card (restoreFields fields).hold s with
        hires := (Machine.placeHold (restoreFields fields).card (restoreFields fields).hold s).hires ++ [r],
        lastHire := n } :=
      fun r n => A.trans (A.placeHold _ _ s) (A.money (Machine.placeHold _ _ s).cards _ n _)
    split
    · exact A.trans (h _ _) (A.makeOverdue _ _)
    · exact h _ _

theorem cardSet (A : Acting R) (fields : List Byte) (p : Port) (s : State) : R s (cardSet fields p s).1 := by
  unfold Machine.cardSet
  dsimp only
  split
  · exact A.refl s
  · split
    · exact A.refl s
    · exact A.writeCards _ _ s

theorem cardRemove (A : Acting R) (fields : List Byte) (p : Port) (s : State) : R s (cardRemove fields p s).1 := by
  unfold Machine.cardRemove
  dsimp only
  split
  · exact A.refl s
  · split
    · exact A.refl s
    · exact A.money _ s.hires s.lastHire s

theorem authGrant (A : Acting R) (fields : List Byte) (p : Port) (s : State) : R s (authGrant fields p s).1 := by
  unfold Machine.authGrant
  dsimp only
  split
  · exact A.refl s
  · split
    · exact A.refl s
    · rename_i e _
      have h : R s (installGrant (grantCard fields e.card) e s).1 :=
        A.trans (A.trans (A.writeCard [] _ s) (A.dropAuth _ _)) (A.becomeHeld _ _)
      exact A.trans (A.trans h (A.resumeHire e.card e.dock e.wanted _)) (A.raise (.authDone _ _) _)

theorem authDeny (A : Acting R) (fields : List Byte) (p : Port) (s : State) : R s (authDeny fields p s).1 := by
  unfold Machine.authDeny
  split
  · exact A.refl s
  · exact A.endAuth _ _ s

theorem endAllAuths (A : Acting R) (s : State) : R s (endAllAuths s) := A.foldl (fun t e => A.endAuth e _ t) _ s

theorem reportFault (A : Acting R) (fields : List Byte) (p : Port) (s : State) : R s (reportFault fields p s).1 := by
  unfold Machine.reportFault
  dsimp only
  split
  · exact A.refl s
  · split
    · exact A.refl s
    · split
      · unfold reportBikeFault
        split
        · exact A.refl s
        · split
          · exact A.refl s
          · exact A.reportBike _ _ _ s
      · unfold reportDockFault
        split
        · exact A.refl s
        · exact A.reportDock _ _ _ s

theorem dockRestore (A : Acting R) (fields : List Byte) (p : Port) (s : State) : R s (dockRestore fields p s).1 := by
  have h : ∀ d, R s (restoreDock d s) := fun d => by
    unfold restoreDock
    dsimp only
    split
    · exact A.trans (A.modDock d _ s) (A.becomeHeld d _)
    · exact A.trans (A.modDock d _ s) (A.becomeVacant d _)
  unfold Machine.dockRestore
  dsimp only
  split
  · exact A.refl s
  · split
    · exact A.refl s
    · exact h _

theorem bikeClear (A : Acting R) (fields : List Byte) (p : Port) (s : State) : R s (bikeClear fields p s).1 := by
  unfold Machine.bikeClear
  dsimp only
  split
  · exact A.refl s
  · split
    · exact A.refl s
    · exact A.dropBikeFault _ s

theorem fullAudit (A : Acting R) (fields : List Byte) (p : Port) (s : State) : R s (fullAudit fields p s).1 := by
  unfold Machine.fullAudit
  split
  · exact A.refl s
  · exact A.trans (A.audit _ s) (A.auditStep _)

/-! ## Parts of a station reset -/

theorem dropDock (A : Acting R) (d : Nat) (s : State) : R s (dropDock d s) := by
  rw [dropDock_eq]
  refine A.trans (A.trans ?_ (A.hireWhenGone d _)) (A.setDock d _ _)
  unfold Machine.missedWhenDropped
  split
  · exact A.enter _ s
  · exact A.refl s

theorem renumberDocks (A : Acting R) (s : State) : R s (renumberDocks s) :=
  A.ite _ (A.foldl (fun t d => A.dropDock d t) _ s) (A.foldl (fun t d => A.setDock d _ t) _ s)

theorem resetDocks (A : Acting R) (s : State) : R s (resetDocks s) := A.foldl (fun t d => A.modDock d _ t) _ s

theorem abortBatch (A : Acting R) (s : State) : R s (abortBatch s) := by
  unfold Machine.abortBatch
  split
  · exact A.trans (A.enter _ s) (A.batch none _)
  · exact A.refl s

theorem journalNotices (A : Acting R) (s : State) : R s (journalNotices s) := by
  have h : R s (if 0 < s.depth then Machine.raise (.journalData s.depth) s else s) :=
    A.ite _ (A.raise _ s) (A.refl s)
  exact A.ite _ (A.trans h (A.raise _ _)) h

end Acting

/-! ## Every command -/

/-- The relation `R` holds across what the acts of a request may do that read and write no more than a port or a table. -/
structure Aside (R : State → State → Prop) : Prop where
  refl : ∀ s, R s s
  tables : ∀ (a : Vector Attributes Config.groups) (p : Vector Policy Config.policies)
    (t : Vector Tariff Config.tariffs) (s : State), R s { s with attrs := a, policies := p, tariffs := t }
  port : ∀ (p : Port) (x : PortState) (s : State), R s (setPort p x s)

namespace Aside

theorem tableOnly (S : Aside R) (fields : List Byte) (p : Port) (s : State) :
    R s (Machine.policySet fields p s).1 ∧ R s (Machine.tariffSet fields p s).1 ∧ R s (Machine.attrSet fields p s).1 := by
  refine ⟨?_, ?_, ?_⟩
  · unfold Machine.policySet
    dsimp only
    split
    · exact S.refl s
    · exact S.tables s.attrs _ s.tariffs s
  · unfold Machine.tariffSet
    dsimp only
    split
    · exact S.refl s
    · exact S.tables s.attrs s.policies _ s
  · unfold Machine.attrSet
    dsimp only
    split
    · exact S.refl s
    split
    · exact S.refl s
    split
    · exact S.refl s
    split
    · exact S.refl s
    · exact S.tables _ s.policies s.tariffs s

theorem notices (S : Aside R) (fields : List Byte) (p : Port) (s : State) :
    R s (takeNotice fields p s).1 ∧ R s (endNotice fields p s).1 ∧ R s (setNoticeMask fields p s).1 := by
  refine ⟨?_, ?_, ?_⟩
  · unfold takeNotice
    split
    · exact S.refl s
    · exact S.port p _ s
  · have h : ∀ k, R s (endKind k p s).1 := fun k =>
      S.port p _ s
    unfold endNotice
    dsimp only
    split
    · split
      · exact h _
      · exact S.refl s
    · split
      · exact S.refl s
      · split
        · exact h _
        · exact S.refl s
  · unfold setNoticeMask
    dsimp only
    split
    · exact S.refl s
    · exact S.port p _ s

theorem onlyReads (S : Aside R) (fields : List Byte) (p : Port) (s : State) :
    R s (hireQuery fields p s).1 ∧ R s (hireRead fields p s).1 ∧ R s (cardRead fields p s).1 ∧
      R s (journalPeek fields p s).1 ∧ R s (dockRead fields p s).1 := by
  refine ⟨?_, ?_, ?_, ?_, ?_⟩
  · unfold hireQuery
    split
    · exact S.refl s
    · split <;> exact S.refl s
  · unfold hireRead
    split <;> exact S.refl s
  · unfold cardRead
    split <;> exact S.refl s
  · unfold journalPeek
    dsimp only
    split <;> exact S.refl s
  · unfold dockRead
    dsimp only
    split <;> exact S.refl s

end Aside

/-- The relation `R` holds across the elementary acts, across the acts of the clock, the ports and the tables that only
requests write, and across the acts that each write what nothing else does: the settings, the release of the journal, a
start of the station. -/
structure Serving (R : State → State → Prop) : Prop extends Acting R where
  outside : ∀ (q : List Instr) (c : Clock) (low : Bool) (n : Nat) (s : State),
    R s { s with pending := q, clock := c, pinLow := low, leakTimer := n }
  tables : ∀ (a : Vector Attributes Config.groups) (p : Vector Policy Config.policies) (l : Link)
    (t : Vector Tariff Config.tariffs) (s : State), R s { s with attrs := a, policies := p, link := l, tariffs := t }
  port : ∀ (p : Port) (x : PortState) (s : State), R s (setPort p x s)
  config : ∀ (fields : List Byte) (p : Port) (s : State), R s (configSet fields p s).1
  release : ∀ (fields : List Byte) (p : Port) (s : State), R s (journalRelease fields p s).1
  restart : ∀ s : State, R s (stationReset s)
  power : ∀ (low : Bool) (s : State), R s (onPowerOn low s)

namespace Serving

theorem modPort (S : Serving R) (p : Port) (f : PortState → PortState) (s : State) : R s (modPort p f s) :=
  S.port p _ s

theorem aside (S : Serving R) : Aside R := ⟨S.refl, fun a p t s => S.tables a p s.link t s, S.port⟩

theorem clock (S : Serving R) (c : Clock) (s : State) : R s { s with clock := c } :=
  S.outside s.pending c s.pinLow s.leakTimer s

theorem linkState (S : Serving R) (fields : List Byte) (p : Port) (s : State) : R s (linkState fields p s).1 := by
  unfold Machine.linkState
  dsimp only
  split
  · exact S.refl s
  · split
    · exact S.tables s.attrs s.policies _ s.tariffs s
    · split
      · exact S.trans (S.tables s.attrs s.policies .offline s.tariffs s) (S.endAllAuths _)
      · exact S.refl s

theorem timeSet (S : Serving R) (fields : List Byte) (p : Port) (s : State) : R s (timeSet fields p s).1 := by
  unfold Machine.timeSet
  dsimp only
  split
  · exact S.refl s
  · exact S.trans (S.clock _ s) (S.overdueCheck _)

/-- Every request's rule, by its code (R169). -/
theorem rule (S : Serving R) {code : Byte} {rule : List Byte → Port → State → Answer} (h : blockRule code = some rule)
    (fields : List Byte) (p : Port) (s : State) : R s (rule fields p s).1 := by
  obtain ⟨take, endN, mask⟩ := S.aside.notices fields p s
  obtain ⟨query, read, card, peek, dock⟩ := S.aside.onlyReads fields p s
  obtain ⟨policy, tariff, attr⟩ := S.aside.tableOnly fields p s
  have orElse {c : Prop} [Decidable c] {a : List Byte → Port → State → Answer}
      {o : Option (List Byte → Port → State → Answer)} (ha : R s (a fields p s).1)
      (ho : ∀ r, o = some r → R s (r fields p s).1) : ∀ r, (if c then some a else o) = some r → R s (r fields p s).1 := by
    intro r hr
    split at hr
    · cases hr
      exact ha
    · exact ho r hr
  suffices hall : ∀ r, blockRule code = some r → R s (r fields p s).1 from hall rule h
  exact orElse take <| orElse (S.refl s) <| orElse endN <| orElse mask <| orElse dock <| orElse (S.refl s) <|
    orElse (S.hireStart fields p s) <| orElse query <| orElse (S.reportFault fields p s) <| orElse (S.refl s) <|
    orElse (S.cardSet fields p s) <| orElse (S.cardRemove fields p s) <| orElse card <| orElse (S.refl s) <|
    orElse (S.authGrant fields p s) <| orElse (S.authDeny fields p s) <| orElse (S.linkState fields p s) <|
    orElse policy <| orElse tariff <| orElse attr <| orElse (S.hireCloseRemote fields p s) <|
    orElse (S.hireRestore fields p s) <| orElse read <| orElse peek <| orElse (S.release fields p s) <|
    orElse (S.config fields p s) <| orElse (S.timeSet fields p s) <| orElse (S.restart s) <|
    orElse (S.fullAudit fields p s) <| orElse (S.batchOpen fields p s) <| orElse (S.batchTake fields p s) <|
    orElse (S.batchClose fields p s) <| orElse (S.batchRead fields p s) <| orElse (S.dockRestore fields p s) <|
    orElse (S.bikeClear fields p s) fun _ h => absurd h nofun

/-- A request frame that is taken (R168, R169). -/
theorem takeFrame (S : Serving R) (fr : Frame) (p : Port) (s : State) : R s (takeFrame fr p s) := by
  suffices h : R s (answerTo fr p s).1 from S.trans h (S.port p _ _)
  unfold answerTo
  split
  · exact S.refl s
  · split
    · rename_i h
      exact S.rule h _ p s
    · exact S.refl s

theorem frameCompletes (S : Serving R) (fr : Frame) (p : Port) (s : State) : R s (frameCompletes fr p s) := by
  unfold Machine.frameCompletes
  split
  · exact S.refl s
  · split
    · exact S.modPort p _ s
    · exact S.takeFrame fr p s

theorem frameArrives (S : Serving R) (p : Port) (code tag : Byte) (fields : List Byte) (s : State) :
    R s (frameArrives p code tag fields s) := by
  unfold Machine.frameArrives
  split
  · exact S.refl s
  · exact S.trans (S.modPort p _ s) (S.frameCompletes _ p _)

theorem searchOn (S : Serving R) (n : Nat) (p : Port) (s : State) : R s (searchOn n p s) := by
  induction n generalizing s with
  | zero => exact S.refl s
  | succ n ih =>
    unfold Machine.searchOn
    dsimp only
    split
    · exact S.trans (S.trans (S.modPort p _ s) (S.frameCompletes _ p _)) (ih _)
    · exact S.modPort p _ s

theorem onReplySent (S : Serving R) (p : Port) (s : State) : R s (onReplySent p s) := by
  unfold Machine.onReplySent
  dsimp only
  split
  · exact S.refl s
  · split
    · exact S.trans (S.modPort p _ s) (S.takeFrame _ p _)
    · exact S.modPort p _ s

/-- The rows that change nothing but their port's line (R166, R167). -/
theorem line (S : Serving R) (p : Port) (length : Byte) (bytes : List Byte) (s : State) :
    R s (onRequestFrameBadCheck p bytes s) ∧ R s (onInterByteTimeout p s) ∧ R s (onFrameAttemptEnded p length s) ∧
      R s (onPortReset p s) ∧ R s (onLineReturnsToMarking p s) := by
  refine ⟨?_, S.ite _ (S.refl s) (S.modPort p _ s), S.ite _ (S.refl s) (S.modPort p _ s),
    S.ite _ (S.refl s) (S.port p _ s), S.ite _ (S.modPort p _ s) (S.refl s)⟩
  exact S.ite _ (S.refl s) (S.trans (S.modPort p _ s) (S.searchOn _ p _))

/-! ### The second tick -/

theorem authTimeouts (S : Serving R) (s : State) : R s (authTimeouts s) := S.foldl (fun t _ => S.onAuthTimeout t) _ s

theorem onLeak (S : Serving R) (s : State) : R s (onLeak s) := by
  have h (t : State) (f : List BikeFault) :
      R t { modDue (fun d => { d with leak := false }) t with leakTimer := 0, bikeFaults := f } :=
    S.trans (S.trans (S.modDue (fun d => { d with leak := false }) t) (S.bikeFaults f _))
      (S.outside t.pending t.clock t.pinLow 0 _)
  unfold Machine.onLeak
  split
  · exact S.trans (S.foldl (fun t d => S.modDock d _ t) _ s) (h _ _)
  · exact S.refl s

theorem serveDue (S : Serving R) (s : State) : R s (serveDue s) := by
  have h1 := S.foldl (fun t d => S.onReleaseWindowExpiry d t) s.installedDocks s
  have h2 (t : State) := S.foldl (fun t d => S.onEjectWindowExpiry d t) t.installedDocks t
  have h4 (t : State) := S.foldl (fun t d => S.onSenseTimerExpiry d t) t.installedDocks t
  exact S.trans (S.trans (S.trans (S.trans (S.trans (S.trans (S.trans (S.trans (S.trans (S.trans (S.trans h1 (h2 _))
    (S.authTimeouts _)) (S.onBatchIdleExpiry _)) (h4 _)) (S.onPatrolIntervalExpiry _)) (S.onPatrolPostscalerExpiry _))
    (S.onLeak _)) (S.onPollHoldoffClear _ _)) (S.onIdentRereadRetry _)) (S.onAuditPass _)) (S.onDockResponseTimeout _)

theorem endMinute (S : Serving R) (s : State) : R s (endMinute s) := S.trans (S.clock _ s) (S.overdueCheck _)

theorem tickClock (S : Serving R) (s : State) : R s (tickClock s) :=
  S.ite _ (S.refl s) (S.ite _ (S.endMinute s) (S.clock _ s))

theorem countTick (S : Serving R) (s : State) : R s (countTick s) :=
  S.trans (S.trans (S.trans (S.trans (S.work _ _ s) (S.patrol _ (tickDue s) _))
    (S.auths (s.authQueue.map tickAuth) s.lastTag _)) (S.batch (s.batch.map tickBatch) _))
    (S.outside s.pending s.clock s.pinLow (s.leakTimer + 1) _)

theorem onSecondTick (S : Serving R) (s : State) : R s (onSecondTick s) :=
  S.trans (S.trans (S.serveDue s) (S.tickClock _)) (S.countTick _)

theorem resetPin (S : Serving R) (low : Bool) (s : State) : R s (onResetPinLow s) ∧ R s (onResetPinHigh low s) :=
  ⟨S.ite _ (S.refl s) (S.trans (S.outside s.pending s.clock true s.leakTimer s) (S.restart _)),
    S.ite _ (S.trans (S.trans (S.outside s.pending s.clock false s.leakTimer s)
      (S.busOnly ((sampleWire_busOnly low _).trans (pollIfLow_busOnly _)))) (S.auditStep _)) (S.refl s)⟩

/-- The rows of the bus that end no exchange (R21, R25, R35). -/
theorem bus (S : Serving R) (bytes : List Byte) (dock kind : Byte) (low : Bool) (s : State) :
    R s (onDockAttentionLow s) ∧ R s (onDockCommandSent s) ∧ R s (onDockFrameIgnored bytes low s) ∧
      R s (onDockFrameKindDiscarded dock kind s) :=
  ⟨S.busOnly ((sampleWire_busOnly true s).trans (pollIfLow_busOnly _)), S.modBus _ s,
    S.ite _ (S.refl s) (S.busOnly ((ignoreFrame_busOnly s).trans (sampleWire_busOnly low _))),
    S.ite _ (S.refl s) (S.modBus _ s)⟩

/-- Every command respects the relation. -/
theorem exec (S : Serving R) {c : Instr} {s t : State} (h : exec c s = .next t) : R s t := by
  have frame (p code tag fields) : R s (Machine.frameArrives p code tag fields s) := S.frameArrives p code tag fields s
  cases c <;> cases h
  case powerOn low => exact S.power low s
  case resetPinLow => exact (S.resetPin false s).1
  case resetPinHigh low => exact (S.resetPin low s).2
  case secondTick => exact S.onSecondTick s
  case stationMinuteIncrease => exact S.ite _ (S.trans (S.endMinute s) (S.modDue _ _)) (S.refl s)
  case releaseWindowExpiry d => exact S.onReleaseWindowExpiry d s
  case ejectWindowExpiry d => exact S.onEjectWindowExpiry d s
  case authTimeout => exact S.onAuthTimeout s
  case batchIdleExpiry => exact S.onBatchIdleExpiry s
  case senseTimerExpiry d => exact S.onSenseTimerExpiry d s
  case patrolIntervalExpiry => exact S.onPatrolIntervalExpiry s
  case patrolPostscalerExpiry => exact S.onPatrolPostscalerExpiry s
  case leak => exact S.onLeak s
  case pollHoldoffClear low => exact S.onPollHoldoffClear low s
  case identRereadRetry => exact S.onIdentRereadRetry s
  case auditPass => exact S.onAuditPass s
  case dockAttentionLow => exact (S.bus [] 0 0 false s).1
  case dockCommandSent => exact (S.bus [] 0 0 false s).2.1
  case dockResponseTimeout => exact S.onDockResponseTimeout s
  case dockFrameIgnored bytes low => exact (S.bus bytes 0 0 low s).2.2.1
  case opened dock => exact S.repliedOrIgnored S.openedFor dock _ s
  case lockedWith dock tag kind => exact S.repliedOrIgnored (fun c => S.lockedWithFor c _ _) dock _ s
  case lockedEmpty dock => exact S.repliedOrIgnored S.lockedEmptyFor dock _ s
  case statusIs dock tag flags => exact S.repliedOrIgnored (fun c => S.statusFor c _) dock _ s
  case senseStarted dock => exact S.repliedOrIgnored (fun c => S.senseStartedAt c.dock) dock _ s
  case noEvent dock => exact S.onNoEvent dock s
  case inserted dock tag kind low => exact S.eventIs (fun d => S.arrive d _ _) dock low s
  case removed dock low => exact S.eventIs S.bikeRemoved dock low s
  case lockFault dock low => exact S.eventIs (fun d => S.reportDock d _ _) dock low s
  case senseDone dock level low => exact S.eventIs (fun d => S.senseDoneAt d _) dock low s
  case requestFrameBadCheck p bytes => exact (S.line p 0 bytes s).1
  case interByteTimeout p => exact (S.line p 0 [] s).2.1
  case framingError p => exact (S.line p 0 [] s).2.1
  case frameAttemptEnded p length => exact (S.line p length [] s).2.2.1
  case portReset p => exact (S.line p 0 [] s).2.2.2.1
  case lineReturnsToMarking p => exact (S.line p 0 [] s).2.2.2.2
  case replySent p => exact S.onReplySent p s
  case dockFrameKindDiscarded dock kind => exact (S.bus [] dock kind false s).2.2.2
  all_goals exact frame _ _ _ _

/-- Every step respects the relation: it takes a command off the queue and carries it out. -/
theorem step (S : Serving R) {s t : State} (h : step s = .next t) : R s t := by
  unfold Machine.step at h
  split at h
  · cases h
    exact S.refl s
  · exact S.trans (S.outside _ s.clock s.pinLow s.leakTimer s) (S.exec h)

end Serving

end Sys2Proof.Machine
end

section
/-! PROOFS. The laws of the settings (R180, R181) and of the journal (R153, R155, R159, R160) at every step. -/

namespace Sys2Proof.Machine

/-! ## The journal law -/

/-- The journal law, clause by clause. -/
theorem journalLaw_iff (j : Journal) : journalLaw j = true ↔
    j.records.length ≤ 256 ∧ sequenceFrom (oldestSeq j) j.records j.nextSeq = true ∧ j.nextSeq < Config.sequenceNumbers ∧
      j.lost ≤ 65535 ∧ (j.records.length < 256 ∨ j.held = true) ∧ (j.overrun = true → 0 < j.lost) := by
  simp only [journalLaw, Bool.and_eq_true, decide_eq_true_eq, Bool.or_eq_true, Bool.not_eq_true', and_assoc]
  refine and_congr_right fun _ => and_congr_right fun _ => and_congr_right fun _ => and_congr_right fun _ =>
    and_congr_right fun _ => ?_
  cases j.overrun <;> simp

/-- A record that takes the counter's number goes on with the sequence (R155). -/
theorem sequenceFrom_append {n last : Nat} {l : List Record} (h : sequenceFrom n l last = true) {r : Record}
    (hr : r.seq = last) : sequenceFrom n (l ++ [r]) ((last + 1) % Config.sequenceNumbers) = true := by
  induction l generalizing n with
  | nil =>
    have hn : n = last := by simpa [sequenceFrom] using h
    simp [sequenceFrom, hr, hn]
  | cons x l ih =>
    simp only [List.cons_append, sequenceFrom, Bool.and_eq_true] at h ⊢
    exact ⟨h.1, ih h.2⟩

/-- What is left of a sequence after its oldest records have gone begins at its own oldest record (R162). -/
theorem sequenceFrom_drop {n last : Nat} {l : List Record} (h : sequenceFrom n l last = true) (k : Nat) :
    sequenceFrom (match l.drop k with | r :: _ => r.seq | [] => last) (l.drop k) last = true := by
  induction l generalizing n k with
  | nil => simp [sequenceFrom]
  | cons x l ih =>
    have hx : x.seq = n := by
      simp only [sequenceFrom, Bool.and_eq_true, beq_iff_eq] at h
      exact h.1
    cases k with
    | zero => simpa [hx] using h
    | succ k =>
      simp only [sequenceFrom, Bool.and_eq_true] at h
      exact ih h.2 k

/-- A journal that has just been emptied by its front, or lengthened by a record, keeps the number it begins with. -/
theorem oldestSeq_append (j : Journal) (r : Record) (hr : r.seq = j.nextSeq) (next : Nat) :
    oldestSeq { j with records := j.records ++ [r], nextSeq := next } = oldestSeq j := by
  cases h : j.records with
  | nil => simp [oldestSeq, h, hr]
  | cons x l => simp [oldestSeq, h]

/-! ## The HELD mark -/

/-- The watermarks of a station whose settings are in range: the upper at most 255, the lower below it (R180, R181). -/
def MarksInRange (c : Settings) : Prop := c.lowerWatermark < c.upperWatermark ∧ c.upperWatermark ≤ 255

/-- The journal after the HELD mark has been evaluated: only the mark can have changed, and a full journal is HELD
(R159). -/
theorem evalHeld_journal (s : State) (h : MarksInRange s.settings) :
    ∃ held, (evalHeld s).journal = { s.journal with held := held } ∧ (255 < s.journal.records.length → held = true) := by
  obtain ⟨hlow, hup⟩ := h
  unfold evalHeld State.depth
  split
  · rename_i hh
    split
    · exact ⟨false, rfl, fun hl => by omega⟩
    · exact ⟨true, by rw [← hh], fun _ => rfl⟩
  · split
    · exact ⟨true, by rw [raise_journal], fun _ => rfl⟩
    · exact ⟨s.journal.held, rfl, fun hl => by omega⟩

/-- The HELD mark may be evaluated on a journal that keeps every clause but that of its mark. -/
theorem journalLaw_evalHeld {s : State} (h : MarksInRange s.settings)
    (hj : s.journal.records.length ≤ 256 ∧ sequenceFrom (oldestSeq s.journal) s.journal.records s.journal.nextSeq = true ∧
      s.journal.nextSeq < Config.sequenceNumbers ∧ s.journal.lost ≤ 65535 ∧ (s.journal.overrun = true → 0 < s.journal.lost)) :
    journalLaw (evalHeld s).journal = true := by
  obtain ⟨held, he, hfull⟩ := evalHeld_journal s h
  obtain ⟨hlen, hseq, hnext, hlost, hover⟩ := hj
  rw [he, journalLaw_iff]
  exact ⟨hlen, hseq, hnext, hlost, (Nat.lt_or_ge s.journal.records.length 256).imp_right (fun h => hfull h), hover⟩

/-! ## Entries -/

/-- An entry keeps the journal law: it is lost and counted at 256 records, and else takes the counter's number (R154,
R160). -/
theorem appendRecord_journalLaw (e : Entry) {s : State} (h : MarksInRange s.settings) (hj : journalLaw s.journal = true) :
    journalLaw (appendRecord e s).journal = true := by
  obtain ⟨hlen, hseq, hnext, hlost, hheld, hover⟩ := (journalLaw_iff _).mp hj
  unfold appendRecord
  dsimp only
  split
  · rw [journalLaw_iff]
    exact ⟨hlen, hseq, hnext, Nat.min_le_right _ _, hheld, fun _ => by simp only [Config.lostTop]; omega⟩
  · rename_i hroom
    simp only [Config.journalPlaces] at hroom
    have hmod : (s.journal.nextSeq + 1) % Config.sequenceNumbers < Config.sequenceNumbers := Nat.mod_lt _ (by decide)
    have happ := sequenceFrom_append hseq (r := ⟨s.journal.nextSeq, s.settings.stationNumber, s.clock.minute, e⟩) rfl
    split
    · refine journalLaw_evalHeld (by simpa using h) ?_
      simp only [raise_journal]
      rw [oldestSeq_append _ _ rfl]
      exact ⟨by simp; omega, happ, hmod, hlost, hover⟩
    · refine journalLaw_evalHeld h ?_
      dsimp only
      rw [oldestSeq_append _ _ rfl]
      exact ⟨by simp; omega, happ, hmod, hlost, hover⟩

theorem enterRecord_journalLaw (e : Entry) {s : State} (h : MarksInRange s.settings) (hj : journalLaw s.journal = true) :
    journalLaw (enterRecord e s).journal = true := by
  refine appendRecord_journalLaw e (by rw [(frontOverrun_tells s).settings]; exact h) ?_
  unfold frontOverrun
  split
  · obtain ⟨hlen, hseq, hnext, -, hheld, -⟩ :=
      (journalLaw_iff _).mp (appendRecord_journalLaw (.overrun s.journal.lost) h hj)
    rw [journalLaw_iff]
    exact ⟨hlen, hseq, hnext, Nat.zero_le _, hheld, nofun⟩
  · exact hj

/-! ## The settings law -/

/-- The ranges of fields 1 to 18 of the Station Configuration record, the lower watermark's that of its check (R180,
R181). -/
structure Settings.InRange (c : Settings) : Prop where
  docksNext : 8 ≤ c.docksNext ∧ c.docksNext ≤ 64
  releaseWindow : 10 ≤ c.releaseWindow ∧ c.releaseWindow ≤ 60
  authTimeout : 5 ≤ c.authTimeout ∧ c.authTimeout ≤ 60
  batchIdle : 5 ≤ c.batchIdle ∧ c.batchIdle ≤ 60
  minKeep : 0 ≤ c.minKeep ∧ c.minKeep ≤ 32
  dockThreshold : 1 ≤ c.dockThreshold ∧ c.dockThreshold ≤ 15
  bikeThreshold : 1 ≤ c.bikeThreshold ∧ c.bikeThreshold ≤ 15
  leakPeriod : 1 ≤ c.leakPeriod ∧ c.leakPeriod ≤ 168
  categoryMask : 0 ≤ c.categoryMask ∧ c.categoryMask ≤ 2047
  patrolEnable : 0 ≤ c.patrolEnable ∧ c.patrolEnable ≤ 1
  patrolInterval : 1 ≤ c.patrolInterval ∧ c.patrolInterval ≤ 30
  patrolPostscaler : 1 ≤ c.patrolPostscaler ∧ c.patrolPostscaler ≤ 16
  senseAge : 5 ≤ c.senseAge ∧ c.senseAge ≤ 240
  minCharge : 0 ≤ c.minCharge ∧ c.minCharge ≤ 100
  batteryFloor : 0 ≤ c.batteryFloor ∧ c.batteryFloor ≤ 50
  upperWatermark : 64 ≤ c.upperWatermark ∧ c.upperWatermark ≤ 255
  lowerWatermark : 0 ≤ c.lowerWatermark ∧ c.lowerWatermark ≤ 254
  attributeEnable : 0 ≤ c.attributeEnable ∧ c.attributeEnable ≤ 1
  stationNumber : c.stationNumber ≤ 65535

theorem inRange_iff {f v low high : Nat} (h : settingRange f = some (low, high)) :
    ({ field := f, value := v } : ConfigSetting).inRange = true ↔ low ≤ v ∧ v ≤ high := by
  simp only [ConfigSetting.inRange, h, Bool.and_eq_true, decide_eq_true_eq]

/-- The range of field `i + 1` out of the ranges of all. -/
theorem get_inRange {c : Settings}
    (h : ∀ i < 18, ({ field := i + 1, value := c.get (i + 1) } : ConfigSetting).inRange = true) (i : Nat)
    {low high : Nat} (hi : i < 18 := by decide) (hr : settingRange (i + 1) = some (low, high) := by rfl) :
    low ≤ c.get (i + 1) ∧ c.get (i + 1) ≤ high := (inRange_iff hr).mp (h i hi)

/-- The ranges of the settings law are those of the fields, one by one (R180). -/
theorem Settings.inRange_iff_get (c : Settings) : c.InRange ↔
    (∀ i < 18, ({ field := i + 1, value := c.get (i + 1) } : ConfigSetting).inRange = true) ∧
      c.stationNumber ≤ 65535 := by
  constructor
  · intro h
    refine ⟨fun i hi => ?_, h.stationNumber⟩
    interval_cases i
    exacts [
      (inRange_iff rfl).mpr h.docksNext, (inRange_iff rfl).mpr h.releaseWindow,
      (inRange_iff rfl).mpr h.authTimeout, (inRange_iff rfl).mpr h.batchIdle, (inRange_iff rfl).mpr h.minKeep,
      (inRange_iff rfl).mpr h.dockThreshold, (inRange_iff rfl).mpr h.bikeThreshold,
      (inRange_iff rfl).mpr h.leakPeriod, (inRange_iff rfl).mpr h.categoryMask,
      (inRange_iff rfl).mpr h.patrolEnable, (inRange_iff rfl).mpr h.patrolInterval,
      (inRange_iff rfl).mpr h.patrolPostscaler, (inRange_iff rfl).mpr h.senseAge,
      (inRange_iff rfl).mpr h.minCharge, (inRange_iff rfl).mpr h.batteryFloor,
      (inRange_iff rfl).mpr h.upperWatermark, (inRange_iff rfl).mpr h.lowerWatermark,
      (inRange_iff rfl).mpr h.attributeEnable]
  · rintro ⟨h, hst⟩
    exact ⟨get_inRange h 0, get_inRange h 1, get_inRange h 2, get_inRange h 3, get_inRange h 4, get_inRange h 5,
      get_inRange h 6, get_inRange h 7, get_inRange h 8, get_inRange h 9, get_inRange h 10, get_inRange h 11,
      get_inRange h 12, get_inRange h 13, get_inRange h 14, get_inRange h 15, get_inRange h 16, get_inRange h 17,
      hst⟩

/-- The settings law, clause by clause. -/
theorem settingsLaw_iff (s : State) : settingsLaw s = true ↔
    s.settings.InRange ∧ s.settings.lowerWatermark < s.settings.upperWatermark ∧ 8 ≤ s.installed ∧ s.installed ≤ 64 := by
  simp only [settingsLaw, Bool.and_eq_true, decide_eq_true_eq, List.all_eq_true, List.mem_range, and_assoc,
    Settings.inRange_iff_get]

/-- A setting in its range written into settings in their ranges (R181). -/
theorem Settings.InRange.write {c : Settings} (h : c.InRange) {x : ConfigSetting} (hx : x.inRange = true) :
    (c.write x.field x.value).InRange := by
  obtain ⟨f, v⟩ := x
  match f, hx with
  | 1, hx => exact { h with docksNext := (inRange_iff rfl).mp hx }
  | 2, hx => exact { h with releaseWindow := (inRange_iff rfl).mp hx }
  | 3, hx => exact { h with authTimeout := (inRange_iff rfl).mp hx }
  | 4, hx => exact { h with batchIdle := (inRange_iff rfl).mp hx }
  | 5, hx => exact { h with minKeep := (inRange_iff rfl).mp hx }
  | 6, hx => exact { h with dockThreshold := (inRange_iff rfl).mp hx }
  | 7, hx => exact { h with bikeThreshold := (inRange_iff rfl).mp hx }
  | 8, hx => exact { h with leakPeriod := (inRange_iff rfl).mp hx }
  | 9, hx => exact { h with categoryMask := (inRange_iff rfl).mp hx }
  | 10, hx => exact { h with patrolEnable := (inRange_iff rfl).mp hx }
  | 11, hx => exact { h with patrolInterval := (inRange_iff rfl).mp hx }
  | 12, hx => exact { h with patrolPostscaler := (inRange_iff rfl).mp hx }
  | 13, hx => exact { h with senseAge := (inRange_iff rfl).mp hx }
  | 14, hx => exact { h with minCharge := (inRange_iff rfl).mp hx }
  | 15, hx => exact { h with batteryFloor := (inRange_iff rfl).mp hx }
  | 16, hx => exact { h with upperWatermark := (inRange_iff rfl).mp hx }
  | 17, hx => exact { h with lowerWatermark := (inRange_iff rfl).mp hx }
  | 18, hx => exact { h with attributeEnable := (inRange_iff rfl).mp hx }
  | 19, hx => exact { h with stationNumber := ((inRange_iff rfl).mp hx).2 }
  | 0, _ => exact h
  | _ + 20, _ => exact h

theorem Settings.InRange.writeAll {l : List ConfigSetting} (hl : ∀ x ∈ l, x.inRange = true) {c : Settings}
    (h : c.InRange) : (writeSettings l c).InRange := by
  induction l generalizing c with
  | nil => exact h
  | cons x l ih =>
    exact ih (fun y hy => hl y (List.mem_cons_of_mem x hy)) (h.write (hl x List.mem_cons_self))

/-! ## CONFIG_SET -/

/-- A request that passes the checks of R181 leaves every setting in its range, the lower watermark below the upper. -/
theorem configRefusal_none {count : Nat} {l : List ConfigSetting} {c : Settings} (h : c.InRange)
    (hpass : configRefusal count l c = none) :
    (writeSettings l c).InRange ∧ (writeSettings l c).lowerWatermark < (writeSettings l c).upperWatermark := by
  unfold configRefusal at hpass
  split at hpass
  · cases hpass
  split at hpass
  · cases hpass
  rename_i hfirst
  dsimp only at hpass
  split at hpass
  · cases hpass
  rename_i hmarks
  refine ⟨h.writeAll fun x hx => ?_, Nat.lt_of_not_le hmarks⟩
  unfold firstSetting at hfirst
  split at hfirst
  · cases hfirst
  · rename_i hidx
    simpa using List.findIdx?_eq_none_iff.mp hidx x hx

/-! ## Both laws at every step -/

/-- The settings in their ranges with 8 to 64 docks installed, and the journal law (R153, R180). -/
def JournalAndSettings (s : State) : Prop := settingsLaw s = true ∧ journalLaw s.journal = true

/-- Neither law reads anything but the settings, the installed docks and the journal. -/
theorem JournalAndSettings.congr {s t : State} (hs : t.settings = s.settings) (hi : t.installed = s.installed)
    (hj : t.journal = s.journal) (h : JournalAndSettings s) : JournalAndSettings t := by
  obtain ⟨hset, hjour⟩ := h
  rw [settingsLaw_iff] at hset
  exact ⟨(settingsLaw_iff t).mpr (by rw [hs, hi]; exact hset), by rw [hj]; exact hjour⟩

theorem JournalAndSettings.marks {s : State} (h : JournalAndSettings s) : MarksInRange s.settings := by
  obtain ⟨hr, hlow, -⟩ := (settingsLaw_iff s).mp h.1
  exact ⟨hlow, hr.upperWatermark.2⟩

/-- The elementary acts keep both laws: only an entry writes the journal, and none the settings. -/
theorem journalAndSettings_acting : Acting fun s t => JournalAndSettings s → JournalAndSettings t where
  refl _ := id
  trans h k := k ∘ h
  work _ _ _ := .congr rfl rfl rfl
  audit _ _ := .congr rfl rfl rfl
  patrol _ _ _ := .congr rfl rfl rfl
  ready _ := .congr rfl rfl rfl
  money _ _ _ _ := .congr rfl rfl rfl
  auths _ _ _ := .congr rfl rfl rfl
  batch _ _ := .congr rfl rfl rfl
  bikeFaults _ _ := .congr rfl rfl rfl
  raise n s := .congr (raise_settings n s) (raise_installed n s) (raise_journal n s)
  enter e s h := by
    refine ⟨?_, enterRecord_journalLaw e h.marks h.2⟩
    rw [settingsLaw_iff, enterRecord_settings, enterRecord_installed]
    exact (settingsLaw_iff s).mp h.1

/-- No elementary act writes the settings or the number of installed docks. -/
theorem settings_acting : Acting fun s t => t.settings = s.settings where
  refl _ := rfl
  trans h k := k.trans h
  work _ _ _ := rfl
  audit _ _ := rfl
  patrol _ _ _ := rfl
  ready _ := rfl
  money _ _ _ _ := rfl
  auths _ _ _ := rfl
  batch _ _ := rfl
  bikeFaults _ _ := rfl
  raise := raise_settings
  enter := enterRecord_settings

/-- The HELD mark evaluated on a journal that keeps every clause but that of its mark (R159). -/
theorem evalHeld_journalAndSettings {s : State} (hs : settingsLaw s = true)
    (hj : s.journal.records.length ≤ 256 ∧ sequenceFrom (oldestSeq s.journal) s.journal.records s.journal.nextSeq = true ∧
      s.journal.nextSeq < Config.sequenceNumbers ∧ s.journal.lost ≤ 65535 ∧ (s.journal.overrun = true → 0 < s.journal.lost)) :
    JournalAndSettings (evalHeld s) := by
  obtain ⟨hr, hlow, hn⟩ := (settingsLaw_iff s).mp hs
  refine ⟨(settingsLaw_iff _).mpr ?_, journalLaw_evalHeld ⟨hlow, hr.upperWatermark.2⟩ hj⟩
  rw [(evalHeld_tells s).settings, (evalHeld_tells s).installed]
  exact ⟨hr, hlow, hn⟩

/-- Turning the patrol on or off keeps both laws (R138, R181). -/
theorem patrolTurned_journalAndSettings (old new : Nat) {s : State} (h : JournalAndSettings s) :
    JournalAndSettings (patrolTurned old new s) := by
  have A := journalAndSettings_acting
  unfold patrolTurned
  split
  · exact A.patrol _ _ _ (A.onPatrolPostscalerExpiry s h)
  · split
    · exact A.patrol _ _ s h
    · exact h

/-- CONFIG_SET keeps both laws: it writes what its checks have passed and evaluates the HELD mark at new watermarks
(R181, R159). -/
theorem configSet_journalAndSettings (fields : List Byte) (p : Port) {s : State} (h : JournalAndSettings s) :
    JournalAndSettings (configSet fields p s).1 := by
  obtain ⟨hr, -, hn⟩ := (settingsLaw_iff s).mp h.1
  unfold configSet
  dsimp only
  split
  · exact h
  rename_i hpass
  obtain ⟨hr', hlow'⟩ := configRefusal_none hr hpass
  have hset : JournalAndSettings { s with settings := writeSettings (configSettings fields) s.settings } :=
    ⟨(settingsLaw_iff _).mpr ⟨hr', hlow', hn⟩, h.2⟩
  have hturned := patrolTurned_journalAndSettings s.settings.patrolEnable
    (writeSettings (configSettings fields) s.settings).patrolEnable hset
  unfold applySettings
  dsimp only
  split
  · obtain ⟨hlen, hseq, hnext, hlost, -, hover⟩ := (journalLaw_iff _).mp hturned.2
    exact evalHeld_journalAndSettings hturned.1 ⟨hlen, hseq, hnext, hlost, hover⟩
  · exact hturned

/-- JOURNAL_RELEASE keeps both laws: the records that are left go on up to the counter (R162). -/
theorem journalRelease_journalAndSettings (fields : List Byte) (p : Port) {s : State} (h : JournalAndSettings s) :
    JournalAndSettings (journalRelease fields p s).1 := by
  obtain ⟨hlen, hseq, hnext, hlost, -, hover⟩ := (journalLaw_iff _).mp h.2
  unfold journalRelease
  dsimp only
  split
  · exact h
  · refine evalHeld_journalAndSettings (s := { s with journal := { s.journal with
      records := s.journal.records.drop (numAt fields 0 2) } }) h.1 ⟨?_, ?_, hnext, hlost, hover⟩
    · simp only [List.length_drop]
      omega
    · exact sequenceFrom_drop hseq _

/-- A station reset keeps both laws: the docks-installed setting that it applies lies in its range (R187, R180). -/
theorem stationReset_journalAndSettings {s : State} (h : JournalAndSettings s) : JournalAndSettings (stationReset s) := by
  have A := journalAndSettings_acting
  have first : JournalAndSettings (resetFirst s) :=
    .congr (s := pollIfLow _) rfl rfl rfl (A.busOnly (pollIfLow_busOnly _) (.congr (s := s) rfl rfl rfl h))
  have applied (t : State) (ht : JournalAndSettings t) : JournalAndSettings (applyInstalled t) := by
    obtain ⟨hset, hjour⟩ := A.renumberDocks t ht
    obtain ⟨hr, hlow, -⟩ := (settingsLaw_iff _).mp hset
    have hsame : (renumberDocks t).settings = t.settings := settings_acting.renumberDocks t
    rw [applyInstalled_eq]
    exact ⟨(settingsLaw_iff _).mpr ⟨hr, hlow, by rw [← hsame]; exact hr.docksNext⟩, hjour⟩
  have ports (t : State) (ht : JournalAndSettings t) : JournalAndSettings (resetPorts t) :=
    A.journalNotices _ (.congr (s := t) rfl rfl rfl ht)
  have patrol (t : State) (ht : JournalAndSettings t) : JournalAndSettings (resetPatrol t) :=
    .congr (s := t) rfl rfl rfl ht
  exact A.auditStep _ (.congr (s := resetPorts _) rfl rfl rfl
    (ports _ (patrol _ (A.resetDocks _ (applied _ (A.abortBatch _ first))))))

theorem reset_journalAndSettings : JournalAndSettings State.reset := by
  refine ⟨?_, ?_⟩ <;> decide +kernel

/-- Every act of the part keeps both laws. -/
theorem journalAndSettings_serving : Serving fun s t => JournalAndSettings s → JournalAndSettings t where
  toActing := journalAndSettings_acting
  outside _ _ _ _ _ := .congr rfl rfl rfl
  tables _ _ _ _ _ := .congr rfl rfl rfl
  port p x s := .congr (setPort_settings p x s) (setPort_installed p x s) (setPort_journal p x s)
  config fields p _ := configSet_journalAndSettings fields p
  release fields p _ := journalRelease_journalAndSettings fields p
  restart _ := stationReset_journalAndSettings
  power low s _ := by
    have A := journalAndSettings_acting
    exact A.auditStep _ (A.busOnly ((sampleWire_busOnly low _).trans (pollIfLow_busOnly _))
      (.congr (s := State.reset) rfl rfl rfl reset_journalAndSettings))

end Sys2Proof.Machine

namespace Sys2Proof.Settled

open Sys2Proof.Machine

/-- Settles O53: both laws hold at reset, and every act of the part keeps them. -/
theorem journalAndSettingsLawKept : Obligations.JournalAndSettingsLawKept :=
  ⟨reset_journalAndSettings, fun _ _ h hstep => journalAndSettings_serving.step hstep h⟩

end Sys2Proof.Settled
end

section
/-! PROOFS. The calm acts: what the bus, the audit and the placements do leaves every dock's state, owner, reservation,
van hold and bike as they are (`Dock.Alike`), and keeps the queue law and the law of the docks at or above N (`Rest`). -/

namespace Sys2Proof.Machine

/-! ## Records that differ in nothing a law reads -/

/-- Two dock records agree in all that R4 and R6 speak of; retire pending may differ only where R4 leaves it open, in a
state of an operation in flight. -/
structure Dock.Alike (k l : Dock) : Prop where
  state : l.state = k.state
  owner : l.owner = k.owner
  reserved : l.reserved = k.reserved
  vanHold : l.vanHold = k.vanHold
  ids : l.bike.map Bike.id = k.bike.map Bike.id
  pending : l.retirePending = k.retirePending ∨ inFlightState k.state = true

theorem Dock.Alike.refl (k : Dock) : k.Alike k := ⟨rfl, rfl, rfl, rfl, rfl, .inl rfl⟩

theorem Dock.Alike.trans {k l m : Dock} (h : k.Alike l) (g : l.Alike m) : k.Alike m where
  state := g.state.trans h.state
  owner := g.owner.trans h.owner
  reserved := g.reserved.trans h.reserved
  vanHold := g.vanHold.trans h.vanHold
  ids := g.ids.trans h.ids
  pending := by
    rcases h.pending with hp | hp
    · rw [← hp, ← h.state]
      exact g.pending
    · exact .inr hp

theorem Dock.Alike.of_unowed {k l : Dock} (h : l.unowed = k.unowed) : k.Alike l where
  state := (congrArg Dock.state h : l.unowed.state = k.unowed.state)
  owner := (congrArg Dock.owner h : l.unowed.owner = k.unowed.owner)
  reserved := (congrArg Dock.reserved h : l.unowed.reserved = k.unowed.reserved)
  vanHold := (congrArg Dock.vanHold h : l.unowed.vanHold = k.unowed.vanHold)
  ids := congrArg (Option.map Bike.id) (congrArg Dock.bike h : l.unowed.bike = k.unowed.bike)
  pending := .inl (congrArg Dock.retirePending h : l.unowed.retirePending = k.unowed.retirePending)

theorem Dock.Alike.recordedId {k l : Dock} (h : k.Alike l) : recordedId l = recordedId k := by
  have (m : Dock) : Machine.recordedId m = (m.bike.map Bike.id).join := by
    unfold Machine.recordedId
    cases m.bike <;> rfl
  rw [this, this, h.ids]

theorem Dock.Alike.isSome {k l : Dock} (h : k.Alike l) : l.bike.isSome = k.bike.isSome := by
  simpa using congrArg Option.isSome h.ids

/-- R4 reads no more of a record than two alike records share. -/
theorem Dock.Alike.agrees {k l : Dock} (h : k.Alike l) : l.agrees = k.agrees := by
  have hnone : l.bike.isNone = k.bike.isNone := by simpa using congrArg Option.isNone h.ids
  have hany (p : Option Nat → Bool) : l.bike.any (fun b => p b.id) = k.bike.any (fun b => p b.id) := by
    simpa [Option.any_map, Function.comp_def] using congrArg (Option.any p) h.ids
  have hplain : l.plain = k.plain := by rw [Dock.plain, Dock.plain, h.owner, h.reserved, h.vanHold]
  unfold Dock.agrees
  rw [h.state, hplain, h.isSome, hnone, hany Option.isNone, hany Option.isSome, h.owner, h.reserved, h.vanHold]
  rcases h.pending with hp | hp
  · rw [hp]
  · cases hs : k.state <;> simp [hs, inFlightState] at hp ⊢

/-! ## The queue law -/

/-- The docks of the queued commands and of the command in flight of a bus (R27). -/
def Bus.busy (b : Bus) : List Nat :=
  b.queue.map Cmd.dock ++ (match b.inFlight with
    | some f => match f.what with
      | .command c => [c.dock]
      | .poll => []
    | none => [])

theorem busyDocks_eq (s : State) : busyDocks s = s.bus.busy := rfl

/-- The queue law of a bus under `n` installed docks (R27). -/
structure Bus.Lawful (b : Bus) (n : Nat) : Prop where
  places : b.queue.length ≤ 16
  once : b.busy.Nodup
  near : ∀ d ∈ b.busy, d < n

theorem queueLaw_iff (s : State) : queueLaw s = true ↔ s.bus.Lawful s.installed := by
  simp only [queueLaw, busyDocks_eq, Bool.and_eq_true, decide_eq_true_eq, List.all_eq_true]
  exact ⟨fun ⟨⟨h1, h2⟩, h3⟩ => ⟨h1, of_decide_eq_true h2, h3⟩, fun ⟨h1, h2, h3⟩ => ⟨⟨h1, decide_eq_true h2⟩, h3⟩⟩

/-- A change that leaves the busy docks or takes some away keeps the law. -/
theorem Bus.Lawful.sub {b c : Bus} {n : Nat} (h : b.Lawful n) (hsub : c.busy.Subperm b.busy)
    (hlen : c.queue.length ≤ b.queue.length) : c.Lawful n where
  places := hlen.trans h.places
  once := by
    obtain ⟨l, hperm, hlist⟩ := hsub
    exact hperm.nodup_iff.mp (h.once.sublist hlist)
  near d hd := h.near d (hsub.subset hd)

theorem busy_nil_of_poll {b : Bus} (h : ∀ f c, b.inFlight = some f → f.what ≠ .command c) :
    b.busy = b.queue.map Cmd.dock := by
  unfold Bus.busy
  split
  · rename_i f hf
    split
    · rename_i c hc
      exact absurd hc (h f c hf)
    · exact List.append_nil _
  · exact List.append_nil _

theorem mem_busy {b : Bus} {d : Nat} : d ∈ b.busy ↔ (∃ c ∈ b.queue, c.dock = d) ∨
    ∃ f c, b.inFlight = some f ∧ f.what = .command c ∧ c.dock = d := by
  unfold Bus.busy
  rw [List.mem_append, List.mem_map]
  refine or_congr_right ?_
  split
  · rename_i f hf
    split
    · rename_i c hc
      simp [hf, hc, eq_comm]
    · rename_i hc
      simp [hf, hc]
  · rename_i hf
    simp [hf]

/-- A dock is busy exactly when it has a command queued or in flight (R27). -/
theorem not_mem_busy_iff (d : Nat) (s : State) :
    d ∉ s.bus.busy ↔ queuedAt d s = none ∧ inFlightAt d s = none := by
  rw [mem_busy, not_or]
  refine and_congr ?_ ?_
  · simp [queuedAt]
  · unfold inFlightAt
    split
    · rename_i f hf
      split
      · rename_i c hc
        simp [hf, hc]
      · rename_i hc
        simp [hf, hc]
    · rename_i hf
      simp [hf]

/-- A command appended for a dock that has none, with a place empty. -/
theorem Bus.Lawful.add {b : Bus} {n : Nat} (h : b.Lawful n) {c : Cmd} (hnew : c.dock ∉ b.busy) (hn : c.dock < n)
    (hroom : b.queue.length < 16) : ({ b with queue := b.queue ++ [c] } : Bus).Lawful n := by
  have hperm : ({ b with queue := b.queue ++ [c] } : Bus).busy.Perm (c.dock :: b.busy) := by
    unfold Bus.busy
    simp only [List.map_append, List.map_cons, List.map_nil, List.append_assoc, List.singleton_append]
    exact List.perm_middle
  refine ⟨by simp only [List.length_append, List.length_singleton]; omega, ?_, ?_⟩
  · rw [hperm.nodup_iff]
    exact List.nodup_cons.mpr ⟨hnew, h.once⟩
  · intro d hd
    rcases List.mem_cons.mp (hperm.subset hd) with rfl | hd
    · exact hn
    · exact h.near d hd

/-- The docks of a queue in which one command has given its place up to another of its dock, at the end. -/
theorem docks_erase_append {l : List Cmd} {q c : Cmd} (hq : q ∈ l) (hd : c.dock = q.dock) :
    ((l.erase q ++ [c]).map Cmd.dock).Perm (l.map Cmd.dock) := by
  have h : (l.map Cmd.dock).Perm (q.dock :: (l.erase q).map Cmd.dock) := (List.perm_cons_erase hq).map Cmd.dock
  rw [List.map_append, List.map_singleton, hd]
  exact List.perm_append_comm.trans h.symm

/-- The same on the bus. -/
theorem Bus.Lawful.swap {b : Bus} {n : Nat} (h : b.Lawful n) {q c : Cmd} (hq : q ∈ b.queue) (hd : c.dock = q.dock) :
    ({ b with queue := b.queue.erase q ++ [c] } : Bus).Lawful n := by
  refine h.sub (List.Perm.subperm ?_) ?_
  · exact (docks_erase_append hq hd).append_right _
  · rw [List.length_append, List.length_erase_of_mem hq, List.length_singleton]
    have := List.length_pos_of_mem hq
    omega

/-- Commands replaced in place by commands of the same docks. -/
theorem Bus.Lawful.mapQueue {b : Bus} {n : Nat} (h : b.Lawful n) {f : Cmd → Cmd} (hf : ∀ c ∈ b.queue, (f c).dock = c.dock) :
    ({ b with queue := b.queue.map f } : Bus).Lawful n := by
  have : (b.queue.map f).map Cmd.dock = b.queue.map Cmd.dock := by
    rw [List.map_map]
    exact List.map_congr_left hf
  refine h.sub (List.Perm.subperm ?_) (by simp)
  unfold Bus.busy
  rw [this]

/-- Commands that have left the queue. -/
theorem Bus.Lawful.subQueue {b : Bus} {n : Nat} (h : b.Lawful n) {l : List Cmd} (hl : l.Sublist b.queue) :
    ({ b with queue := l } : Bus).Lawful n :=
  h.sub ((hl.map Cmd.dock).append_right _).subperm hl.length_le

/-- A bus that takes a command from its queue. -/
theorem Bus.Lawful.take {b : Bus} {n : Nat} (h : b.Lawful n) {c : Cmd} (hc : c ∈ b.queue) (ticks : Option Nat) :
    ({ b with queue := b.queue.erase c, inFlight := some { what := .command c, ticks := ticks } } : Bus).Lawful n := by
  refine h.sub (List.Subperm.trans (List.Perm.subperm ?_) (List.sublist_append_left _ _).subperm) (List.length_erase_le)
  have := docks_erase_append hc rfl
  rwa [List.map_append] at this

/-- A bus on which the exchange has ended, or a poll is in flight. -/
theorem Bus.Lawful.idle {b c : Bus} {n : Nat} (h : b.Lawful n) (hq : c.queue = b.queue)
    (hc : ∀ f k, c.inFlight = some f → f.what ≠ .command k) : c.Lawful n := by
  refine h.sub ?_ (by rw [hq])
  rw [busy_nil_of_poll hc, hq]
  exact (List.sublist_append_left _ _).subperm

/-- A change that touches neither the queue nor what is in flight. -/
theorem Bus.Lawful.congr {b c : Bus} {n : Nat} (h : b.Lawful n) (hq : c.queue = b.queue) (hi : c.inFlight = b.inFlight) :
    c.Lawful n := by
  refine h.sub ?_ (by rw [hq])
  unfold Bus.busy
  rw [hq, hi]

/-! ## The law of what lies at rest -/

/-- The queue law, and that a dock at or above N stands at power-on with neither patrol nor audit coming to it (R1, R27). -/
structure Rest (s : State) : Prop where
  bus : s.bus.Lawful s.installed
  few : s.installed ≤ Config.docks
  high : ∀ d, s.installed ≤ d → s.dock d = Dock.powerOn
  cursor : s.patrol.cursor < s.installed
  toDo : ∀ d ∈ s.audit.toDo, d < s.installed
  outstanding : ∀ d ∈ s.audit.outstanding, d < s.installed
  counted : ∀ d ∈ s.audit.counted, d < s.installed

/-- A dock that does not stand at power-on is installed (R7, R9). -/
theorem Rest.lt_of_state {s : State} (h : Rest s) {d : Nat} (hd : (s.dock d).state ≠ .unverified) : d < s.installed := by
  by_contra hn
  rw [h.high d (by omega)] at hd
  exact hd rfl

theorem Rest.lt_of_owed {s : State} (h : Rest s) {d : Nat} (hd : (s.dock d).owed ≠ none) : d < s.installed := by
  by_contra hn
  rw [h.high d (by omega)] at hd
  exact hd rfl

/-- An Auth Queue entry apart from its countdown. -/
def AuthEntry.face (e : AuthEntry) : AuthEntry := { e with remaining := 0, timedOut := false }

/-- A batch apart from its idle timer. -/
def Batch.face (b : Batch) : Batch := { b with idle := 0, expiryWaiting := false }

/-- The Auth Queue apart from its countdowns. -/
def State.claims (s : State) : List AuthEntry := s.authQueue.map AuthEntry.face

/-- The open batch apart from its idle timer. -/
def State.plan (s : State) : Option Batch := s.batch.map Batch.face

/-- What the laws read besides the Dock Table and what lies at rest. -/
structure Face where
  settings : Settings
  installed : Nat
  claims : List AuthEntry
  link : Link
  plan : Option Batch
  hires : List Hire
  cards : List Card

def State.face (s : State) : Face where
  settings := s.settings
  installed := s.installed
  claims := s.claims
  link := s.link
  plan := s.plan
  hires := s.hires
  cards := s.cards

theorem DockWork.face {s t : State} (h : DockWork s t) : t.face = s.face := by
  unfold DockWork at h
  rw [h]
  rfl

theorem DockWork.installed {s t : State} (h : DockWork s t) : t.installed = s.installed :=
  congrArg Face.installed h.face

theorem BusOnly.installed {s t : State} (h : BusOnly s t) : t.installed = s.installed := h.work.installed

/-- From `s` to `t` nothing has changed that a law reads, what lies at rest keeps its law, and a READY station stays
READY. -/
structure Still (s t : State) : Prop where
  face : t.face = s.face
  alike : ∀ d, (s.dock d).Alike (t.dock d)
  ready : s.station = .ready → t.station = .ready
  rest : Rest t

/-- The same, for a state whose rest keeps its law. -/
def Calm (s t : State) : Prop := Rest s → Still s t

theorem Still.installed {s t : State} (h : Still s t) : t.installed = s.installed := congrArg Face.installed h.face

theorem Calm.refl (s : State) : Calm s s := fun h => ⟨rfl, fun _ => .refl _, id, h⟩

theorem Calm.trans {s t u : State} (h : Calm s t) (g : Calm t u) : Calm s u := fun hr =>
  have ht := h hr
  have hu := g ht.rest
  ⟨hu.face.trans ht.face, fun d => (ht.alike d).trans (hu.alike d), fun hs => hu.ready (ht.ready hs), hu.rest⟩

/-- A calm act may be chosen by a fact that what lies at rest gives. -/
theorem Calm.given {s t : State} (h : Rest s → Calm s t) : Calm s t := fun hr => h hr hr

theorem Calm.ite {s t u : State} (p : Prop) [Decidable p] (ht : p → Calm s t) (hu : ¬p → Calm s u) :
    Calm s (if p then t else u) := by
  split
  · exact ht ‹_›
  · exact hu ‹_›

theorem Calm.foldl {α : Type} {f : State → α → State} (l : List α) (s : State)
    (h : ∀ t, ∀ a ∈ l, t.installed = s.installed → Calm t (f t a)) : Calm s (l.foldl f s) := by
  induction l generalizing s with
  | nil => exact .refl s
  | cons a l ih =>
    intro hr
    have hs := h s a List.mem_cons_self rfl hr
    exact (h s a List.mem_cons_self rfl).trans
      (ih _ fun t b hb ht => h t b (List.mem_cons_of_mem a hb) (ht.trans hs.installed)) hr

/-! ## Calm acts: what none of the laws reads -/

/-- A change outside the Dock Table, the bus, the audit and the patrol. -/
theorem calm_aside {s t : State} (hf : t.face = s.face) (hd : t.docks = s.docks) (hb : t.bus = s.bus)
    (ha : t.audit = s.audit) (hp : t.patrol = s.patrol) (hs : s.station = .ready → t.station = .ready) : Calm s t := by
  intro hr
  have hdock (d : Nat) : t.dock d = s.dock d := by unfold State.dock; rw [hd]
  have hn : t.installed = s.installed := congrArg Face.installed hf
  exact ⟨hf, fun d => hdock d ▸ .refl _, hs, by rw [hb, hn]; exact hr.bus, hn ▸ hr.few,
    fun d h => (hdock d).trans (hr.high d (hn ▸ h)), by rw [hp, hn]; exact hr.cursor, by rw [ha, hn]; exact hr.toDo,
    by rw [ha, hn]; exact hr.outstanding, by rw [ha, hn]; exact hr.counted⟩

theorem calm_tells {s t : State} (h : Tells s t) : Calm s t := by
  refine calm_aside ?_ h.docks h.bus h.audit h.patrol (fun hs => h.station.trans hs)
  unfold Tells at h
  rw [h]
  rfl

theorem calm_raise (n : Notice) (s : State) : Calm s (raise n s) := calm_tells (raise_tells n s)

theorem calm_enterRecord (e : Entry) (s : State) : Calm s (enterRecord e s) := calm_tells (enterRecord_tells e s)

theorem calm_modDue (f : Due → Due) (s : State) : Calm s (modDue f s) := calm_aside rfl rfl rfl rfl rfl id

theorem calm_modPort (p : Port) (f : PortState → PortState) (s : State) : Calm s (modPort p f s) := by
  cases p <;> exact calm_aside rfl rfl rfl rfl rfl id

theorem calm_modBus {f : Bus → Bus} {s : State} (h : s.bus.Lawful s.installed → (f s.bus).Lawful s.installed) :
    Calm s (modBus f s) := fun hr =>
  ⟨rfl, fun _ => .refl _, id, h hr.bus, hr.few, hr.high, hr.cursor, hr.toDo, hr.outstanding, hr.counted⟩

theorem calm_patrol {p : Patrol} {s : State} (h : p.cursor < s.installed) (due : Due) :
    Calm s { s with patrol := p, due := due } := fun hr =>
  ⟨rfl, fun _ => .refl _, id, hr.bus, hr.few, hr.high, h, hr.toDo, hr.outstanding, hr.counted⟩

/-- Docks of the audit's sets that stay docks below N. -/
theorem calm_modAudit {f : Audit → Audit} {s : State}
    (ht : ∀ d ∈ (f s.audit).toDo, d ∈ s.audit.toDo ∨ d < s.installed)
    (ho : ∀ d ∈ (f s.audit).outstanding, d ∈ s.audit.outstanding ∨ d < s.installed)
    (hc : ∀ d ∈ (f s.audit).counted, d ∈ s.audit.counted ∨ d < s.installed) : Calm s (modAudit f s) := fun hr =>
  ⟨rfl, fun _ => .refl _, id, hr.bus, hr.few, hr.high, hr.cursor, fun d h => (ht d h).elim (hr.toDo d) id,
    fun d h => (ho d h).elim (hr.outstanding d) id, fun d h => (hc d h).elim (hr.counted d) id⟩

/-- A dock record changed in nothing that a law reads. -/
theorem calm_modDock {d : Nat} {f : Dock → Dock} {s : State} (hd : d < s.installed)
    (h : (s.dock d).Alike (f (s.dock d))) : Calm s (modDock d f s) := by
  intro hr
  have h64 : d < Config.docks := Nat.lt_of_lt_of_le hd hr.few
  refine ⟨rfl, fun e => ?_, id, hr.bus, hr.few, fun e he => ?_, hr.cursor, hr.toDo, hr.outstanding, hr.counted⟩
  · by_cases hde : d = e
    · subst hde
      rwa [dock_modDock_self h64]
    · rw [dock_modDock_other hde]
      exact .refl _
  · rw [dock_modDock_other (by simp only [modDock_installed] at he; omega)]
    exact hr.high e he

/-- A record written as it stands. -/
theorem setDock_same {d : Nat} {k : Dock} {s : State} (h : k = s.dock d) : setDock d k s = s := by
  have hv : s.docks.setIfInBounds d k = s.docks := by
    ext i hi
    · rw [Vector.getElem_setIfInBounds]
      split
      · rename_i hdi
        subst hdi
        rw [h, State.dock, Vector.getElem?_eq_getElem hi, Option.getD_some]
      · rfl
  unfold setDock
  rw [hv]

/-- A change of what is owed, at an installed dock or where nothing is owed. -/
theorem calm_owed {d : Nat} {f : Dock → Dock} (hf : ∀ k, (f k).unowed = k.unowed) (h0 : f Dock.powerOn = Dock.powerOn)
    (s : State) : Calm s (modDock d f s) := by
  refine .given fun hr => ?_
  by_cases hd : d < s.installed
  · exact calm_modDock hd (.of_unowed (hf _))
  · have hsame : modDock d f s = s := setDock_same (by rw [hr.high d (by omega), h0])
    rw [hsame]
    exact .refl s

end Sys2Proof.Machine
end

section
/-! PROOFS. The calm operations: the exchanges and placements of the dock bus, the audit passes, the timers and marks
change nothing that a law reads. -/

namespace Sys2Proof.Machine

/-! ## The queue -/

theorem queuedAt_dock {d : Nat} {s : State} {q : Cmd} (h : queuedAt d s = some q) : q.dock = d := by
  have := List.find?_some h
  simpa using this

theorem queuedAt_mem {d : Nat} {s : State} {q : Cmd} (h : queuedAt d s = some q) : q ∈ s.bus.queue :=
  List.mem_of_find?_eq_some h

theorem room_of_not_full {s : State} (h : queueFull s = false) : s.bus.queue.length < 16 := by
  simpa [queueFull] using h

/-- A command appended for a dock with nothing queued or in flight. -/
theorem calm_append {c : Cmd} {s : State} (hd : c.dock < s.installed) (hq : queuedAt c.dock s = none)
    (hf : inFlightAt c.dock s = none) (hroom : queueFull s = false) :
    Calm s (modBus (fun b => { b with queue := b.queue ++ [c] }) s) :=
  calm_modBus fun hb => hb.add ((not_mem_busy_iff _ s).mpr ⟨hq, hf⟩) hd (room_of_not_full hroom)

theorem calm_placeOwedAt (d : Nat) (s : State) : Calm s (placeOwedAt d s) := by
  unfold placeOwedAt
  split
  · exact .refl s
  · rename_i o ho
    split
    · exact .refl s
    · rename_i hfree
      simp only [Bool.or_eq_true, not_or, Bool.not_eq_true, Option.isSome_eq_false_iff, Option.isNone_iff_eq_none] at hfree
      obtain ⟨⟨hroom, hq⟩, hf⟩ := hfree
      refine .given fun hr => ?_
      have hd : d < s.installed := hr.lt_of_owed (by simp [ho])
      refine Calm.trans ?_ (calm_append hd hq hf hroom)
      exact calm_modDock hd (.of_unowed rfl)

theorem calm_placeOwed (s : State) : Calm s (placeOwed s) := .foldl _ s fun t d _ _ => calm_placeOwedAt d t

/-- What the controller takes next is a poll or a queued command (R28). -/
theorem nextOnBus_mem {s : State} {c : Cmd} (h : nextOnBus s = some (.command c)) : c ∈ s.bus.queue := by
  unfold nextOnBus at h
  split at h
  · cases h
    exact List.mem_of_find?_eq_some ‹_›
  · split at h
    · cases h
      exact List.mem_of_find?_eq_some ‹_›
    · split at h
      · cases h
      · split at h
        · cases h
          exact List.mem_of_find?_eq_some ‹_›
        · cases h

theorem calm_takeNext (s : State) : Calm s (takeNext s) := by
  unfold takeNext
  split
  · exact .refl s
  · exact calm_modBus fun hb => hb.idle rfl fun f k hf => by
      cases hf
      exact nofun
  · rename_i c hc
    refine Calm.trans ?_ (calm_placeOwed _)
    exact calm_modBus fun hb => hb.take (nextOnBus_mem hc) none

theorem calm_kick (s : State) : Calm s (kick s) := by
  unfold kick
  exact .ite _ (fun _ => calm_takeNext s) fun _ => .refl s

theorem calm_pollIfLow (s : State) : Calm s (pollIfLow s) := by
  unfold pollIfLow
  refine .ite _ (fun _ => Calm.trans ?_ (calm_kick _)) fun _ => .refl s
  exact calm_modBus fun hb => hb.congr rfl rfl

theorem calm_placeQuiet (kind : CmdKind) (owner : PlacingUnit) {d : Nat} {s : State} (hd : d < s.installed) :
    Calm s (placeQuiet kind owner d s).1 := by
  unfold placeQuiet
  split
  · rename_i h
    simp only [nothingInHand, Bool.and_eq_true, Option.isNone_iff_eq_none, Bool.not_eq_true'] at h
    obtain ⟨⟨⟨hq, hf⟩, -⟩, hroom⟩ := h
    refine Calm.trans ?_ (calm_kick _)
    exact calm_append (c := ⟨kind, d, owner, true⟩) hd hq hf hroom
  · exact .refl s

theorem calm_owe (o : Owed) {d : Nat} {s : State} (hd : d < s.installed) : Calm s (owe o d s) :=
  calm_modDock hd (.of_unowed rfl)

/-- A queued command gives its place up to another of its dock, at the end. -/
theorem calm_swap {q c : Cmd} {s : State} (hq : q ∈ s.bus.queue) (hd : c.dock = q.dock) :
    Calm s (modBus (fun b => { b with queue := b.queue.erase q ++ [c] }) s) := calm_modBus fun hb => hb.swap hq hd

theorem calm_lockChange (o : Owed) {d : Nat} {s : State} (hd : d < s.installed) : Calm s (lockChange o d s).1 := by
  unfold lockChange
  dsimp only
  split
  · exact calm_owe o hd
  · split
    · exact calm_owe o hd
    · rename_i hf
      split
      · rename_i q hq
        split
        · dsimp only
          refine calm_modBus fun hb => ?_
          refine hb.mapQueue fun c _ => ?_
          split
          · rename_i hc
            exact (beq_iff_eq.mp hc).symm
          · rfl
        · exact calm_swap (queuedAt_mem hq) (queuedAt_dock hq).symm
      · rename_i hq
        split
        · exact calm_owe o hd
        · rename_i hroom
          exact calm_append (c := ⟨o.kind, d, o.owner, o.live⟩) hd hq hf (by simpa using hroom)

/-- The command that a LOCK or REJECT drops is one of the same dock (R29). -/
theorem lockChange_dock {o : Owed} {d : Nat} {s t : State} {c : Cmd} (h : lockChange o d s = (t, some c)) :
    c.dock = d := by
  unfold lockChange at h
  dsimp only at h
  split at h
  · cases h
    rfl
  · split at h
    · cases h
    · split at h
      · rename_i hq
        split at h <;> cases h <;> exact queuedAt_dock hq
      · split at h <;> cases h

theorem calm_unlatchChange {d : Nat} {s t : State} {c : Option Cmd} (h : unlatchChange d s = some (t, c))
    (hd : d < s.installed) : Calm s t := by
  unfold unlatchChange at h
  dsimp only at h
  split at h
  · cases h
  · rename_i hf
    simp only [Bool.or_eq_true, not_or, Bool.not_eq_true, Option.isSome_eq_false_iff, Option.isNone_iff_eq_none] at hf
    split at h
    · rename_i hq
      split at h <;> cases h
      exact calm_swap (queuedAt_mem hq) (queuedAt_dock hq).symm
    · rename_i hq
      split at h <;> cases h
      rename_i hroom
      exact calm_append (c := ⟨.unlatch, d, .release, true⟩) hd hq hf.2 (by simpa using hroom)

/-- The command that an UNLATCH drops is one of the same dock (R30). -/
theorem unlatchChange_dock {d : Nat} {s t : State} {c : Cmd} (h : unlatchChange d s = some (t, some c)) : c.dock = d := by
  unfold unlatchChange at h
  dsimp only at h
  split at h
  · cases h
  · split at h
    · rename_i hq
      split at h <;> cases h
      exact queuedAt_dock hq
    · split at h <;> cases h

/-! ## Operations and exchanges -/

theorem calm_withdraw (d : Nat) (s : State) : Calm s (withdraw d s) := by
  have howed : Calm s (modDock d (fun k => match k.owed with
      | some o => if o.owner = .release ∧ o.live then { k with owed := none } else k
      | none => k) s) := by
    refine calm_owed (fun k => ?_) rfl s
    split
    · split <;> rfl
    · rfl
  unfold withdraw
  dsimp only
  split
  · refine howed.trans (Calm.trans ?_ (calm_placeOwed _))
    exact calm_modBus fun hb => hb.subQueue List.filter_sublist
  · exact howed

theorem orphanAt_dock (d : Nat) (c : Cmd) : (c.orphanAt d).dock = c.dock := by
  unfold Cmd.orphanAt
  split <;> rfl

theorem busy_orphan (d : Nat) (b : Bus) :
    ({ b with queue := b.queue.map (Cmd.orphanAt d),
              inFlight := b.inFlight.map fun f => { f with what := f.what.orphanAt d } } : Bus).busy = b.busy := by
  have hq : (b.queue.map (Cmd.orphanAt d)).map Cmd.dock = b.queue.map Cmd.dock := by
    rw [List.map_map]
    exact List.map_congr_left fun c _ => orphanAt_dock d c
  unfold Bus.busy
  dsimp only
  rw [hq]
  rcases b.inFlight with _ | ⟨_ | c, n⟩
  · rfl
  · rfl
  · simp [OnBus.orphanAt, orphanAt_dock]

theorem calm_orphan (d : Nat) (s : State) : Calm s (orphan d s) := by
  unfold orphan
  refine Calm.trans ?_ (calm_modBus fun hb => ?_)
  · exact calm_owed (f := fun k => { k with owed := k.owed.map fun o => _ }) (fun _ => rfl) rfl s
  · exact hb.sub (by rw [busy_orphan]) (by simp)

theorem calm_endOperation (d : Nat) (s : State) : Calm s (endOperation d s) :=
  (calm_withdraw d s).trans (calm_orphan d _)

theorem calm_endExchange (s : State) : Calm s (endExchange s) := calm_modBus fun hb => hb.idle rfl (by simp)

theorem calm_sampleWire (low : Bool) (s : State) : Calm s (sampleWire low s) := calm_modBus fun hb => hb.congr rfl rfl

theorem calm_ignoreFrame (s : State) : Calm s (ignoreFrame s) := by
  unfold ignoreFrame
  exact .ite _ (fun _ => .refl s) fun _ => calm_modBus fun hb => hb.congr rfl rfl

theorem calm_moveOn (s : State) : Calm s (moveOn s) := by
  refine (calm_placeOwed s).trans (Calm.trans ?_ (calm_kick _))
  exact calm_modBus fun hb => hb.congr rfl rfl

theorem calm_pollEnded (s : State) : Calm s (pollEnded s) := by
  refine (calm_endExchange s).trans (Calm.trans ?_ (calm_moveOn _))
  exact calm_modBus fun hb => hb.congr rfl rfl

/-! ## Audits -/

theorem mem_insertDock {d e : Nat} {l : List Nat} (h : e ∈ insertDock d l) : e = d ∨ e ∈ l := by
  induction l with
  | nil => exact .inl (List.mem_singleton.mp h)
  | cons a l ih =>
    unfold insertDock at h
    split at h
    · exact List.mem_cons.mp h
    · split at h
      · exact .inr h
      · rcases List.mem_cons.mp h with h | h
        · exact .inr (h ▸ List.mem_cons_self)
        · exact (ih h).imp_right (List.mem_cons_of_mem a)

/-- A dock put into a set of the audit, of which all others stood in it before. -/
theorem of_mem_insertDock {d n : Nat} {l : List Nat} (hd : d < n) : ∀ e ∈ insertDock d l, e ∈ l ∨ e < n :=
  fun _ he => (mem_insertDock he).symm.imp_right fun h => by rwa [h]

theorem calm_passOver (l : List Nat) (s : State) (hl : ∀ d ∈ l, d < s.installed) : Calm s (passOver l s) := by
  induction l generalizing s with
  | nil => exact .refl s
  | cons d rest ih =>
    have hd := hl d List.mem_cons_self
    have hrest (t : State) (ht : t.installed = s.installed) : ∀ e ∈ rest, e < t.installed :=
      fun e he => ht ▸ hl e (List.mem_cons_of_mem d he)
    have herase (f : Audit → List Nat) : ∀ e ∈ (f s.audit).erase d, e ∈ f s.audit ∨ e < s.installed :=
      fun e he => .inl (List.mem_of_mem_erase he)
    unfold passOver
    split
    · refine Calm.trans ?_ (ih _ (hrest _ rfl))
      exact calm_modAudit (fun e he => .inl (List.mem_of_mem_erase he)) (fun e => .inl) (fun e => .inl)
    · split
      · exact ih s (hrest s rfl)
      · have h := calm_placeQuiet .status .patrol hd
        have hn := (placeQuiet_busOnly .status .patrol d s).installed
        split
        · rename_i s1 hp
          rw [hp] at h hn
          refine h.trans (Calm.trans ?_ (ih _ (hrest _ hn)))
          exact calm_modAudit (fun e he => .inl (List.mem_of_mem_erase he)) (of_mem_insertDock (hn ▸ hd)) (fun e => .inl)
        · rename_i s1 hp
          rw [hp] at h
          exact h

theorem calm_auditPass (s : State) : Calm s (auditPass s) := by
  unfold auditPass
  exact .ite _ (fun _ => .refl s) fun _ => .given fun hr => calm_passOver _ s hr.toDo

theorem calm_startInterval (s : State) : Calm s (startInterval s) := by
  unfold startInterval
  exact .ite _ (fun _ => .given fun hr => calm_patrol (p := { s.patrol with interval := 0 }) hr.cursor _) fun _ => .refl s

/-- The audit has ended. -/
theorem calm_auditOver (s : State) : Calm s (modAudit (fun a => { a with kind := .idle }) s) :=
  calm_modAudit (fun _ => .inl) (fun _ => .inl) fun _ => .inl

theorem calm_stationReady (s : State) : Calm s { s with station := .ready } := calm_aside rfl rfl rfl rfl rfl fun _ => rfl

theorem calm_auditEnd (s : State) : Calm s (auditEnd s) := by
  unfold auditEnd
  split
  · split
    · exact .refl s
    · exact (calm_auditOver s).trans ((calm_raise _ _).trans (calm_startInterval _))
    · exact (calm_auditOver s).trans ((calm_stationReady _).trans ((calm_raise _ _).trans (calm_startInterval _)))
  · exact .refl s

theorem calm_auditStep (s : State) : Calm s (auditStep s) := (calm_auditPass s).trans (calm_auditEnd _)

theorem calm_leaveOutstanding (d : Nat) (s : State) : Calm s (leaveOutstanding d s) :=
  calm_modAudit (fun _ => .inl) (fun _ he => .inl (List.mem_of_mem_erase he)) fun _ => .inl

theorem calm_leaveToDo (d : Nat) (s : State) : Calm s (modAudit (fun a => { a with toDo := a.toDo.erase d }) s) :=
  calm_modAudit (fun _ he => .inl (List.mem_of_mem_erase he)) (fun _ => .inl) fun _ => .inl

theorem calm_countMismatch {d : Nat} (m : Bool) {s : State} (hd : d < s.installed) : Calm s (countMismatch d m s) := by
  unfold countMismatch
  refine .ite _ (fun _ => ?_) fun _ => .refl s
  exact calm_modAudit (fun _ => .inl) (fun _ => .inl) fun e he => (List.mem_cons.mp he).symm.imp_right fun h => by rwa [h]

/-! ## Placements -/

theorem calm_tryReread {d : Nat} {s : State} (hd : d < s.installed) : Calm s (tryReread d s) := by
  have h := calm_placeQuiet .status .release hd
  have hn := (placeQuiet_busOnly .status .release d s).installed
  unfold tryReread
  split
  · rename_i s1 hp
    rw [hp] at h hn
    refine h.trans (calm_modDock (hn ▸ hd) ?_)
    split
    · exact ⟨rfl, rfl, rfl, rfl, rfl, .inl rfl⟩
    · exact ⟨rfl, rfl, rfl, rfl, rfl, .inl rfl⟩
  · rename_i s1 hp
    rw [hp] at h
    exact h

/-- A write of the release and eject phase, the timers or the retries of a dock (R45, R60). -/
theorem calm_setPhase {d : Nat} (p : Phase) {s : State} (hd : d < s.installed) : Calm s (setPhase d p s) :=
  calm_modDock hd ⟨rfl, rfl, rfl, rfl, rfl, .inl rfl⟩

theorem calm_handDropped (c : Cmd) {s : State} (hd : c.dock < s.installed) : Calm s (handDropped c s) := by
  unfold handDropped
  split
  · refine .ite _ (fun _ => Calm.trans ?_ (calm_auditStep _)) fun _ => .refl s
    exact calm_modAudit (of_mem_insertDock hd) (fun e he => .inl (List.mem_of_mem_erase he)) fun e => .inl
  · refine .ite _ (fun _ => Calm.trans ?_ (calm_tryReread hd)) fun _ => .refl s
    exact calm_modDock hd ⟨rfl, rfl, rfl, rfl, rfl, .inl rfl⟩
  · exact .refl s

theorem calm_dropped (c : Cmd) {s : State} (hd : c.dock < s.installed) : Calm s (dropped c s) := by
  unfold dropped
  split
  · have h := calm_lockChange { kind := .lock, owner := .release, live := true } hd
    have hn := (lockChange_busOnly { kind := .lock, owner := .release, live := true } c.dock s).installed
    split
    · rename_i hl
      rw [hl] at h hn
      have hother := lockChange_dock hl
      exact h.trans ((calm_setPhase .locking (hn ▸ hd)).trans (calm_handDropped _ (by rw [hother]; exact hn ▸ hd)))
    · rename_i hl
      rw [hl] at h hn
      exact h.trans (calm_setPhase .locking (hn ▸ hd))
  · exact calm_handDropped c hd

theorem calm_placeLock (o : Owed) {d : Nat} {s : State} (hd : d < s.installed) : Calm s (placeLock o d s) := by
  have h := calm_lockChange o hd
  have hn := (lockChange_busOnly o d s).installed
  unfold placeLock
  split
  · rename_i hl
    rw [hl] at h hn
    have hc := lockChange_dock hl
    exact h.trans ((calm_dropped _ (by rw [hc, hn]; exact hd)).trans (calm_kick _))
  · rename_i hl
    rw [hl] at h
    exact h.trans (calm_kick _)

theorem calm_placeUnlatch {d : Nat} {s t : State} (h : placeUnlatch d s = some t) (hd : d < s.installed) : Calm s t := by
  unfold placeUnlatch at h
  split at h
  · cases h
  · rename_i hu
    cases h
    have hc := unlatchChange_dock hu
    have hn := (unlatchChange_busOnly hu).installed
    exact (calm_unlatchChange hu hd).trans ((calm_dropped _ (by rw [hc, hn]; exact hd)).trans (calm_kick _))
  · rename_i hu
    cases h
    exact (calm_unlatchChange hu hd).trans (calm_kick _)

theorem calm_placeSense {d : Nat} {s : State} (hd : d < s.installed) : Calm s (placeSense d s) := calm_placeQuiet _ _ hd

theorem calm_senseCheck {d : Nat} {s : State} (hd : d < s.installed) : Calm s (senseCheck d s) := by
  unfold senseCheck
  exact .ite _ (fun _ => calm_placeSense hd) fun _ => .refl s

theorem calm_closeWith (p : Phase) {d : Nat} {s : State} (hd : d < s.installed) : Calm s (closeWith p d s) := by
  have hn : (placeLock ownLock d (modDock d (fun k => { k with window := none }) s)).installed = s.installed :=
    (placeLock_work ownLock d _).installed
  refine Calm.trans (t := modDock d (fun k => { k with window := none }) s) ?_
    (Calm.trans (calm_placeLock ownLock hd) (calm_setPhase p (hn ▸ hd)))
  exact calm_modDock hd ⟨rfl, rfl, rfl, rfl, rfl, .inl rfl⟩

end Sys2Proof.Machine
end

section
/-! PROOFS. The laws of the Dock Table, the Auth Queue and the batch (`Good`), those of hires and cards beside them
(`Whole`), the two together in the middle of an act (`Inv`), and the acts on one dock that keep them. -/

namespace Sys2Proof.Machine

/-! ## The laws -/

/-- The reservations that a batch allows: the pending entries under DELIVER, none under COLLECT (R103). -/
def Batch.places (b : Batch) : Nat := if b.kind = .deliver then b.pendingCount else 0

/-- The reservations that the station allows. -/
def State.places (s : State) : Nat := (s.plan.map Batch.places).getD 0

/-- A COLLECT batch is open. -/
def State.collects (s : State) : Prop := ∃ b, s.plan = some b ∧ b.kind = .collect

/-- A dock in the middle of an act: its reservation has been moved on, its authorization has been ended, or a bike has been
accepted with retire pending still set; the act has yet to settle it (R5, R77, R111). -/
structure Dock.Apart (k : Dock) : Prop where
  owner : k.owner = none
  reserved : k.reserved = false
  state : (k.state = .reserved ∧ k.bike = none) ∨ ((k.state = .claimed ∨ k.state = .held) ∧ k.bike.isSome = true)

/-- Every dock but the one apart agrees with its state (R4). -/
def Dock.Fits (x : Option Nat) (d : Nat) (k : Dock) : Prop := if x = some d then k.Apart else k.agrees = true

/-- The Auth Queue has at most 8 entries with distinct tags 1 to 255, cards and docks (R76). -/
structure AuthTable (l : List AuthEntry) : Prop where
  few : l.length ≤ Config.authPlaces
  tags : (l.map AuthEntry.tag).Nodup
  range : ∀ e ∈ l, 1 ≤ e.tag ∧ e.tag ≤ 255
  cards : (l.map AuthEntry.card).Nodup
  docks : (l.map AuthEntry.dock).Nodup

/-- The laws of the Dock Table, the Auth Queue and the batch, with dock `x` apart. While the link goes down, the Auth Queue
empties entry by entry, and `l` is false (R81). -/
structure Good (l : Bool) (x : Option Nat) (s : State) : Prop where
  settings : settingsLaw s = true
  rest : Rest s
  fits : ∀ d, (s.dock d).Fits x d
  ids : ∀ d e i, recordedId (s.dock d) = some i → recordedId (s.dock e) = some i → d = e
  auths : AuthTable s.claims
  link : l = true → s.link = .online ∨ s.claims = []
  claims : ∀ d, (∃ e ∈ s.claims, e.dock = d) ↔ (s.dock d).state = .claimed ∧ x ≠ some d
  vans : ∀ d, (s.dock d).vanHold = true → s.collects
  reservations : (reservedDocks s).length ≤ s.places
  manifest : ∀ b, s.plan = some b → b.kind = .deliver → b.target = 0 ∧ (b.manifest.map ManifestEntry.bike).Nodup

/-- The hires beside the owners and the bikes of the docks (R6, R83, R84, R85). Bike `y` may stand in a dock while its
hire is OUT, until the hire is closed. -/
structure Hiring (owners : Nat → Option Owner) (ids : Nat → Option Nat) (hires : List Hire) (batch : Bool)
    (y : Option Nat) : Prop where
  few : hires.length ≤ Config.hirePlaces
  numbers : (hires.map Hire.number).Nodup
  bikes : (hires.map Hire.bike).Nodup
  started : ∀ r ∈ hires, r.state ≠ .starting → r.start.isSome = true
  away : ∀ r ∈ hires, r.state ≠ .starting → y ≠ some r.bike → ∀ d, ids d ≠ some r.bike
  starting : ∀ r ∈ hires, r.state = .starting →
    ∃ d, r.dockFrom = some d ∧ ids d = some r.bike ∧ ∀ e, owners e = some (.hire r.number) ↔ e = d
  owned : ∀ d h, owners d = some (.hire h) → ∃ r ∈ hires, r.number = h ∧ r.state = .starting
  batch : ∀ d, owners d = some .batch → batch = true

/-- Hires of a card. -/
def cardHires (id : Nat) (hires : List Hire) : List Hire := hires.filter fun r => r.card == id

/-- The cards beside the hires (R63, R83). -/
structure Accounts (hires : List Hire) (cards : List Card) : Prop where
  few : cards.length ≤ Config.cardPlaces
  ids : (cards.map Card.id).Nodup
  balance : ∀ c ∈ cards, Config.balanceLow ≤ c.balance ∧ c.balance ≤ Config.balanceHigh
  count : ∀ c ∈ cards, c.openCount = (cardHires c.id hires).length
  held : ∀ c ∈ cards, c.held = ((cardHires c.id hires).map Hire.holdAmount).sum
  carded : ∀ r ∈ hires, ∃ c ∈ cards, c.id = r.card

/-- The release owners of the docks. -/
def State.owners (s : State) (d : Nat) : Option Owner := (s.dock d).owner

/-- The recorded bike ids of the docks. -/
def State.ids (s : State) (d : Nat) : Option Nat := recordedId (s.dock d)

/-- The laws of hires and cards at a READY station. -/
structure Whole (y : Option Nat) (s : State) : Prop where
  ready : s.station = .ready
  hiring : Hiring s.owners s.ids s.hires s.plan.isSome y
  accounts : Accounts s.hires s.cards

/-- The laws in the middle of an act; those of hires and cards only where the act began with them (`w`). -/
structure Inv (l w : Bool) (x y : Option Nat) (s : State) : Prop where
  good : Good l x s
  whole : w = true → Whole y s

section
variable {l w : Bool} {x x' y y' : Option Nat} {s t : State} {d : Nat} {k : Dock}

/-! ## Still acts -/

theorem Dock.Fits.alike {m : Dock} (h : k.Fits x d) (ha : k.Alike m) : m.Fits x d := by
  unfold Dock.Fits at h ⊢
  split
  · rename_i hx
    rw [if_pos hx] at h
    refine ⟨ha.owner.trans h.owner, ha.reserved.trans h.reserved, ?_⟩
    have hn : k.bike = none ↔ m.bike = none := by
      rw [← Option.isSome_eq_false_iff.trans Option.isNone_iff_eq_none,
        ← Option.isSome_eq_false_iff.trans Option.isNone_iff_eq_none, ha.isSome]
    rw [ha.state, ha.isSome, ← hn]
    exact h.state
  · rename_i hx
    rw [if_neg hx] at h
    exact ha.agrees.trans h

theorem settingsLaw_congr (h1 : t.settings = s.settings) (h2 : t.installed = s.installed) :
    settingsLaw t = settingsLaw s := by
  unfold settingsLaw
  rw [h1, h2]

theorem reservedDocks_congr (h : t.installed = s.installed)
    (hd : ∀ d, (t.dock d).state = (s.dock d).state ∧ (t.dock d).reserved = (s.dock d).reserved) :
    reservedDocks t = reservedDocks s := by
  unfold reservedDocks State.installedDocks
  rw [h]
  exact List.filter_congr fun d _ => by rw [(hd d).1, (hd d).2]

theorem Still.plan (h : Still s t) : t.plan = s.plan := congrArg Face.plan h.face
theorem Still.claims (h : Still s t) : t.claims = s.claims := congrArg Face.claims h.face
theorem Still.hires (h : Still s t) : t.hires = s.hires := congrArg Face.hires h.face
theorem Still.cards (h : Still s t) : t.cards = s.cards := congrArg Face.cards h.face
theorem Still.link (h : Still s t) : t.link = s.link := congrArg Face.link h.face
theorem Still.settings (h : Still s t) : t.settings = s.settings := congrArg Face.settings h.face

theorem Still.owners (h : Still s t) : t.owners = s.owners := funext fun d => (h.alike d).owner
theorem Still.ids (h : Still s t) : t.ids = s.ids := funext fun d => (h.alike d).recordedId
theorem Still.state (h : Still s t) (d : Nat) : (t.dock d).state = (s.dock d).state := (h.alike d).state

theorem Still.good (h : Still s t) (hg : Good l x s) : Good l x t where
  settings := (settingsLaw_congr h.settings h.installed).trans hg.settings
  rest := h.rest
  fits d := (hg.fits d).alike (h.alike d)
  ids d e i hd he := hg.ids d e i ((h.alike d).recordedId ▸ hd) ((h.alike e).recordedId ▸ he)
  auths := h.claims ▸ hg.auths
  link hl := by
    rw [h.link, h.claims]
    exact hg.link hl
  claims d := by
    rw [h.claims, h.state]
    exact hg.claims d
  vans d hd := by
    unfold State.collects
    rw [h.plan]
    exact hg.vans d ((h.alike d).vanHold ▸ hd)
  reservations := by
    rw [reservedDocks_congr h.installed fun d => ⟨(h.alike d).state, (h.alike d).reserved⟩]
    unfold State.places
    rw [h.plan]
    exact hg.reservations
  manifest := by
    rw [h.plan]
    exact hg.manifest

theorem Still.whole (h : Still s t) (hw : Whole y s) : Whole y t := by
  refine ⟨h.ready hw.ready, ?_, ?_⟩
  · rw [h.owners, h.ids, h.hires, h.plan]
    exact hw.hiring
  · rw [h.hires, h.cards]
    exact hw.accounts

theorem Inv.still (h : Inv l w x y s) (hs : Still s t) : Inv l w x y t := ⟨hs.good h.good, fun hw => hs.whole (h.whole hw)⟩

/-- A calm act keeps the laws. -/
theorem Inv.calm (h : Inv l w x y s) (hc : Calm s t) : Inv l w x y t := h.still (hc h.good.rest)

theorem Inv.ite (p : Prop) [Decidable p] (hs : p → Inv l w x y s) (ht : ¬p → Inv l w x y t) :
    Inv l w x y (if p then s else t) := by
  split
  · exact hs ‹_›
  · exact ht ‹_›

/-! ## What the laws say of one dock -/

theorem Good.agrees (h : Good l x s) (hx : x ≠ some d) : (s.dock d).agrees = true := by
  have := h.fits d
  rwa [Dock.Fits, if_neg hx] at this

theorem Good.apart (h : Good l (some d) s) : (s.dock d).Apart := by
  have := h.fits d
  rwa [Dock.Fits, if_pos rfl] at this

/-- A dock with a release owner is RELEASING (R4). -/
theorem agrees_owner (h : k.agrees = true) (hs : k.state ≠ .releasing) : k.owner = none := by
  unfold Dock.agrees at h
  cases hk : k.state <;> simp_all [Dock.plain]

theorem Good.owner_none (h : Good l x s) (hs : (s.dock d).state ≠ .releasing) : (s.dock d).owner = none := by
  by_cases hx : x = some d
  · subst hx
    exact h.apart.owner
  · exact agrees_owner (h.agrees hx) hs

/-! ## One record written -/

theorem owners_setDock (hd : d < Config.docks) (k : Dock) (s : State) :
    (setDock d k s).owners = Function.update s.owners d k.owner := by
  funext e
  by_cases he : e = d
  · subst he
    rw [Function.update_self, State.owners, dock_setDock_self hd]
  · rw [Function.update_of_ne he, State.owners, dock_setDock_other (Ne.symm he)]
    rfl

theorem ids_setDock (hd : d < Config.docks) (k : Dock) (s : State) :
    (setDock d k s).ids = Function.update s.ids d (recordedId k) := by
  funext e
  by_cases he : e = d
  · subst he
    rw [Function.update_self, State.ids, dock_setDock_self hd]
  · rw [Function.update_of_ne he, State.ids, dock_setDock_other (Ne.symm he)]
    rfl

theorem Rest.setDock (h : Rest s) (hd : d < s.installed) (k : Dock) : Rest (setDock d k s) :=
  ⟨h.bus, h.few, fun e he => (dock_setDock_other (by simp only [setDock_installed] at he; omega) k s).trans (h.high e he),
    h.cursor, h.toDo, h.outstanding, h.counted⟩

/-- The reserved docks as a set. -/
theorem reservedDocks_length (s : State) : (reservedDocks s).length =
    ((Finset.range s.installed).filter fun d => (s.dock d).state = .reserved ∧ (s.dock d).reserved = true).card := by
  have hn : (reservedDocks s).Nodup := List.nodup_range.filter _
  rw [← List.toFinset_card_of_nodup hn]
  congr 1
  ext d
  simp [reservedDocks, State.installedDocks]

/-- A dock stands reserved. -/
def Dock.Taken (k : Dock) : Prop := k.state = .reserved ∧ k.reserved = true

theorem reservedDocks_le (h : t.installed = s.installed) (hd : ∀ d, (t.dock d).Taken → (s.dock d).Taken) :
    (reservedDocks t).length ≤ (reservedDocks s).length := by
  rw [reservedDocks_length, reservedDocks_length, h]
  exact Finset.card_le_card fun d hm => by
    rw [Finset.mem_filter] at hm ⊢
    exact ⟨hm.1, hd d hm.2⟩

/-- One more dock has become reserved. -/
theorem reservedDocks_le_add (h : t.installed = s.installed) (hd : ∀ e, e ≠ d → (t.dock e).Taken → (s.dock e).Taken) :
    (reservedDocks t).length ≤ (reservedDocks s).length + 1 := by
  rw [reservedDocks_length, reservedDocks_length, h]
  refine (Finset.card_le_card (t := insert d (Finset.filter _ _)) fun e hm => ?_).trans (Finset.card_insert_le _ _)
  rw [Finset.mem_filter] at hm
  by_cases he : e = d
  · exact Finset.mem_insert.mpr (.inl he)
  · exact Finset.mem_insert.mpr (.inr (Finset.mem_filter.mpr ⟨hm.1, hd e he hm.2⟩))

/-- One dock has lost its reservation. -/
theorem reservedDocks_lt (h : t.installed = s.installed) (hi : d < s.installed) (hs : (s.dock d).Taken)
    (ht : ¬ (t.dock d).Taken) (hd : ∀ e, (t.dock e).Taken → (s.dock e).Taken) :
    (reservedDocks t).length < (reservedDocks s).length := by
  rw [reservedDocks_length, reservedDocks_length, h]
  refine Finset.card_lt_card ⟨fun e hm => ?_, fun hsub => ?_⟩
  · rw [Finset.mem_filter] at hm ⊢
    exact ⟨hm.1, hd e hm.2⟩
  · have := hsub (Finset.mem_filter.mpr ⟨Finset.mem_range.mpr hi, hs⟩)
    exact ht (Finset.mem_filter.mp this).2

/-- Which dock is apart before and after an act that settles dock `d`: none, dock `d` itself no longer, or another one
still. -/
inductive Settles (d : Nat) : Option Nat → Option Nat → Prop where
  | plain : Settles d none none
  | apart : Settles d (some d) none
  | other {c : Nat} (h : c ≠ d) : Settles d (some c) (some c)

theorem Settles.ne (h : Settles d x x') : x' ≠ some d := by
  cases h with
  | plain => exact nofun
  | apart => exact nofun
  | other h => exact fun hc => h (Option.some.inj hc)

theorem Settles.iff (h : Settles d x x') {e : Nat} (he : e ≠ d) : x' = some e ↔ x = some e := by
  cases h with
  | plain => exact .rfl
  | apart => exact ⟨nofun, fun hd => absurd (Option.some.inj hd).symm he⟩
  | other h => exact .rfl

/-- An act on the Dock Table from `s` to `t`: the laws after it, with dock `x` apart, and the release owners and bike ids
that it leaves; nothing else that a law reads has changed. -/
structure Acts (l : Bool) (x : Option Nat) (owners : Nat → Option Owner) (ids : Nat → Option Nat) (s t : State) : Prop where
  good : Good l x t
  face : t.face = s.face
  ready : s.station = .ready → t.station = .ready
  owners : t.owners = owners
  ids : t.ids = ids

/-- An act that leaves every release owner and every bike id. -/
abbrev Keeps (l : Bool) (x : Option Nat) (s t : State) : Prop := Acts l x s.owners s.ids s t

theorem Good.refl (h : Good l x s) : Keeps l x s s := ⟨h, rfl, id, rfl, rfl⟩

theorem Good.calm (h : Good l x s) (hc : Calm s t) : Keeps l x s t :=
  have hs := hc h.rest
  ⟨hs.good h, hs.face, hs.ready, hs.owners, hs.ids⟩

theorem Acts.trans {owners : Nat → Option Owner} {ids : Nat → Option Nat} {u : State} (h : Acts l x owners ids s t)
    (g : Good l x t → Keeps l x' t u) : Acts l x' owners ids s u :=
  have hg := g h.good
  ⟨hg.good, hg.face.trans h.face, fun hs => hg.ready (h.ready hs), hg.owners.trans h.owners, hg.ids.trans h.ids⟩

theorem Acts.calm {owners : Nat → Option Owner} {ids : Nat → Option Nat} {u : State} (h : Acts l x owners ids s t)
    (hc : Calm t u) : Acts l x owners ids s u := h.trans fun hg => hg.calm hc

theorem Acts.installed {owners : Nat → Option Owner} {ids : Nat → Option Nat} (h : Acts l x owners ids s t) :
    t.installed = s.installed := congrArg Face.installed h.face

theorem Acts.plan {owners : Nat → Option Owner} {ids : Nat → Option Nat} (h : Acts l x owners ids s t) :
    t.plan = s.plan := congrArg Face.plan h.face

/-- The laws of hires and cards across an act on the Dock Table, given them with the owners and ids that it leaves. -/
theorem Acts.whole {owners : Nat → Option Owner} {ids : Nat → Option Nat} (ha : Acts l x owners ids s t)
    (hready : s.station = .ready) (hh : Hiring owners ids s.hires s.plan.isSome y) (hc : Accounts s.hires s.cards) :
    Whole y t := by
  have hhires : t.hires = s.hires := congrArg Face.hires ha.face
  have hcards : t.cards = s.cards := congrArg Face.cards ha.face
  refine ⟨ha.ready hready, ?_, by rwa [hhires, hcards]⟩
  rw [ha.owners, ha.ids, hhires, ha.plan]
  exact hh

/-- The laws across an act on the Dock Table, given what it does to those of hires. -/
theorem Inv.acts {owners : Nat → Option Owner} {ids : Nat → Option Nat} (h : Inv l w x y s)
    (ha : Acts l x' owners ids s t)
    (hh : w = true → Hiring s.owners s.ids s.hires s.plan.isSome y → Hiring owners ids s.hires s.plan.isSome y') :
    Inv l w x' y' t := by
  refine ⟨ha.good, fun hw => ?_⟩
  obtain ⟨hready, hhiring, haccounts⟩ := h.whole hw
  exact ha.whole hready (hh hw hhiring) haccounts

theorem Inv.keeps (h : Inv l w x y s) (hk : Keeps l x' s t) : Inv l w x' y t := h.acts hk fun _ => id

/-- A record written to a dock, which leaves the docks that authorizations name. -/
theorem Good.put (h : Good l x s) (hd : d < s.installed)
    (hq : (s.dock d).state = .claimed ∧ x ≠ some d ↔ k.state = .claimed ∧ x' ≠ some d)
    (hx : ∀ e, e ≠ d → (x' = some e ↔ x = some e)) (hf : k.Fits x' d)
    (hr : (reservedDocks (setDock d k s)).length ≤ s.places) (hv : k.vanHold = true → s.collects)
    (hid : ∀ e i, e ≠ d → recordedId (s.dock e) = some i → recordedId k ≠ some i) :
    Acts l x' (Function.update s.owners d k.owner) (Function.update s.ids d (recordedId k)) s (setDock d k s) := by
  have h64 : d < Config.docks := Nat.lt_of_lt_of_le hd h.rest.few
  have hself := dock_setDock_self h64 k s
  have hother {e : Nat} (he : e ≠ d) := dock_setDock_other (Ne.symm he) k s
  refine ⟨⟨h.settings, h.rest.setDock hd k, fun e => ?_, fun e f i he hf => ?_, h.auths, h.link, fun e => ?_,
    fun e he => ?_, hr, h.manifest⟩, rfl, id, owners_setDock h64 k s, ids_setDock h64 k s⟩
  · by_cases hed : e = d
    · subst hed
      rwa [hself]
    · have := h.fits e
      rw [hother hed]
      unfold Dock.Fits at this ⊢
      simpa only [hx e hed] using this
  · by_cases hed : e = d <;> by_cases hfd : f = d
    · rw [hed, hfd]
    · subst hed
      rw [hself] at he
      rw [hother hfd] at hf
      exact absurd he (hid f i hfd hf)
    · subst hfd
      rw [hself] at hf
      rw [hother hed] at he
      exact absurd hf (hid e i hed he)
    · rw [hother hed] at he
      rw [hother hfd] at hf
      exact h.ids e f i he hf
  · by_cases hed : e = d
    · subst hed
      rw [hself]
      exact (h.claims e).trans hq
    · rw [hother hed, ne_eq, hx e hed]
      exact h.claims e
  · by_cases hed : e = d
    · subst hed
      rw [hself] at he
      exact hv he
    · rw [hother hed] at he
      exact h.vans e he

/-- A record written to a dock that no authorization names. -/
theorem Good.write (h : Good l x s) (hd : d < s.installed) (hq : (s.dock d).state ≠ .claimed ∨ x = some d)
    (hx : ∀ e, e ≠ d → (x' = some e ↔ x = some e)) (hf : k.Fits x' d) (hc : k.state = .claimed → x' = some d)
    (hr : (reservedDocks (setDock d k s)).length ≤ s.places) (hv : k.vanHold = true → s.collects)
    (hid : ∀ e i, e ≠ d → recordedId (s.dock e) = some i → recordedId k ≠ some i) :
    Acts l x' (Function.update s.owners d k.owner) (Function.update s.ids d (recordedId k)) s (setDock d k s) := by
  refine h.put hd ⟨fun ⟨hs, hn⟩ => ?_, fun ⟨hs, hn⟩ => absurd (hc hs) hn⟩ hx hf hr hv hid
  exact hq.elim (absurd hs) fun hq => absurd hq hn

/-- No more docks are reserved after a write that reserves none. -/
theorem Good.reservations_setDock (h : Good l x s) (hd : d < s.installed) (hr : k.Taken → (s.dock d).Taken) :
    (reservedDocks (setDock d k s)).length ≤ s.places := by
  refine (reservedDocks_le (s := s) (t := setDock d k s) rfl fun e he => ?_).trans h.reservations
  by_cases hed : e = d
  · subst hed
    rw [dock_setDock_self (Nat.lt_of_lt_of_le hd h.rest.few)] at he
    exact hr he
  · rwa [dock_setDock_other (Ne.symm hed)] at he

/-- A dock settled in a state that is neither RESERVED nor CLAIMED, its bike as it was or gone. -/
theorem Good.settle (h : Good l x s) (hx : Settles d x x') (hd : d < s.installed)
    (hq : (s.dock d).state ≠ .claimed ∨ x = some d) (ha : k.agrees = true) (hc : k.state ≠ .claimed)
    (hr : k.state ≠ .reserved) (hv : k.vanHold = true → s.collects)
    (hid : recordedId k = none ∨ recordedId k = recordedId (s.dock d)) :
    Acts l x' (Function.update s.owners d k.owner) (Function.update s.ids d (recordedId k)) s (setDock d k s) := by
  refine h.write hd hq (fun e he => hx.iff he) (by rwa [Dock.Fits, if_neg hx.ne]) (fun h => absurd h hc)
    (h.reservations_setDock hd fun ht => absurd ht.1 hr) hv fun e i he hi hk => ?_
  rcases hid with hid | hid
  · rw [hid] at hk
    cases hk
  · exact he (h.ids e d i hi (hid ▸ hk))

end

end Sys2Proof.Machine
end

section
/-! PROOFS. The shared operations on docks keep the laws of the Dock Table: reservations and their moves, docks that
become VACANT, HELD or RETIRED, dock reports. -/

namespace Sys2Proof.Machine

section
variable {l : Bool} {x x' : Option Nat} {s : State} {d : Nat}

/-! ## Facts used by name -/

theorem Good.lt_docks (h : Good l x s) (hd : d < s.installed) : d < Config.docks := Nat.lt_of_lt_of_le hd h.rest.few

theorem modDock_modDock (hd : d < Config.docks) (f g : Dock → Dock) (s : State) :
    modDock d g (modDock d f s) = modDock d (fun k => g (f k)) s := by
  unfold modDock
  rw [dock_setDock_self hd]
  unfold setDock
  simp

theorem plan_eq {b : Batch} (h : s.batch = some b) : s.plan = some b.face := by
  unfold State.plan
  rw [h]
  rfl

theorem places_eq {b : Batch} (h : s.batch = some b) : s.places = b.places := by
  unfold State.places
  rw [plan_eq h]
  rfl

theorem collects_of {b : Batch} (h : s.batch = some b) (hk : b.kind = .collect) : s.collects := ⟨b.face, plan_eq h, hk⟩

theorem owners_same (hd : s.owners d = none) : Function.update s.owners d none = s.owners := by
  rw [← hd, Function.update_eq_self]

theorem ids_same : Function.update s.ids d (recordedId (s.dock d)) = s.ids := Function.update_eq_self d s.ids

/-- An act that changes the record of a dock with no release owner, its bike id as it was. -/
theorem Acts.keeps {t : State} {o : Option Owner} {i : Option Nat}
    (h : Acts l x (Function.update s.owners d o) (Function.update s.ids d i) s t) (ho : o = s.owners d) (hi : i = s.ids d) :
    Keeps l x s t := by
  subst ho hi
  rwa [Function.update_eq_self, Function.update_eq_self] at h

/-! ## Reservations -/

/-- A VACANT dock is reserved while a reservation is open. -/
theorem Good.reserve (h : Good l x s) (hd : d < s.installed) (hv : (s.dock d).state = .vacant)
    (hc : (reservedDocks s).length < s.places) :
    Keeps l x s (reserve d s) ∧ (reservedDocks (Machine.reserve d s)).length ≤ (reservedDocks s).length + 1 := by
  have hx : x ≠ some d := by
    rintro rfl
    have := h.apart.state
    simp [hv] at this
  have ha := h.agrees hx
  have hcount : (reservedDocks (Machine.reserve d s)).length ≤ (reservedDocks s).length + 1 :=
    reservedDocks_le_add (d := d) rfl fun e he ht => by rwa [Machine.reserve, dock_modDock_other (Ne.symm he)] at ht
  refine ⟨?_, hcount⟩
  refine (h.write (k := { s.dock d with state := .reserved, reserved := true }) hd (.inl (by simp [hv]))
    (fun _ _ => .rfl) ?_ nofun (hcount.trans hc) (h.vans d) fun e i he hi hk => he (h.ids e d i hi hk)).keeps rfl rfl
  rw [Dock.Fits, if_neg hx]
  simp_all [Dock.agrees, Dock.plain]

/-- VACANT docks are reserved one after another, no more than are open. -/
theorem Good.reserveAll (L : List Nat) (h : Good l x s) (hn : L.Nodup)
    (hL : ∀ d ∈ L, d < s.installed ∧ (s.dock d).state = .vacant) (hc : (reservedDocks s).length + L.length ≤ s.places) :
    Keeps l x s (L.foldl (fun t d => Machine.reserve d t) s) := by
  induction L generalizing s with
  | nil => exact h.refl
  | cons d L ih =>
    obtain ⟨hdL, hn⟩ := List.nodup_cons.mp hn
    obtain ⟨hd, hv⟩ := hL d List.mem_cons_self
    rw [List.length_cons] at hc
    obtain ⟨hk, hcount⟩ := h.reserve hd hv (by omega)
    refine hk.trans fun hg => ih hg hn (fun e he => ?_) ?_
    · have hed : d ≠ e := fun h => hdL (h ▸ he)
      rw [Machine.reserve, dock_modDock_other hed]
      exact hL e (List.mem_cons_of_mem d he)
    · have : (Machine.reserve d s).places = s.places := rfl
      omega

theorem eligible_vacant (h : eligible d s = true) : (s.dock d).state = .vacant := by
  unfold eligible at h
  simpa using (Bool.and_eq_true_iff.mp h).1

theorem mem_reservationOrder (h : d ∈ reservationOrder s) : d < s.installed ∧ (s.dock d).state = .vacant := by
  have : d ∈ s.installedDocks.filter fun d => eligible d s := by
    rcases List.mem_append.mp h with h | h
    · exact List.mem_of_mem_filter h
    · exact List.mem_of_mem_filter h
  obtain ⟨hi, he⟩ := List.mem_filter.mp this
  exact ⟨List.mem_range.mp hi, eligible_vacant he⟩

theorem reservationOrder_nodup (s : State) : (reservationOrder s).Nodup := by
  have hn : (s.installedDocks.filter fun d => eligible d s).Nodup := List.nodup_range.filter _
  refine List.nodup_append.mpr ⟨hn.filter _, hn.filter _, fun a ha b hb hab => ?_⟩
  subst hab
  have h1 := (List.mem_filter.mp ha).2
  have h2 := (List.mem_filter.mp hb).2
  simp_all

/-- The top-up reserves no more docks than are open (R105, R106). -/
theorem Good.topUp (h : Good l x s) : Keeps l x s (topUp s) := by
  unfold Machine.topUp
  split
  · rename_i b hb
    split
    · rename_i hk
      have hp : s.places = b.pendingCount := (places_eq hb).trans (if_pos hk)
      have hr := h.reservations
      refine h.reserveAll _ ((reservationOrder_nodup s).sublist (List.take_sublist _ _))
        (fun d hd => mem_reservationOrder (List.mem_of_mem_take hd)) ?_
      have hlen := List.length_take_le (b.pendingCount - (reservedDocks s).length) (reservationOrder s)
      omega
    · exact h.refl
  · exact h.refl

/-- A RESERVED dock whose reservation goes on to another dock, or is dropped (R111), and the dock's record after it. -/
theorem Good.moveReservation (h : Good l none s) (hs : (s.dock d).state = .reserved) :
    Keeps l (some d) s (moveReservation d s) ∧ (Machine.moveReservation d s).dock d = { s.dock d with reserved := false } := by
  have hd : d < s.installed := h.rest.lt_of_state (by simp [hs])
  have h64 := h.lt_docks hd
  have ha := h.agrees (d := d) nofun
  let s1 := modDock d (fun k => { k with reserved := false }) s
  have hself : s1.dock d = { s.dock d with reserved := false } := dock_modDock_self h64 _ s
  have htaken : (s.dock d).Taken := ⟨hs, by simp_all [Dock.agrees]⟩
  have hlt : (reservedDocks s1).length < s.places := by
    refine Nat.lt_of_lt_of_le (reservedDocks_lt (s := s) (t := s1) rfl hd htaken (by simp [hself, Dock.Taken]) fun e he => ?_) h.reservations
    by_cases hed : e = d
    · subst hed
      exact htaken
    · rwa [dock_modDock_other (Ne.symm hed)] at he
  have hk : Keeps l (some d) s s1 := by
    refine (h.write (k := { s.dock d with reserved := false }) hd (.inl (by simp [hs]))
      (fun e he => ⟨fun hn => absurd (Option.some.inj hn).symm he, nofun⟩) ?_ (fun _ => rfl) (Nat.le_of_lt hlt)
      (h.vans d) fun e i he hi hk => he (h.ids e d i hi hk)).keeps rfl rfl
    rw [Dock.Fits, if_pos rfl]
    simp only [hs, Dock.agrees, Bool.and_eq_true, Option.isNone_iff_eq_none] at ha
    obtain ⟨⟨⟨⟨hbike, howner⟩, -⟩, -⟩, -⟩ := ha
    exact ⟨howner, rfl, .inl ⟨hs, hbike⟩⟩
  unfold Machine.moveReservation
  dsimp only
  split
  · rename_i e hfind
    have hmem := List.mem_range.mp (List.mem_of_find?_eq_some hfind)
    have htest := List.find?_some hfind
    simp only [Bool.and_eq_true, bne_iff_ne] at htest
    refine ⟨hk.trans fun hg => (hg.reserve hmem (eligible_vacant htest.2) hlt).1, ?_⟩
    rw [Machine.reserve, dock_modDock_other htest.1]
    exact hself
  · exact ⟨hk, hself⟩

/-- A RESERVED dock becomes VACANT (R106). -/
theorem Good.giveBack (h : Good l x s) (hs : (s.dock d).Taken) : Keeps l x s (giveBack d s) := by
  have hd : d < s.installed := h.rest.lt_of_state (by simp [hs.1])
  have hx : x ≠ some d := by
    rintro rfl
    have := h.apart.reserved
    simp [hs.2] at this
  have ha := h.agrees hx
  refine (h.write (k := { s.dock d with state := .vacant, reserved := false }) hd (.inl (by simp [hs.1]))
    (fun _ _ => .rfl) ?_ nofun (h.reservations_setDock hd nofun) (h.vans d)
    fun e i he hi hk => he (h.ids e d i hi hk)).keeps rfl rfl
  rw [Dock.Fits, if_neg hx]
  have := hs.1
  simp_all [Dock.agrees, Dock.plain]

/-- A van hold at a HELD dock, under a COLLECT batch (R107, R108). -/
theorem Good.holdDock (h : Good l x s) (hs : (s.dock d).state = .held) (hc : s.collects) :
    Keeps l x s (holdDock d s) := by
  have hd : d < s.installed := h.rest.lt_of_state (by simp [hs])
  refine (h.write (k := { s.dock d with vanHold := true }) hd (.inl (by simp [hs])) (fun _ _ => .rfl) ?_
    (fun hk => absurd (hs.symm.trans hk) nofun) (h.reservations_setDock hd id) (fun _ => hc)
    fun e i he hi hk => he (h.ids e d i hi hk)).keeps rfl rfl
  have := h.fits d
  unfold Dock.Fits at this ⊢
  split
  · rename_i hx
    rw [if_pos hx] at this
    exact ⟨this.owner, this.reserved, this.state⟩
  · rename_i hx
    rw [if_neg hx] at this
    simp_all [Dock.agrees]

theorem Good.holdIfWanted (d : Nat) (h : Good l x s) : Keeps l x s (holdIfWanted d s) := by
  unfold Machine.holdIfWanted
  split
  · rename_i b k hb hk
    split
    · rename_i hc
      exact h.holdDock hc.2.1 (collects_of hb hc.1)
    · exact h.refl
  · exact h.refl

/-! ## Docks that become RETIRED, VACANT or HELD -/

theorem asRetired_agrees (k : Dock) : k.asRetired.agrees = true := by
  simp [Dock.agrees, Dock.asRetired, Dock.settled, Dock.plain]

/-- Dock `d` enters RETIRED, with its bike stranded (R129). -/
theorem Good.enterRetired (h : Good l x s) (hx : Settles d x x') (hd : d < s.installed)
    (hq : (s.dock d).state ≠ .claimed ∨ x = some d) :
    Acts l x' (Function.update s.owners d none) s.ids s (enterRetired d s) := by
  have ht := h.settle (k := (s.dock d).asRetired) hx hd hq (asRetired_agrees _) nofun nofun nofun (.inr rfl)
  rw [show recordedId (s.dock d).asRetired = recordedId (s.dock d) from rfl, ids_same] at ht
  exact ((ht.calm (calm_orphan d _)).calm (calm_enterRecord _ _)).calm (calm_raise _ _)

theorem Good.enterRetiredEmpty (h : Good l x s) (hx : Settles d x x') (hd : d < s.installed)
    (hq : (s.dock d).state ≠ .claimed ∨ x = some d) :
    Acts l x' (Function.update s.owners d none) (Function.update s.ids d none) s (enterRetiredEmpty d s) := by
  have ht := h.settle (k := Dock.asRetired { s.dock d with bike := none }) hx hd hq (asRetired_agrees _)
    (by simp [Dock.asRetired, Dock.settled]) (by simp [Dock.asRetired, Dock.settled]) nofun (.inl rfl)
  unfold Machine.enterRetiredEmpty Machine.enterRetired
  rw [modDock_modDock (h.lt_docks hd)]
  exact ((ht.calm (calm_orphan d _)).calm (calm_enterRecord _ _)).calm (calm_raise _ _)

/-- An operation ends that leaves dock `d` VACANT, or RETIRED through R5. -/
theorem Good.becomeVacant (h : Good l x s) (hx : Settles d x x') (hd : d < s.installed)
    (hq : (s.dock d).state ≠ .claimed ∨ x = some d) :
    Acts l x' (Function.update s.owners d none) (Function.update s.ids d none) s (becomeVacant d s) := by
  unfold Machine.becomeVacant
  split
  · exact h.enterRetiredEmpty hx hd hq
  · have ht := h.settle (k := (s.dock d).vacated) hx hd hq
      (by simp [Dock.agrees, Dock.vacated, Dock.settled, Dock.plain]) nofun nofun nofun (.inl rfl)
    exact ht.trans fun hg => hg.topUp

/-- An operation ends that leaves dock `d` HELD with its bike, or RETIRED through R5. -/
theorem Good.becomeHeld (h : Good l x s) (hx : Settles d x x') (hd : d < s.installed)
    (hq : (s.dock d).state ≠ .claimed ∨ x = some d) (hb : (s.dock d).bike.isSome = true) :
    Acts l x' (Function.update s.owners d none) s.ids s (becomeHeld d s) := by
  unfold Machine.becomeHeld
  split
  · exact h.enterRetired hx hd hq
  · rename_i hp
    have ht := h.settle (k := (s.dock d).settled .held (s.dock d).bike) hx hd hq
      (by simp [Dock.agrees, Dock.settled, hb, hp]) nofun nofun (h.vans d) (.inr rfl)
    rw [show recordedId ((s.dock d).settled .held (s.dock d).bike) = recordedId (s.dock d) from rfl, ids_same] at ht
    exact ht.trans fun hg => hg.holdIfWanted d

/-- A dock that no operation holds may be retired at once with its bike. -/
theorem Good.enterRetired_keeps (h : Good l x s) (hx : Settles d x x') (hd : d < s.installed)
    (hq : (s.dock d).state ≠ .claimed ∨ x = some d) (hs : (s.dock d).state ≠ .releasing) :
    Keeps l x' s (Machine.enterRetired d s) := by
  have ht := h.enterRetired hx hd hq
  rwa [owners_same (h.owner_none hs)] at ht

/-- The last step of an act at a dock in an operation that has just begun: R5 retires it if retire pending is set. -/
theorem Good.applyPending (h : Good l none s) (hd : d < s.installed) (hc : (s.dock d).state ≠ .claimed)
    (hs : (s.dock d).state ≠ .releasing) : Keeps l none s (applyPending d s) := by
  unfold Machine.applyPending
  split
  · exact h.enterRetired_keeps .plain hd (.inl hc) hs
  · exact h.refl

/-- A dock apart that is HELD with no retire pending agrees with its state. -/
theorem Good.rejoin (h : Good l (some d) s) (hs : (s.dock d).state = .held) (hp : (s.dock d).retirePending = false) :
    Keeps l none s s := by
  have hd : d < s.installed := h.rest.lt_of_state (by simp [hs])
  have ha := h.apart
  have hb : (s.dock d).bike.isSome = true := by
    rcases ha.state with ⟨h, -⟩ | ⟨-, h⟩
    · simp [hs] at h
    · exact h
  have ht := h.settle (k := s.dock d) .apart hd (.inr rfl)
    (by simp [Dock.agrees, hs, hb, ha.owner, ha.reserved, hp]) (by simp [hs]) (by simp [hs]) (h.vans d) (.inr rfl)
  rw [setDock_same rfl] at ht
  exact ht.keeps rfl rfl

/-- The last step at a HELD dock that has taken a bike in with retire pending perhaps still set (R5). -/
theorem Good.applyPending_held (h : Good l (some d) s) (hs : (s.dock d).state = .held) :
    Keeps l none s (Machine.applyPending d s) := by
  unfold Machine.applyPending
  split
  · exact h.enterRetired_keeps .apart (h.rest.lt_of_state (by simp [hs])) (.inr rfl) (by simp [hs])
  · rename_i hp
    exact h.rejoin hs (by simpa using hp)

/-! ## Dock reports -/

/-- The threshold retires a dock at once, or marks the operation in flight there (R128). -/
theorem Good.retireAtThreshold (h : Good l x s) (hx : Settles d x x) (hr : x = none ∨ (s.dock d).state ≠ .reserved) :
    Keeps l x s (retireAtThreshold d s) := by
  have hpending (hs : inFlightState (s.dock d).state = true) :
      Keeps l x s (modDock d (fun k => { k with retirePending := true }) s) :=
    h.calm (calm_modDock (h.rest.lt_of_state fun hu => by simp [hu, inFlightState] at hs)
      ⟨rfl, rfl, rfl, rfl, rfl, .inr hs⟩)
  unfold Machine.retireAtThreshold
  split
  case h_1 hs => exact h.enterRetired_keeps hx (h.rest.lt_of_state (by simp [hs])) (.inl (by simp [hs])) (by simp [hs])
  case h_2 hs => exact h.enterRetired_keeps hx (h.rest.lt_of_state (by simp [hs])) (.inl (by simp [hs])) (by simp [hs])
  case h_3 hs =>
    obtain rfl : x = none := hr.resolve_right (by simp [hs])
    obtain ⟨hk, hdock⟩ := h.moveReservation hs
    have hd : d < s.installed := h.rest.lt_of_state (by simp [hs])
    exact hk.trans fun hg => hg.enterRetired_keeps .apart (hk.installed ▸ hd) (.inr rfl) (by simp [hdock, hs])
  case h_4 hs => exact hpending (by simp [hs, inFlightState])
  case h_5 hs => exact hpending (by simp [hs, inFlightState])
  case h_6 hs => exact hpending (by simp [hs, inFlightState])
  case h_7 hs => exact hpending (by simp [hs, inFlightState])
  case h_8 => exact h.refl
  case h_9 => exact h.refl

/-- A report against a dock (R123, R124, R128). -/
theorem Good.reportDock (c : Category) (severe : Bool) (h : Good l x s) (hx : Settles d x x) (hd : d < s.installed)
    (hr : x = none ∨ (s.dock d).state ≠ .reserved) : Keeps l x s (reportDock d c severe s) := by
  unfold Machine.reportDock
  split
  · exact h.refl
  · have hcount := fun n : Nat => h.calm (calm_modDock (f := fun k => { k with faultCount := n }) hd
      ⟨rfl, rfl, rfl, rfl, rfl, .inl rfl⟩)
    dsimp only
    split
    · refine ((hcount _).calm (calm_enterRecord _ _)).trans fun hg => hg.retireAtThreshold hx ?_
      rw [enterRecord_dock, dock_modDock_self (h.lt_docks hd)]
      exact hr
    · exact (hcount _).calm (calm_enterRecord _ _)

end

end Sys2Proof.Machine
end

section
/-! PROOFS. The batch and the Auth Queue: deliveries, the end of a batch, authorizations that begin and end. -/

namespace Sys2Proof.Machine

section
variable {l w : Bool} {x y : Option Nat} {s t : State} {d : Nat}

/-! ## One function applied to several docks -/

/-- The record of a dock after a function has been applied to each dock of a list. -/
theorem dock_foldl_modDock {f : Dock → Dock} {L : List Nat} (hn : L.Nodup) (hL : ∀ d ∈ L, d < Config.docks) (s : State)
    (e : Nat) : (L.foldl (fun t d => modDock d f t) s).dock e = if e ∈ L then f (s.dock e) else s.dock e := by
  induction L generalizing s with
  | nil => simp
  | cons a L ih =>
    obtain ⟨haL, hn⟩ := List.nodup_cons.mp hn
    rw [List.foldl_cons, ih hn fun d hd => hL d (List.mem_cons_of_mem a hd)]
    by_cases hea : e = a
    · subst hea
      simp [haL, dock_modDock_self (hL e List.mem_cons_self)]
    · simp [hea, dock_modDock_other (Ne.symm hea)]

/-- An act that every dock of a list admits in turn. -/
theorem Good.foldl {f : State → Nat → State} (L : List Nat) (h : Good l x s) (P : State → Nat → Prop) (hs : ∀ d ∈ L, P s d)
    (hn : L.Nodup) (hk : ∀ t d, Good l x t → P t d → Keeps l x t (f t d))
    (hP : ∀ t d e, e ≠ d → t.installed = s.installed → P t e → P (f t d) e) : Keeps l x s (L.foldl f s) := by
  induction L generalizing s with
  | nil => exact h.refl
  | cons a L ih =>
    obtain ⟨haL, hn⟩ := List.nodup_cons.mp hn
    have ha := hk s a h (hs a List.mem_cons_self)
    refine ha.trans fun hg => ih hg (fun d hd => ?_) hn fun t d e he ht => hP t d e he (ht.trans ha.installed)
    exact hP s a d (fun hda => haL (hda ▸ hd)) rfl (hs d (List.mem_cons_of_mem a hd))

/-! ## The idle timer and the counts of a batch -/

theorem restartIdle_face (s : State) : (restartIdle s).face = s.face := by
  have hp : (restartIdle s).plan = s.plan := by
    unfold State.plan restartIdle modBatch
    rw [Option.map_map]
    rfl
  unfold State.face
  rw [hp]
  rfl

theorem calm_restartIdle (s : State) : Calm s (restartIdle s) := calm_aside (restartIdle_face s) rfl rfl rfl rfl id

/-- A change of the open batch that keeps its kind and manifest and leaves room for the docks reserved. -/
theorem Inv.modBatch {f : Batch → Batch} (h : Inv l w x y s) (hk : ∀ b, (f b).kind = b.kind)
    (ht : ∀ b, (f b).target = b.target)
    (hm : ∀ b, (f b).manifest.map ManifestEntry.bike = b.manifest.map ManifestEntry.bike)
    (hp : ∀ b, s.batch = some b → (reservedDocks s).length ≤ (f b).places) : Inv l w x y (modBatch f s) := by
  obtain ⟨hg, hw⟩ := h
  cases hb : s.batch with
  | none =>
    have : Machine.modBatch f s = s := by
      unfold Machine.modBatch
      rw [hb, Option.map_none, ← hb]
    rw [this]
    exact ⟨hg, hw⟩
  | some b =>
    have hb' : (Machine.modBatch f s).batch = some (f b) := by
      unfold Machine.modBatch
      rw [hb]
      rfl
    have hplan : (Machine.modBatch f s).plan = some (f b).face := plan_eq hb'
    have hplan0 := plan_eq hb
    refine ⟨⟨hg.settings, ⟨hg.rest.bus, hg.rest.few, hg.rest.high, hg.rest.cursor, hg.rest.toDo, hg.rest.outstanding,
      hg.rest.counted⟩, hg.fits, hg.ids, hg.auths, hg.link, hg.claims, fun d hd => ?_, ?_, ?_⟩, fun hw1 => ?_⟩
    · obtain ⟨c, hc, hkind⟩ := hg.vans d hd
      rw [hplan0] at hc
      cases hc
      exact ⟨_, hplan, (hk b).trans hkind⟩
    · rw [places_eq hb']
      exact hp b hb
    · rw [hplan]
      rintro c hc hkind
      cases hc
      obtain ⟨ht0, hm0⟩ := hg.manifest b.face hplan0 ((hk b).symm.trans hkind)
      exact ⟨(ht b).trans ht0, by rw [show (f b).face.manifest = (f b).manifest from rfl, hm b]; exact hm0⟩
    · obtain ⟨hready, hhiring, haccounts⟩ := hw hw1
      refine ⟨hready, ?_, haccounts⟩
      rw [hplan0] at hhiring
      rw [hplan]
      exact hhiring

theorem Batch.countDone_places (b : Batch) (ht : b.kind = .deliver → b.target = 0) : b.countDone.places = b.places := by
  unfold Batch.places Batch.pendingCount Batch.countDone
  dsimp only
  split
  · rename_i hk
    rw [ht hk]
    simp
  · rfl

theorem Good.target (h : Good l x s) {b : Batch} (hb : s.batch = some b) (hk : b.kind = .deliver) : b.target = 0 :=
  (h.manifest b.face (plan_eq hb) hk).1

theorem Inv.countDone (h : Inv l w x y s) : Inv l w x y (Machine.modBatch Batch.countDone s) :=
  h.modBatch (fun _ => rfl) (fun _ => rfl) (fun _ => rfl) fun b hb => by
    rw [b.countDone_places (h.good.target hb), ← places_eq hb]
    exact h.good.reservations

theorem markDone_bikes (T : Nat) (b : Batch) :
    (b.markDone T).manifest.map ManifestEntry.bike = b.manifest.map ManifestEntry.bike := by
  unfold Batch.markDone
  rw [List.map_map]
  refine List.map_congr_left fun m _ => ?_
  dsimp only [Function.comp]
  split <;> rfl

/-- Marking one bike of a manifest DONE takes away at most one pending entry. -/
theorem countP_mark (T : Nat) {l : List ManifestEntry} (hn : (l.map ManifestEntry.bike).Nodup) :
    l.countP (fun m => !m.done) ≤
      (l.map fun m => if m.bike == T then { m with done := true } else m).countP (fun m => !m.done) + 1 := by
  induction l with
  | nil => simp
  | cons m l ih =>
    obtain ⟨hm, hn⟩ := List.nodup_cons.mp hn
    rw [List.map_cons]
    by_cases hT : m.bike = T
    · have hrest : (l.map fun m => if m.bike == T then { m with done := true } else m) = l := by
        refine (List.map_congr_left fun a ha => ?_).trans (List.map_id l)
        have : a.bike ≠ T := fun h => hm (List.mem_map.mpr ⟨a, ha, h.trans hT.symm⟩)
        simp [this]
      rw [hrest, List.countP_cons, List.countP_cons]
      split <;> omega
    · have := ih hn
      simp only [beq_iff_eq, hT, if_false, List.countP_cons]
      simp only [beq_iff_eq] at this
      omega

theorem Batch.markDone_places (T : Nat) (b : Batch) (ht : b.kind = .deliver → b.target = 0)
    (hn : b.kind = .deliver → (b.manifest.map ManifestEntry.bike).Nodup) : b.places ≤ (b.markDone T).places + 1 := by
  by_cases hk : b.kind = .deliver
  · have := countP_mark T (hn hk)
    unfold Batch.places Batch.pendingCount Batch.markDone
    simpa [hk, ht hk] using this
  · simp [Batch.places, hk]

theorem Batch.markDone_collect (T : Nat) (b : Batch) (hk : b.kind = .collect) : (b.markDone T).places = b.places := by
  simp [Batch.places, Batch.markDone, hk]

/-- A collected bike is marked on the manifest of a COLLECT batch, or counted (R113). -/
theorem Inv.markCollected (h : Inv l w x y s) (bike : Option Bike) :
    Inv l w x y (Machine.modBatch (fun b => if collectWants bike s then b.markDone ((bike.bind Bike.id).getD 0)
      else b.countDone) s) := by
  by_cases hw : collectWants bike s = true
  · simp only [hw, if_true]
    refine h.modBatch (fun _ => rfl) (fun _ => rfl) (markDone_bikes _) fun b hb => ?_
    have hk : b.kind = .collect := by
      unfold collectWants at hw
      rw [hb] at hw
      split at hw
      · rename_i hb' hi
        cases hb'
        exact beq_iff_eq.mp (Bool.and_eq_true_iff.mp hw).1
      · cases hw
    rw [b.markDone_collect _ hk, ← places_eq hb]
    exact h.good.reservations
  · simp only [hw, Bool.false_eq_true, if_false]
    exact h.countDone

/-! ## A delivery -/

/-- The docks reserved before a delivery leave at most one too many for the entries pending after it. -/
theorem Good.surplus (h : Good l x s) (T : Nat) {b : Batch} (hb : s.batch = some b) :
    (reservedDocks s).length ≤ (b.markDone T).places + 1 := by
  have := b.markDone_places T (h.target hb) fun hk => (h.manifest b.face (plan_eq hb) hk).2
  rw [← places_eq hb] at this
  exact h.reservations.trans this

theorem mem_reservedDocks : d ∈ reservedDocks s ↔ d < s.installed ∧ (s.dock d).Taken := by
  simp [reservedDocks, State.installedDocks, Dock.Taken]

/-- A delivery up to the reservation given back: steps 2 to 5 of R110. -/
def delivered (d T : Nat) (s : State) : State :=
  let s1 := modBatch (Batch.markDone T) s
  let s2 := enterRecord (.bikeDelivered T d (crewOf s1)) s1
  restartIdle (raise (.batchProgress (doneCount s2)) s2)

theorem deliver_eq (d T : Nat) (s : State) : Machine.deliver d T s = giveBackSurplus (delivered d T s) := rfl

theorem delivered_calm (d T : Nat) (s : State) : Calm (Machine.modBatch (Batch.markDone T) s) (delivered d T s) :=
  (calm_enterRecord _ _).trans ((calm_raise _ _).trans (calm_restartIdle _))

theorem delivered_face (d T : Nat) (s : State) : (delivered d T s).face = (Machine.modBatch (Batch.markDone T) s).face :=
  (restartIdle_face _).trans ((raise_tells _ _).work.face.trans (enterRecord_tells _ _).work.face)

theorem delivered_docks (d T : Nat) (s : State) : (delivered d T s).docks = s.docks := by
  simp [delivered, restartIdle, Machine.modBatch]

theorem delivered_rest (d T : Nat) (s : State) : (delivered d T s).bus = s.bus ∧ (delivered d T s).audit = s.audit ∧
    (delivered d T s).patrol = s.patrol ∧ (delivered d T s).station = s.station := by
  simp [delivered, restartIdle, Machine.modBatch]

theorem delivered_dock (d T : Nat) (s : State) (e : Nat) : (delivered d T s).dock e = s.dock e := by
  unfold State.dock
  rw [delivered_docks]

/-- The pending count of the batch after a delivery. -/
theorem delivered_pending (d T : Nat) {b : Batch} (hb : s.batch = some b) :
    ∃ c, (delivered d T s).batch = some c ∧ c.pendingCount = (b.markDone T).pendingCount := by
  have hplan : (delivered d T s).plan = some (b.markDone T).face :=
    (congrArg Face.plan (delivered_face d T s)).trans (plan_eq (by rw [Machine.modBatch, hb]; rfl))
  obtain ⟨c, hc, hface⟩ := Option.map_eq_some_iff.mp hplan
  exact ⟨c, hc, (congrArg Batch.pendingCount hface : c.face.pendingCount = (b.markDone T).face.pendingCount)⟩

/-- A dock gives its reservation back after a delivery as it would before. -/
theorem giveBack_delivered (d T e : Nat) (s : State) :
    Calm (Machine.modBatch (Batch.markDone T) (giveBack e s)) (giveBack e (delivered d T s)) := by
  obtain ⟨hbus, haudit, hpatrol, hstation⟩ := delivered_rest d T s
  refine calm_aside ((delivered_face d T s).trans rfl) ?_ hbus haudit hpatrol fun hs => hstation.trans hs
  show (delivered d T s).docks.setIfInBounds e _ = s.docks.setIfInBounds e _
  rw [delivered_docks, delivered_dock]

/-- The entry of a delivered bike is DONE, which leaves room for the docks reserved. -/
theorem Inv.markDone (T : Nat) (h : Inv l w x y s)
    (hp : ∀ b, s.batch = some b → (reservedDocks s).length ≤ (b.markDone T).places) :
    Inv l w x y (Machine.modBatch (Batch.markDone T) s) := h.modBatch (fun _ => rfl) (fun _ => rfl) (markDone_bikes T) hp

/-- The entry of a delivered bike is DONE, and a reservation too many is given back (R110). -/
theorem Inv.deliver (h : Inv l w x y s) (d T : Nat) (hs : s.batch.isSome = true) : Inv l w x y (deliver d T s) := by
  obtain ⟨b, hb⟩ := Option.isSome_iff_exists.mp hs
  obtain ⟨c, hc, hpending⟩ := delivered_pending d T hb
  have hreserved : reservedDocks (delivered d T s) = reservedDocks s :=
    reservedDocks_congr (congrArg Face.installed (delivered_face d T s)) fun e => by rw [delivered_dock]; exact ⟨rfl, rfl⟩
  rw [deliver_eq]
  unfold giveBackSurplus
  rw [hc]
  dsimp only
  rw [hpending, hreserved]
  split
  · rename_i hlt
    split
    · rename_i e he
      obtain ⟨hi, htaken⟩ := mem_reservedDocks.mp (List.mem_of_getLast? he)
      have hfewer : (reservedDocks (giveBack e s)).length < (reservedDocks s).length := by
        refine reservedDocks_lt (s := s) (t := giveBack e s) rfl hi htaken ?_ fun f hf => ?_
        · simp [giveBack, dock_modDock_self (h.good.lt_docks hi), Dock.Taken]
        · by_cases hfe : f = e
          · exact hfe ▸ htaken
          · rwa [giveBack, dock_modDock_other (Ne.symm hfe)] at hf
      refine ((h.keeps (h.good.giveBack htaken)).markDone T fun b' hb' => ?_).calm (giveBack_delivered d T e s)
      obtain rfl : b = b' := Option.some.inj (hb.symm.trans hb')
      have := h.good.surplus T hb
      omega
    · rename_i hnone
      rw [List.getLast?_eq_none_iff.mp hnone] at hlt
      exact absurd hlt (Nat.not_lt_zero _)
  · rename_i hle
    refine (h.markDone T fun b' hb' => ?_).calm (delivered_calm d T s)
    obtain rfl : b = b' := Option.some.inj (hb.symm.trans hb')
    have hr := h.good.reservations
    rw [places_eq hb] at hr
    unfold Batch.places at hr ⊢
    rw [show (b.markDone T).kind = b.kind from rfl]
    split
    · omega
    · rename_i hk
      rwa [if_neg hk] at hr

/-! ## The end of a batch -/

/-- A van hold taken away (R116). -/
theorem Good.dropHold (h : Good l x s) (hd : d < s.installed) :
    Keeps l x s (modDock d (fun k => { k with vanHold := false }) s) := by
  have hplain : ({ s.dock d with vanHold := false } : Dock).Fits x d := by
    have := h.fits d
    unfold Dock.Fits at this ⊢
    split
    · rename_i hx
      rw [if_pos hx] at this
      exact ⟨this.owner, this.reserved, this.state⟩
    · rename_i hx
      rw [if_neg hx] at this
      unfold Dock.agrees Dock.plain at *
      cases hs : (s.dock d).state <;> simp_all
      cases ho : (s.dock d).owner with
      | none => simp_all
      | some o => cases o <;> simp_all
  have hq : (s.dock d).state ≠ .claimed ∨ x = some d ∨ (s.dock d).vanHold = false := by
    by_cases hx : x = some d
    · exact .inr (.inl hx)
    · have := h.agrees hx
      by_cases hs : (s.dock d).state = .claimed
      · simp only [Dock.agrees, hs, Dock.plain, Bool.and_eq_true, Bool.not_eq_true'] at this
        exact .inr (.inr this.2.2)
      · exact .inl hs
  have hwrite (hq : (s.dock d).state ≠ .claimed ∨ x = some d) : Keeps l x s (modDock d (fun k => { k with vanHold := false }) s) :=
    (h.write (k := { s.dock d with vanHold := false }) hd hq (fun _ _ => .rfl) hplain
      (fun hk => hq.resolve_left (not_not_intro hk)) (h.reservations_setDock hd id) nofun
      fun e i he hi hk => he (h.ids e d i hi hk)).keeps rfl rfl
  rcases hq with hq | hq | hq
  · exact hwrite (.inl hq)
  · exact hwrite (.inr hq)
  · exact h.calm (calm_modDock hd ⟨rfl, rfl, rfl, hq.symm, rfl, .inl rfl⟩)

/-- The docks with every reservation given back and every van hold taken away: steps 1 and 2 of R116. -/
def released (s : State) : State :=
  let s1 := (reservedDocks s).foldl (fun t d => giveBack d t) s
  s1.installedDocks.foldl (fun t d => modDock d (fun k => { k with vanHold := false }) t) s1

theorem reservedDocks_nodup (s : State) : (reservedDocks s).Nodup := List.nodup_range.filter _

theorem Good.giveBackAll (h : Good l x s) : Keeps l x s ((reservedDocks s).foldl (fun t d => Machine.giveBack d t) s) := by
  refine h.foldl _ (fun t d => (t.dock d).Taken) (fun d hd => (mem_reservedDocks.mp hd).2) (reservedDocks_nodup s)
    (fun t d hg ht => hg.giveBack ht) fun t d e he _ ht => ?_
  rwa [Machine.giveBack, dock_modDock_other (Ne.symm he)]

theorem Good.released (h : Good l x s) : Keeps l x s (Machine.released s) := by
  refine h.giveBackAll.trans fun hg => ?_
  have hn := h.giveBackAll.installed
  exact hg.foldl _ (fun t d => d < t.installed) (fun d hd => List.mem_range.mp hd) List.nodup_range
    (fun t d hg ht => hg.dropHold ht) fun t d e _ _ ht => ht

/-- No dock stands reserved or held for the van once all has been released. -/
theorem Good.released_dock (h : Good l x s) (d : Nat) :
    ¬ ((Machine.released s).dock d).Taken ∧ ((Machine.released s).dock d).vanHold = false := by
  have h64 : ∀ e ∈ reservedDocks s, e < Config.docks := fun e he => h.lt_docks (mem_reservedDocks.mp he).1
  have hn : ((reservedDocks s).foldl (fun t d => Machine.giveBack d t) s).installed = s.installed := h.giveBackAll.installed
  by_cases hd : d < s.installed
  · have hgiven := dock_foldl_modDock (f := fun k => { k with state := .vacant, reserved := false }) (reservedDocks_nodup s)
      h64 s d
    have hdock : (Machine.released s).dock d =
        { ((reservedDocks s).foldl (fun t d => Machine.giveBack d t) s).dock d with vanHold := false } :=
      (dock_foldl_modDock List.nodup_range (fun e he => h.lt_docks (hn ▸ List.mem_range.mp he)) _ d).trans
        (if_pos (List.mem_range.mpr (hn ▸ hd)))
    rw [hdock]
    refine ⟨fun ht => ?_, rfl⟩
    have ht' : (((reservedDocks s).foldl (fun t d => Machine.giveBack d t) s).dock d).Taken := ht
    unfold Machine.giveBack at ht'
    rw [hgiven] at ht'
    split at ht'
    · exact absurd ht'.1 nofun
    · rename_i hm
      exact hm (mem_reservedDocks.mpr ⟨hd, ht'⟩)
  · rw [h.released.good.rest.high d (by rw [h.released.installed]; omega)]
    exact ⟨nofun, rfl⟩

/-- The batch is over, with nothing reserved, held or released for it. -/
theorem Inv.noBatch (h : Inv l w x y s) (hd : ∀ d, ¬ (s.dock d).Taken ∧ (s.dock d).vanHold = false)
    (ho : ∀ d, s.owners d ≠ some .batch) (due : Due) : Inv l w x y { s with batch := none, due := due } := by
  obtain ⟨hg, hw⟩ := h
  refine ⟨⟨hg.settings, ⟨hg.rest.bus, hg.rest.few, hg.rest.high, hg.rest.cursor, hg.rest.toDo, hg.rest.outstanding,
    hg.rest.counted⟩, hg.fits, hg.ids, hg.auths, hg.link, hg.claims, fun d hv => ?_, ?_, nofun⟩, fun hw1 => ?_⟩
  · exact absurd hv (by rw [show ({ s with batch := none, due := due } : State).dock d = s.dock d from rfl, (hd d).2]; nofun)
  · refine Nat.le_of_eq (List.length_eq_zero_iff.mpr (List.filter_eq_nil_iff.mpr fun d _ ht => ?_))
    have : ((s.dock d).state == .reserved && (s.dock d).reserved) = true := ht
    exact (hd d).1 (by simpa [Dock.Taken] using this)
  · obtain ⟨hready, hh, ha⟩ := hw hw1
    exact ⟨hready, ⟨hh.few, hh.numbers, hh.bikes, hh.started, hh.away, hh.starting, hh.owned,
      fun d hb => absurd hb (ho d)⟩, ha⟩

/-- With no batch release in flight no dock has the batch as its release owner (R102, R4). -/
theorem Good.owner_ne_batch (h : Good l x s) (hb : batchReleases s = []) (d : Nat) : s.owners d ≠ some .batch := by
  intro ho
  have hs : (s.dock d).state = .releasing := by
    by_contra hs
    have := h.owner_none hs
    rw [State.owners, this] at ho
    cases ho
  have hd : d < s.installed := h.rest.lt_of_state (by simp [hs])
  have := List.filter_eq_nil_iff.mp hb d (List.mem_range.mpr hd)
  rw [State.owners] at ho
  simp [hs, ho] at this

/-- The open batch ends with no release of it in flight (R116). -/
theorem Inv.endBatch (h : Inv l w x y s) (hb : batchReleases s = []) (o : BatchOutcome) : Inv l w x y (endBatch o s) := by
  unfold Machine.endBatch
  split
  · exact h
  · rename_i b _
    have hdocks := h.good.released_dock
    have hr := h.keeps h.good.released
    have hown : (Machine.released s).owners = s.owners := h.good.released.owners
    refine Inv.noBatch (s := raise _ (enterRecord _ (Machine.released s))) ?_ (fun d => ?_) (fun d => ?_) _
    · exact (hr.calm (calm_enterRecord _ _)).calm (calm_raise _ _)
    · rw [raise_dock, enterRecord_dock]
      exact hdocks d
    · rw [State.owners, raise_dock, enterRecord_dock]
      exact fun ho => h.good.owner_ne_batch hb d (by rw [← hown]; exact ho)

theorem Inv.batchReleaseEnded (h : Inv l w x y s) : Inv l w x y (batchReleaseEnded s) := by
  unfold Machine.batchReleaseEnded
  split
  · exact .ite _ (fun hc => h.endBatch hc.2 .timedOut) fun _ => h
  · exact h

theorem calm_dropFaultOf (i : Option Nat) (s : State) : Calm s (dropFaultOf i s) := by
  unfold dropFaultOf
  split
  · exact calm_aside rfl rfl rfl rfl rfl id
  · exact .refl s

/-- A collection counts its bike (R113). -/
theorem Inv.collect (h : Inv l w x y s) (bike : Option Bike) (d : Nat) : Inv l w x y (collect bike d s) := by
  have hc : Inv l w x y (collected bike d s) :=
    (((h.markCollected bike).calm (calm_dropFaultOf _ _)).calm (calm_enterRecord _ _)).calm (calm_raise _ _)
  rw [collect_eq]
  split
  · exact .ite _ (fun _ => hc) fun _ => hc.calm (calm_restartIdle _)
  · exact hc

/-! ## Authorizations -/

theorem claims_dropAuth (tag : Nat) (s : State) : (dropAuth tag s).claims = s.claims.filter fun e => e.tag != tag := by
  unfold State.claims dropAuth
  rw [List.filter_map]
  rfl

theorem AuthTable.filter {L : List AuthEntry} (h : AuthTable L) (p : AuthEntry → Bool) : AuthTable (L.filter p) where
  few := (List.length_filter_le p L).trans h.few
  tags := h.tags.sublist (List.filter_sublist.map _)
  range e he := h.range e (List.mem_of_mem_filter he)
  cards := h.cards.sublist (List.filter_sublist.map _)
  docks := h.docks.sublist (List.filter_sublist.map _)

/-- The docks that other entries name once the entry of a tag has gone. -/
theorem AuthTable.dock_filter {L : List AuthEntry} (h : AuthTable L) {e : AuthEntry} (he : e ∈ L) (d : Nat) :
    (∃ a ∈ L.filter (fun a => a.tag != e.tag), a.dock = d) ↔ (∃ a ∈ L, a.dock = d) ∧ e.dock ≠ d := by
  constructor
  · rintro ⟨a, ha, hd⟩
    obtain ⟨haL, hat⟩ := List.mem_filter.mp ha
    refine ⟨⟨a, haL, hd⟩, fun hed => ?_⟩
    have : a = e := List.inj_on_of_nodup_map h.docks haL he (hd.trans hed.symm)
    subst this
    simp at hat
  · rintro ⟨⟨a, haL, hd⟩, hed⟩
    refine ⟨a, List.mem_filter.mpr ⟨haL, ?_⟩, hd⟩
    rw [bne_iff_ne]
    exact fun hat => hed ((List.inj_on_of_nodup_map h.tags haL he hat) ▸ hd)

theorem mem_claims {e : AuthEntry} (h : e ∈ s.authQueue) : e.face ∈ s.claims := List.mem_map_of_mem h

/-- An entry of the Auth Queue names a CLAIMED dock with a bike (R4, R76). -/
theorem Good.claimed (h : Good l none s) {e : AuthEntry} (he : e ∈ s.authQueue) :
    (s.dock e.dock).state = .claimed ∧ (s.dock e.dock).bike.isSome = true ∧ e.dock < s.installed := by
  obtain ⟨hs, -⟩ := (h.claims e.dock).mp ⟨e.face, mem_claims he, rfl⟩
  have ha := h.agrees (d := e.dock) nofun
  simp only [Dock.agrees, hs, Bool.and_eq_true] at ha
  exact ⟨hs, ha.1, h.rest.lt_of_state (by simp [hs])⟩

/-- The entry of an authorization has gone, and its dock is apart. -/
theorem Inv.dropAuth (h : Inv l w none y s) {e : AuthEntry} (he : e ∈ s.authQueue) :
    Inv l w (some e.dock) y (dropAuth e.tag s) := by
  obtain ⟨hg, hw⟩ := h
  obtain ⟨hs, hb, hd⟩ := hg.claimed he
  refine ⟨⟨hg.settings, ⟨hg.rest.bus, hg.rest.few, hg.rest.high, hg.rest.cursor, hg.rest.toDo, hg.rest.outstanding,
    hg.rest.counted⟩, fun d => ?_, hg.ids, ?_, fun hl => ?_, fun d => ?_, hg.vans, hg.reservations, hg.manifest⟩,
    fun hw1 => ⟨(hw hw1).ready, (hw hw1).hiring, (hw hw1).accounts⟩⟩
  · have ha := hg.agrees (d := d) nofun
    unfold Dock.Fits
    split
    · rename_i hed
      cases hed
      simp only [Dock.agrees, hs, Bool.and_eq_true, Dock.plain, Option.isNone_iff_eq_none, Bool.not_eq_true'] at ha
      exact ⟨ha.2.1.1, ha.2.1.2, .inr ⟨.inl hs, hb⟩⟩
    · exact ha
  · rw [claims_dropAuth]
    exact hg.auths.filter _
  · rw [claims_dropAuth]
    refine (hg.link hl).imp_right fun hn => ?_
    rw [hn]
    rfl
  · rw [claims_dropAuth]
    refine (hg.auths.dock_filter (mem_claims he) d).trans ?_
    rw [hg.claims d]
    simp [AuthEntry.face]

/-- An entry is removed and its dock leaves CLAIMED (R77, R79). -/
theorem Inv.endClaim (h : Inv l w none y s) {e : AuthEntry} (he : e ∈ s.authQueue) :
    Inv l w none y (becomeHeld e.dock (Machine.dropAuth e.tag s)) := by
  obtain ⟨hs, hb, hd⟩ := h.good.claimed he
  have hdrop := h.dropAuth he
  have hheld := hdrop.good.becomeHeld .apart hd (.inr rfl) hb
  rw [owners_same (s := Machine.dropAuth e.tag s) (h.good.owner_none (by simp [hs]))] at hheld
  exact hdrop.keeps hheld

/-- An authorization ends and its dock leaves CLAIMED (R77). -/
theorem Inv.endAuth (h : Inv l w none y s) {e : AuthEntry} (he : e ∈ s.authQueue) (r : Result) :
    Inv l w none y (endAuth e r s) := (h.endClaim he).calm (calm_raise _ _)

theorem endAuth_authQueue (e : AuthEntry) (r : Result) (s : State) :
    (Machine.endAuth e r s).authQueue = s.authQueue.filter fun a => a.tag != e.tag := by
  unfold Machine.endAuth
  rw [raise_authQueue]
  have := becomeHeld_work e.dock (Machine.dropAuth e.tag s)
  unfold DockWork at this
  rw [this]
  rfl

/-- Authorizations that end one after another. -/
theorem Inv.endAuths (r : Result) (L : List AuthEntry) (h : Inv l w none y s) (hL : ∀ e ∈ L, e ∈ s.authQueue)
    (hn : (L.map AuthEntry.tag).Nodup) : Inv l w none y (L.foldl (fun t e => Machine.endAuth e r t) s) := by
  induction L generalizing s with
  | nil => exact h
  | cons e L ih =>
    obtain ⟨heL, hn⟩ := List.nodup_cons.mp hn
    refine ih (h.endAuth (hL e List.mem_cons_self) r) (fun a ha => ?_) hn
    rw [endAuth_authQueue]
    refine List.mem_filter.mpr ⟨hL a (List.mem_cons_of_mem e ha), ?_⟩
    rw [bne_iff_ne]
    exact fun hae => heL (List.mem_map.mpr ⟨a, ha, hae⟩)

/-- A CLAIMED dock has its entry (R76). -/
theorem Good.authAt (h : Good l none s) (hs : (s.dock d).state = .claimed) :
    ∃ e, authAt d s = some e ∧ e ∈ s.authQueue ∧ e.dock = d := by
  obtain ⟨f, hf, hd⟩ := (h.claims d).mpr ⟨hs, nofun⟩
  obtain ⟨e, he, rfl⟩ := List.mem_map.mp hf
  have hsome : (Machine.authAt d s).isSome = true := List.find?_isSome.mpr ⟨e, he, beq_iff_eq.mpr hd⟩
  obtain ⟨a, ha⟩ := Option.isSome_iff_exists.mp hsome
  exact ⟨a, ha, List.mem_of_find?_eq_some ha, by simpa using List.find?_some ha⟩

theorem Inv.refuseClaim (h : Inv l w none y s) (hs : (s.dock d).state = .claimed) :
    Inv l w none y (refuseClaim d s) := by
  obtain ⟨e, he, hm, -⟩ := h.good.authAt hs
  unfold Machine.refuseClaim
  rw [he]
  exact h.endAuth hm _

theorem Inv.refuseClaimRemoved (h : Inv l w none y s) (hs : (s.dock d).state = .claimed) :
    Inv l w (some d) y (refuseClaimRemoved d s) := by
  obtain ⟨e, he, hm, rfl⟩ := h.good.authAt hs
  unfold Machine.refuseClaimRemoved
  rw [he]
  exact (h.dropAuth hm).calm (calm_raise _ _)

/-- A dock apart that is CLAIMED comes back with an authorization of its own (R71). -/
theorem Inv.addAuth (h : Inv l w (some d) y s) (hs : (s.dock d).state = .claimed) (hv : (s.dock d).vanHold = false)
    {e : AuthEntry} (hd : e.dock = d) (hlink : s.link = .online) (hlen : s.authQueue.length < Config.authPlaces)
    (hrange : 1 ≤ e.tag ∧ e.tag ≤ 255) (htag : e.tag ∉ s.authQueue.map AuthEntry.tag)
    (hcard : e.card ∉ s.authQueue.map AuthEntry.card) (n : Nat) :
    Inv l w none y { s with authQueue := s.authQueue ++ [e], lastTag := n } := by
  obtain ⟨hg, hw⟩ := h
  have hclaims : ({ s with authQueue := s.authQueue ++ [e], lastTag := n } : State).claims = s.claims ++ [e.face] := by
    simp [State.claims]
  have htags : s.claims.map AuthEntry.tag = s.authQueue.map AuthEntry.tag := by simp [State.claims, Function.comp_def, AuthEntry.face]
  have hcards : s.claims.map AuthEntry.card = s.authQueue.map AuthEntry.card := by simp [State.claims, Function.comp_def, AuthEntry.face]
  have hother (c : Nat) : (∃ a ∈ s.claims, a.dock = c) → c ≠ d := fun hc hcd =>
    ((hg.claims c).mp hc).2 (by rw [hcd])
  refine ⟨⟨hg.settings, ⟨hg.rest.bus, hg.rest.few, hg.rest.high, hg.rest.cursor, hg.rest.toDo, hg.rest.outstanding,
    hg.rest.counted⟩, fun c => ?_, hg.ids, ?_, fun _ => .inl hlink, fun c => ?_, hg.vans, hg.reservations, hg.manifest⟩,
    fun hw1 => ⟨(hw hw1).ready, (hw hw1).hiring, (hw hw1).accounts⟩⟩
  · by_cases hcd : d = c
    · subst hcd
      have ha := hg.apart
      have hb : (s.dock d).bike.isSome = true := by
        rcases ha.state with ⟨h1, -⟩ | ⟨-, h1⟩
        · simp [hs] at h1
        · exact h1
      show Dock.agrees (s.dock d) = true
      simp [Dock.agrees, hs, hb, Dock.plain, ha.owner, ha.reserved, hv]
    · exact hg.agrees fun hx => hcd (Option.some.inj hx)
  · rw [hclaims]
    have hone (f : AuthEntry → Nat) (hn : (s.claims.map f).Nodup) (hnew : f e.face ∉ s.claims.map f) :
        ((s.claims ++ [e.face]).map f).Nodup := by
      rw [List.map_append]
      refine List.nodup_append.mpr ⟨hn, List.nodup_singleton _, fun a ha b hb hab => hnew ?_⟩
      rw [← List.mem_singleton.mp hb, ← hab]
      exact ha
    refine ⟨?_, hone _ hg.auths.tags (htags ▸ htag), fun a ha => ?_, hone _ hg.auths.cards (hcards ▸ hcard),
      hone _ hg.auths.docks fun hm => ?_⟩
    · simp only [State.claims, List.length_append, List.length_map, List.length_singleton]
      omega
    · rcases List.mem_append.mp ha with ha | ha
      · exact hg.auths.range a ha
      · rw [List.mem_singleton.mp ha]
        exact hrange
    · obtain ⟨a, ha, had⟩ := List.mem_map.mp hm
      exact hother d ⟨a, ha, had.trans hd⟩ rfl
  · rw [hclaims]
    constructor
    · rintro ⟨a, ha, hac⟩
      rcases List.mem_append.mp ha with ha | ha
      · exact ⟨((hg.claims c).mp ⟨a, ha, hac⟩).1, nofun⟩
      · rw [List.mem_singleton.mp ha] at hac
        have hcd : c = d := hac.symm.trans hd
        exact ⟨hcd ▸ hs, nofun⟩
    · rintro ⟨hc, -⟩
      by_cases hcd : c = d
      · exact ⟨e.face, List.mem_append_right _ List.mem_cons_self, hd.trans hcd.symm⟩
      · obtain ⟨a, ha, hac⟩ := (hg.claims c).mpr ⟨hc, fun hx => hcd (Option.some.inj hx).symm⟩
        exact ⟨a, List.mem_append_left _ ha, hac⟩

end

end Sys2Proof.Machine
end

section
/-! PROOFS. Hires and cards: what becomes of their laws when a hire is entered, goes out, is cancelled, closed or OVERDUE,
and when a card is written, evicted or removed. -/

namespace Sys2Proof.Machine

/-! ## Lists of hires -/

/-- The hires without the record of a number, for a number that one of them has. -/
theorem hires_perm {L : List Hire} (hn : (L.map Hire.number).Nodup) {r : Hire} (hr : r ∈ L) :
    L.Perm (r :: L.filter fun x => x.number != r.number) := by
  have hL : L.Nodup := hn.of_map
  have heq : L.filter (fun x => x.number != r.number) = L.erase r := by
    rw [hL.erase_eq_filter]
    refine List.filter_congr fun x hx => ?_
    by_cases hxr : x = r
    · simp [hxr]
    · have : x.number ≠ r.number := fun h => hxr (List.inj_on_of_nodup_map hn hx hr h)
      rw [bne_iff_ne.mpr this, bne_iff_ne.mpr hxr]
  rw [heq]
  exact List.perm_cons_erase hr

section
variable {owners owners' : Nat → Option Owner} {ids ids' : Nat → Option Nat} {hires rest : List Hire} {batch : Bool}
  {y y' : Option Nat} {d : Nat} {r : Hire} {cards : List Card}

/-! ## Hires beside the docks -/

theorem Hiring.perm {L : List Hire} (h : Hiring owners ids hires batch y) (hp : hires.Perm L) :
    Hiring owners ids L batch y where
  few := hp.length_eq ▸ h.few
  numbers := (hp.map _).nodup_iff.mp h.numbers
  bikes := (hp.map _).nodup_iff.mp h.bikes
  started r hr := h.started r (hp.mem_iff.mpr hr)
  away r hr := h.away r (hp.mem_iff.mpr hr)
  starting r hr := h.starting r (hp.mem_iff.mpr hr)
  owned d n hd := by
    obtain ⟨r, hr, hrest⟩ := h.owned d n hd
    exact ⟨r, hp.mem_iff.mp hr, hrest⟩
  batch := h.batch

/-- Docks that release for no hire, before or after, may change; a bike that is new in a dock is exempt. -/
theorem Hiring.turn (h : Hiring owners ids hires batch y)
    (ho : ∀ e, owners' e = owners e ∨
      (∀ n, owners e ≠ some (.hire n)) ∧ (∀ n, owners' e ≠ some (.hire n)) ∧ (owners' e = some .batch → batch = true))
    (hk : ∀ e n, owners e = some (.hire n) → ids' e = ids e) (hi : ∀ e i, ids' e = some i → ids e = some i ∨ y' = some i)
    (hy : ∀ i, y' ≠ some i → y ≠ some i) : Hiring owners' ids' hires batch y' where
  few := h.few
  numbers := h.numbers
  bikes := h.bikes
  started := h.started
  away r hr hs hyr d hd := (hi d _ hd).elim (h.away r hr hs (hy _ hyr) d) hyr
  starting r hr hs := by
    obtain ⟨d, hfrom, hid, hown⟩ := h.starting r hr hs
    refine ⟨d, hfrom, (hk d _ ((hown d).mpr rfl)).trans hid, fun e => ?_⟩
    rw [← hown e]
    rcases ho e with he | ⟨h1, h2, -⟩
    · rw [he]
    · exact ⟨fun h => absurd h (h2 _), fun h => absurd h (h1 _)⟩
  owned d n hd := by
    rcases ho d with he | ⟨-, h2, -⟩
    · exact h.owned d n (he ▸ hd)
    · exact absurd hd (h2 n)
  batch d hd := by
    rcases ho d with he | ⟨-, -, h3⟩
    · exact h.batch d (he ▸ hd)
    · exact h3 hd

/-- A dock that releases for no hire loses its owner, and its bike or not. -/
theorem Hiring.vacate (h : Hiring owners ids hires batch y) (hd : ∀ n, owners d ≠ some (.hire n)) :
    Hiring (Function.update owners d none) (Function.update ids d none) hires batch y := by
  refine h.turn (fun e => ?_) (fun e n he => ?_) (fun e i he => ?_) fun _ => id
  · by_cases hed : e = d
    · subst hed
      exact .inr ⟨hd, by simp⟩
    · exact .inl (Function.update_of_ne hed _ _)
  · exact Function.update_of_ne (fun hed : e = d => hd n (hed ▸ he)) _ _
  · by_cases hed : e = d
    · subst hed
      simp at he
    · rw [Function.update_of_ne hed] at he
      exact .inl he

theorem Hiring.disown (h : Hiring owners ids hires batch y) (hd : ∀ n, owners d ≠ some (.hire n)) :
    Hiring (Function.update owners d none) ids hires batch y := by
  refine h.turn (fun e => ?_) (fun _ _ _ => rfl) (fun _ _ => .inl) fun _ => id
  by_cases hed : e = d
  · subst hed
    exact .inr ⟨hd, by simp⟩
  · exact .inl (Function.update_of_ne hed _ _)

/-- The record of a hire that a dock releases for. -/
theorem Hiring.ownerOf (h : Hiring owners ids hires batch y) {n : Nat} (hd : owners d = some (.hire n)) :
    ∃ r ∈ hires, r.number = n ∧ r.state = .starting ∧ ids d = some r.bike ∧ ∀ e, owners e = some (.hire n) ↔ e = d := by
  obtain ⟨r, hr, rfl, hs⟩ := h.owned d n hd
  obtain ⟨c, -, hid, hown⟩ := h.starting r hr hs
  obtain rfl : d = c := (hown d).mp hd
  exact ⟨r, hr, rfl, hs, hid, hown⟩

/-- A record of the table is the record of its number. -/
theorem Hiring.unique (h : Hiring owners ids hires batch y) {a b : Hire} (ha : a ∈ hires) (hb : b ∈ hires)
    (hab : a.number = b.number) : a = b := List.inj_on_of_nodup_map h.numbers ha hb hab

/-- A pull: the hire of the dock is OUT, and the dock has neither owner nor bike (R48). -/
theorem Hiring.pull (h : Hiring owners ids hires batch y) {n : Nat} (hd : owners d = some (.hire n)) (now : Nat)
    (hinj : ∀ e i, ids e = some i → ids d = some i → e = d) :
    Hiring (Function.update owners d none) (Function.update ids d none)
      (hires.map fun r => if r.number == n then { r with state := .out, start := some now } else r) batch y := by
  obtain ⟨o, ho, hon, hos, hoid, hown⟩ := h.ownerOf hd
  have hmem {r : Hire} (hr : r ∈ hires.map fun r => if r.number == n then { r with state := .out, start := some now } else r) :
      ∃ a ∈ hires, (a = o ∧ r = { a with state := .out, start := some now }) ∨ (a.number ≠ n ∧ r = a) := by
    obtain ⟨a, ha, rfl⟩ := List.mem_map.mp hr
    refine ⟨a, ha, ?_⟩
    by_cases han : a.number = n
    · exact .inl ⟨h.unique ha ho (han.trans hon.symm), by simp [han]⟩
    · exact .inr ⟨han, by simp [han]⟩
  have hsame (f : Hire → Nat) (hf : ∀ r : Hire, f { r with state := .out, start := some now } = f r) :
      (hires.map fun r => if r.number == n then { r with state := .out, start := some now } else r).map f = hires.map f := by
    rw [List.map_map]
    refine List.map_congr_left fun r _ => ?_
    dsimp only [Function.comp]
    split
    · exact hf r
    · rfl
  refine ⟨by rw [List.length_map]; exact h.few, by rw [hsame _ fun _ => rfl]; exact h.numbers,
    by rw [hsame _ fun _ => rfl]; exact h.bikes, fun r hr hs => ?_, fun r hr hs hy e he => ?_, fun r hr hs => ?_,
    fun e m he => ?_, fun e he => ?_⟩
  · obtain ⟨a, ha, ⟨-, rfl⟩ | ⟨-, rfl⟩⟩ := hmem hr
    · rfl
    · exact h.started _ ha hs
  · by_cases hed : e = d
    · subst hed
      simp at he
    · rw [Function.update_of_ne hed] at he
      obtain ⟨a, ha, ⟨rfl, rfl⟩ | ⟨-, rfl⟩⟩ := hmem hr
      · exact hed (hinj e _ he hoid)
      · exact h.away _ ha hs hy e he
  · obtain ⟨a, ha, ⟨-, rfl⟩ | ⟨han, rfl⟩⟩ := hmem hr
    · cases hs
    · obtain ⟨c, hfrom, hid, hc⟩ := h.starting _ ha hs
      have hcd : c ≠ d := fun hcd => han (by
        have := (hc c).mpr rfl
        rw [hcd, hd] at this
        cases this
        rfl)
      refine ⟨c, hfrom, by rwa [Function.update_of_ne hcd], fun e => ?_⟩
      by_cases hed : e = d
      · subst hed
        simp [Ne.symm hcd]
      · rw [Function.update_of_ne hed]
        exact hc e
  · have hed : e ≠ d := by
      rintro rfl
      simp at he
    rw [Function.update_of_ne hed] at he
    obtain ⟨a, ha, ham, has⟩ := h.owned e m he
    have han : a.number ≠ n := fun han => hed ((hown e).mp (by rw [he, ← ham, han]))
    exact ⟨a, List.mem_map.mpr ⟨a, ha, by simp [han]⟩, ham, has⟩
  · have hed : e ≠ d := by
      rintro rfl
      simp at he
    rw [Function.update_of_ne hed] at he
    exact h.batch e he

/-- A record leaves the table. -/
theorem Hiring.drop (h : Hiring owners ids (r :: rest) batch y) (hs : r.state ≠ .starting) :
    Hiring owners ids rest batch y where
  few := (Nat.le_succ _).trans h.few
  numbers := (List.nodup_cons.mp h.numbers).2
  bikes := (List.nodup_cons.mp h.bikes).2
  started a ha := h.started a (List.mem_cons_of_mem r ha)
  away a ha := h.away a (List.mem_cons_of_mem r ha)
  starting a ha := h.starting a (List.mem_cons_of_mem r ha)
  owned d n hd := by
    obtain ⟨a, ha, han, has⟩ := h.owned d n hd
    rcases List.mem_cons.mp ha with rfl | ha
    · exact absurd has hs
    · exact ⟨a, ha, han, has⟩
  batch := h.batch

/-- The record of a STARTING hire leaves the table with the release (R89). -/
theorem Hiring.cancel (h : Hiring owners ids (r :: rest) batch y) (hd : owners d = some (.hire r.number)) :
    Hiring (Function.update owners d none) ids rest batch y := by
  obtain ⟨o, ho, hon, hos, -, hown⟩ := h.ownerOf hd
  obtain rfl : o = r := h.unique ho List.mem_cons_self hon
  have hnew {a : Hire} (ha : a ∈ rest) : a.number ≠ o.number := fun hao =>
    (List.nodup_cons.mp h.numbers).1 (hao ▸ List.mem_map_of_mem ha)
  refine ⟨(Nat.le_succ _).trans h.few, (List.nodup_cons.mp h.numbers).2, (List.nodup_cons.mp h.bikes).2,
    fun a ha => h.started a (List.mem_cons_of_mem o ha), fun a ha => h.away a (List.mem_cons_of_mem o ha),
    fun a ha has => ?_, fun e m he => ?_, fun e he => ?_⟩
  · obtain ⟨c, hfrom, hid, hc⟩ := h.starting a (List.mem_cons_of_mem o ha) has
    have hcd : c ≠ d := fun hcd => hnew ha (by
      have := (hc c).mpr rfl
      rw [hcd, hd] at this
      exact (Owner.hire.inj (Option.some.inj this)).symm)
    refine ⟨c, hfrom, hid, fun e => ?_⟩
    by_cases hed : e = d
    · subst hed
      simp [Ne.symm hcd]
    · rw [Function.update_of_ne hed]
      exact hc e
  · have hed : e ≠ d := by
      rintro rfl
      simp at he
    rw [Function.update_of_ne hed] at he
    obtain ⟨a, ha, ham, has⟩ := h.owned e m he
    rcases List.mem_cons.mp ha with rfl | ha
    · exact absurd ((hown e).mp (ham ▸ he)) hed
    · exact ⟨a, ha, ham, has⟩
  · have hed : e ≠ d := by
      rintro rfl
      simp at he
    rw [Function.update_of_ne hed] at he
    exact h.batch e he

/-- A bike is exempt no longer once no hire of it is OUT or OVERDUE. -/
theorem Hiring.cleared (h : Hiring owners ids hires batch y) (hr : ∀ r ∈ hires, r.state ≠ .starting → y ≠ some r.bike) :
    Hiring owners ids hires batch none :=
  ⟨h.few, h.numbers, h.bikes, h.started, fun r hm hs _ => h.away r hm hs (hr r hm hs), h.starting, h.owned, h.batch⟩

/-- A hire is accepted at a dock whose bike it takes (R43, R88). -/
theorem Hiring.accept (h : Hiring owners ids hires batch none) (hfew : hires.length < Config.hirePlaces)
    (hnew : r.number ∉ hires.map Hire.number) (hs : r.state = .starting) (hfrom : r.dockFrom = some d)
    (hid : ids d = some r.bike) (hown : owners d = none) (hinj : ∀ e i, ids e = some i → ids d = some i → e = d) :
    Hiring (Function.update owners d (some (.hire r.number))) ids (r :: hires) batch none := by
  have hnumber {a : Hire} (ha : a ∈ hires) : a.number ≠ r.number := fun hn => hnew (hn ▸ List.mem_map_of_mem ha)
  have hbike : r.bike ∉ hires.map Hire.bike := by
    intro hm
    obtain ⟨a, ha, hab⟩ := List.mem_map.mp hm
    by_cases has : a.state = .starting
    · obtain ⟨c, -, hcid, hc⟩ := h.starting a ha has
      have hcd : c = d := hinj c _ (hab ▸ hcid) hid
      have := (hc c).mpr rfl
      rw [hcd, hown] at this
      cases this
    · exact h.away a ha has nofun d (hab ▸ hid)
  have hother {e : Nat} {a : Hire} (ha : a ∈ hires) :
      Function.update owners d (some (.hire r.number)) e = some (.hire a.number) ↔ owners e = some (.hire a.number) := by
    by_cases hed : e = d
    · subst hed
      simp [hown, Ne.symm (hnumber ha)]
    · rw [Function.update_of_ne hed]
  refine ⟨hfew, List.nodup_cons.mpr ⟨hnew, h.numbers⟩, List.nodup_cons.mpr ⟨hbike, h.bikes⟩, fun a ha has => ?_,
    fun a ha has hy e he => ?_, fun a ha has => ?_, fun e m he => ?_, fun e he => ?_⟩
  · rcases List.mem_cons.mp ha with rfl | ha
    · exact absurd hs has
    · exact h.started a ha has
  · rcases List.mem_cons.mp ha with rfl | ha
    · exact absurd hs has
    · exact h.away a ha has hy e he
  · rcases List.mem_cons.mp ha with rfl | ha
    · refine ⟨d, hfrom, hid, fun e => ?_⟩
      by_cases hed : e = d
      · subst hed
        simp
      · rw [Function.update_of_ne hed]
        refine ⟨fun he => ?_, fun he => absurd he hed⟩
        obtain ⟨b, hb, hbn, -⟩ := h.owned e _ he
        exact absurd hbn (hnumber hb)
    · obtain ⟨c, hcfrom, hcid, hc⟩ := h.starting a ha has
      exact ⟨c, hcfrom, hcid, fun e => (hother ha).trans (hc e)⟩
  · by_cases hed : e = d
    · subst hed
      rw [Function.update_self] at he
      cases he
      exact ⟨r, List.mem_cons_self, rfl, hs⟩
    · rw [Function.update_of_ne hed] at he
      obtain ⟨a, ha, hrest⟩ := h.owned e m he
      exact ⟨a, List.mem_cons_of_mem r ha, hrest⟩
  · have hed : e ≠ d := by
      rintro rfl
      simp at he
    rw [Function.update_of_ne hed] at he
    exact h.batch e he

/-- A hire is restored whose bike stands in no dock and belongs to no other hire (R100, R101). -/
theorem Hiring.restore (h : Hiring owners ids hires batch none) (hfew : hires.length < Config.hirePlaces)
    (hnumber : r.number ∉ hires.map Hire.number) (hbike : r.bike ∉ hires.map Hire.bike) (hs : r.state ≠ .starting)
    (hstart : r.start.isSome = true) (hid : ∀ d, ids d ≠ some r.bike) : Hiring owners ids (r :: hires) batch none := by
  refine ⟨hfew, List.nodup_cons.mpr ⟨hnumber, h.numbers⟩, List.nodup_cons.mpr ⟨hbike, h.bikes⟩, fun a ha has => ?_,
    fun a ha has hy => ?_, fun a ha has => ?_, fun e m he => ?_, h.batch⟩
  · rcases List.mem_cons.mp ha with rfl | ha
    · exact hstart
    · exact h.started a ha has
  · rcases List.mem_cons.mp ha with rfl | ha
    · exact hid
    · exact h.away a ha has hy
  · rcases List.mem_cons.mp ha with rfl | ha
    · exact absurd has hs
    · exact h.starting a ha has
  · obtain ⟨a, ha, hrest⟩ := h.owned e m he
    exact ⟨a, List.mem_cons_of_mem r ha, hrest⟩

/-- A hire that is not STARTING becomes OVERDUE (R96). -/
theorem Hiring.overdue (h : Hiring owners ids hires batch y) {n : Nat}
    (hn : ∀ r ∈ hires, r.number = n → r.state ≠ .starting) :
    Hiring owners ids (hires.map fun r => if r.number == n then { r with state := .overdue } else r) batch y := by
  have hmem {r : Hire} (hr : r ∈ hires.map fun r => if r.number == n then { r with state := .overdue } else r) :
      ∃ a ∈ hires, (a.state ≠ .starting ∧ r = { a with state := .overdue }) ∨ r = a := by
    obtain ⟨a, ha, rfl⟩ := List.mem_map.mp hr
    refine ⟨a, ha, ?_⟩
    by_cases han : a.number = n
    · exact .inl ⟨hn a ha han, by simp [han]⟩
    · exact .inr (by simp [han])
  have hsame (f : Hire → Nat) (hf : ∀ r : Hire, f { r with state := .overdue } = f r) :
      (hires.map fun r => if r.number == n then { r with state := .overdue } else r).map f = hires.map f := by
    rw [List.map_map]
    refine List.map_congr_left fun r _ => ?_
    dsimp only [Function.comp]
    split
    · exact hf r
    · rfl
  refine ⟨by rw [List.length_map]; exact h.few, by rw [hsame _ fun _ => rfl]; exact h.numbers,
    by rw [hsame _ fun _ => rfl]; exact h.bikes, fun r hr hs => ?_, fun r hr hs hy => ?_, fun r hr hs => ?_,
    fun e m he => ?_, h.batch⟩
  · obtain ⟨a, ha, ⟨has, rfl⟩ | rfl⟩ := hmem hr
    · exact h.started a ha has
    · exact h.started _ ha hs
  · obtain ⟨a, ha, ⟨has, rfl⟩ | rfl⟩ := hmem hr
    · exact h.away a ha has hy
    · exact h.away _ ha hs hy
  · obtain ⟨a, ha, ⟨-, rfl⟩ | rfl⟩ := hmem hr
    · cases hs
    · exact h.starting _ ha hs
  · obtain ⟨a, ha, ham, has⟩ := h.owned e m he
    refine ⟨a, List.mem_map.mpr ⟨a, ha, ?_⟩, ham, has⟩
    have : a.number ≠ n := fun han => hn a ha han has
    simp [this]

/-! ## Cards beside the hires -/

theorem cardHires_cons (i : Nat) (r : Hire) (rest : List Hire) :
    cardHires i (r :: rest) = if r.card = i then r :: cardHires i rest else cardHires i rest := by
  unfold cardHires
  rw [List.filter_cons]
  by_cases h : r.card = i <;> simp [h]

theorem Accounts.perm {L : List Hire} (h : Accounts hires cards) (hp : hires.Perm L) : Accounts L cards where
  few := h.few
  ids := h.ids
  balance := h.balance
  count c hc := (h.count c hc).trans (hp.filter _).length_eq
  held c hc := (h.held c hc).trans ((hp.filter _).map _).sum_eq
  carded r hr := h.carded r (hp.mem_iff.mpr hr)

/-- One card's entry changed, and the hires with it. -/
theorem Accounts.change {L : List Hire} (h : Accounts hires cards) (i : Nat) {g : Card → Card} (hid : ∀ c, (g c).id = c.id)
    (hb : ∀ c ∈ cards, c.id = i → Config.balanceLow ≤ (g c).balance ∧ (g c).balance ≤ Config.balanceHigh)
    (hc : ∀ c ∈ cards, c.id = i → (g c).openCount = (cardHires i L).length ∧
      (g c).held = ((cardHires i L).map Hire.holdAmount).sum)
    (ho : ∀ j, j ≠ i → cardHires j L = cardHires j hires) (hr : ∀ r ∈ L, ∃ c ∈ cards, c.id = r.card) :
    Accounts L (cards.map fun c => if c.id == i then g c else c) := by
  have hmem {c : Card} (hm : c ∈ cards.map fun c => if c.id == i then g c else c) :
      ∃ a ∈ cards, (a.id = i ∧ c = g a) ∨ (a.id ≠ i ∧ c = a) := by
    obtain ⟨a, ha, rfl⟩ := List.mem_map.mp hm
    by_cases hai : a.id = i
    · exact ⟨a, ha, .inl ⟨hai, by simp [hai]⟩⟩
    · exact ⟨a, ha, .inr ⟨hai, by simp [hai]⟩⟩
  refine ⟨by rw [List.length_map]; exact h.few, ?_, fun c hm => ?_, fun c hm => ?_, fun c hm => ?_, fun r hm => ?_⟩
  · have : (cards.map fun c => if c.id == i then g c else c).map Card.id = cards.map Card.id := by
      rw [List.map_map]
      refine List.map_congr_left fun c _ => ?_
      dsimp only [Function.comp]
      split
      · exact hid c
      · rfl
    rw [this]
    exact h.ids
  · obtain ⟨a, ha, ⟨hai, rfl⟩ | ⟨-, rfl⟩⟩ := hmem hm
    · exact hb a ha hai
    · exact h.balance _ ha
  · obtain ⟨a, ha, ⟨hai, rfl⟩ | ⟨hai, rfl⟩⟩ := hmem hm
    · rw [hid, hai]
      exact (hc a ha hai).1
    · rw [ho _ hai]
      exact h.count _ ha
  · obtain ⟨a, ha, ⟨hai, rfl⟩ | ⟨hai, rfl⟩⟩ := hmem hm
    · rw [hid, hai]
      exact (hc a ha hai).2
    · rw [ho _ hai]
      exact h.held _ ha
  · obtain ⟨c, hcm, hcr⟩ := hr r hm
    refine ⟨_, List.mem_map_of_mem hcm, ?_⟩
    split
    · exact (hid c).trans hcr
    · exact hcr

/-- A hire leaves, and its card's hold with it (R73, R74). -/
theorem Accounts.drop (h : Accounts (r :: rest) cards) {g : Card → Card} (hid : ∀ c, (g c).id = c.id)
    (hb : ∀ c ∈ cards, Config.balanceLow ≤ (g c).balance ∧ (g c).balance ≤ Config.balanceHigh)
    (ho : ∀ c, (g c).openCount = c.openCount - 1) (hh : ∀ c, (g c).held = c.held - r.holdAmount) :
    Accounts rest (cards.map fun c => if c.id == r.card then g c else c) := by
  refine h.change r.card hid (fun c hc _ => hb c hc) (fun c hc hi => ?_) (fun j hj => ?_) fun a ha =>
    h.carded a (List.mem_cons_of_mem r ha)
  · have hcount := h.count c hc
    have hheld := h.held c hc
    rw [hi, cardHires_cons, if_pos rfl] at hcount hheld
    rw [ho, hh, hcount, hheld]
    simp
  · rw [cardHires_cons, if_neg (Ne.symm hj)]

/-- A hire is entered, and its hold placed on its card (R72). -/
theorem Accounts.add (h : Accounts hires cards) {g : Card → Card} (hid : ∀ c, (g c).id = c.id)
    (hb : ∀ c, (g c).balance = c.balance) (ho : ∀ c, (g c).openCount = c.openCount + 1)
    (hh : ∀ c, (g c).held = c.held + r.holdAmount) (hr : ∃ c ∈ cards, c.id = r.card) :
    Accounts (r :: hires) (cards.map fun c => if c.id == r.card then g c else c) := by
  refine h.change r.card hid (fun c hc _ => by rw [hb]; exact h.balance c hc) (fun c hc hi => ?_) (fun j hj => ?_)
    fun a ha => ?_
  · rw [ho, hh, h.count c hc, h.held c hc, hi, cardHires_cons, if_pos rfl]
    simp [Nat.add_comm]
  · rw [cardHires_cons, if_neg (Ne.symm hj)]
  · rcases List.mem_cons.mp ha with rfl | ha
    · exact hr
    · exact h.carded a ha

/-- A card's entry changed in what no hire speaks of. -/
theorem Accounts.rewrite (h : Accounts hires cards) (i : Nat) {g : Card → Card} (hid : ∀ c, (g c).id = c.id)
    (hb : ∀ c ∈ cards, Config.balanceLow ≤ (g c).balance ∧ (g c).balance ≤ Config.balanceHigh)
    (ho : ∀ c, (g c).openCount = c.openCount) (hh : ∀ c, (g c).held = c.held) :
    Accounts hires (cards.map fun c => if c.id == i then g c else c) :=
  h.change i hid (fun c hc _ => hb c hc)
    (fun c hc hi => by rw [ho, hh, h.count c hc, h.held c hc, hi]; exact ⟨rfl, rfl⟩) (fun _ _ => rfl) h.carded

/-- The hires changed in what no card speaks of. -/
theorem Accounts.mapHires (h : Accounts hires cards) {f : Hire → Hire} (hc : ∀ r, (f r).card = r.card)
    (hh : ∀ r, (f r).holdAmount = r.holdAmount) : Accounts (hires.map f) cards := by
  have hmap (i : Nat) : cardHires i (hires.map f) = (cardHires i hires).map f := by
    unfold cardHires
    rw [List.filter_map]
    refine congrArg _ (List.filter_congr fun r _ => ?_)
    dsimp only [Function.comp]
    rw [hc]
  refine ⟨h.few, h.ids, h.balance, fun c hm => ?_, fun c hm => ?_, fun r hm => ?_⟩
  · rw [hmap, List.length_map]
    exact h.count c hm
  · rw [hmap, List.map_map, h.held c hm]
    exact congrArg _ (List.map_congr_left fun r _ => (hh r).symm)
  · obtain ⟨a, ha, rfl⟩ := List.mem_map.mp hm
    rw [hc]
    exact h.carded a ha

/-- An entry with no open hires is taken away (R65, R66). -/
theorem Accounts.remove (h : Accounts hires cards) {c : Card} (hc : c ∈ cards) (ho : c.openCount = 0) :
    Accounts hires (cards.filter fun x => x.id != c.id) := by
  have hnone : cardHires c.id hires = [] := List.length_eq_zero_iff.mp ((h.count c hc).symm.trans ho)
  refine ⟨(List.length_filter_le _ _).trans h.few, h.ids.sublist (List.filter_sublist.map _),
    fun a ha => h.balance a (List.mem_of_mem_filter ha), fun a ha => h.count a (List.mem_of_mem_filter ha),
    fun a ha => h.held a (List.mem_of_mem_filter ha), fun r hr => ?_⟩
  obtain ⟨a, ha, har⟩ := h.carded r hr
  refine ⟨a, List.mem_filter.mpr ⟨ha, ?_⟩, har⟩
  rw [bne_iff_ne, har]
  intro hrc
  have : r ∈ cardHires c.id hires := List.mem_filter.mpr ⟨hr, beq_iff_eq.mpr hrc⟩
  rw [hnone] at this
  cases this

/-- A new entry for a card that has none (R64). -/
theorem Accounts.insert (h : Accounts hires cards) {c : Card} (hfew : cards.length < Config.cardPlaces)
    (hnew : c.id ∉ cards.map Card.id) (hb : Config.balanceLow ≤ c.balance ∧ c.balance ≤ Config.balanceHigh)
    (ho : c.openCount = 0) (hh : c.held = 0) : Accounts hires (cards ++ [c]) := by
  have hnone : cardHires c.id hires = [] := List.filter_eq_nil_iff.mpr fun r hr hrc => by
    obtain ⟨a, ha, har⟩ := h.carded r hr
    exact hnew (List.mem_map.mpr ⟨a, ha, har.trans (beq_iff_eq.mp hrc)⟩)
  have hmem {a : Card} (ha : a ∈ cards ++ [c]) : a ∈ cards ∨ a = c := by simpa using ha
  refine ⟨by simp only [List.length_append, List.length_singleton]; omega, ?_, fun a ha => ?_, fun a ha => ?_,
    fun a ha => ?_, fun r hr => ?_⟩
  · rw [List.map_append]
    refine List.nodup_append.mpr ⟨h.ids, List.nodup_singleton _, fun a ha b hb hab => hnew ?_⟩
    rw [← List.mem_singleton.mp hb, ← hab]
    exact ha
  · rcases hmem ha with ha | rfl
    · exact h.balance a ha
    · exact hb
  · rcases hmem ha with ha | rfl
    · exact h.count a ha
    · rw [hnone, ho]
      rfl
  · rcases hmem ha with ha | rfl
    · exact h.held a ha
    · rw [hnone, hh]
      rfl
  · obtain ⟨a, ha, har⟩ := h.carded r hr
    exact ⟨a, List.mem_append_left _ ha, har⟩

/-- In a full table some card that a request has not written has no open hire (R65). -/
theorem Accounts.evictable (h : Accounts hires cards) (hfew : hires.length ≤ Config.hirePlaces)
    (hfull : Config.cardPlaces ≤ cards.length) {written : List Nat} (hw : written.length ≤ 8) :
    ∃ c ∈ cards, c.openCount = 0 ∧ c.id ∉ written := by
  by_contra hno
  push Not at hno
  have hsub : cards.map Card.id ⊆ hires.map Hire.card ++ written := by
    intro i hi
    obtain ⟨c, hc, rfl⟩ := List.mem_map.mp hi
    by_cases ho : c.openCount = 0
    · exact List.mem_append_right _ (hno c hc ho)
    · have hcount := h.count c hc
      obtain ⟨r, hr⟩ := List.exists_mem_of_ne_nil (cardHires c.id hires) fun hn => ho (by rw [hcount, hn]; rfl)
      obtain ⟨hr, hrc⟩ := List.mem_filter.mp hr
      exact List.mem_append_left _ (List.mem_map.mpr ⟨r, hr, beq_iff_eq.mp hrc⟩)
  have hlen := (h.ids.subperm hsub).length_le
  simp only [List.length_map, List.length_append] at hlen
  simp only [Config.hirePlaces, Config.cardPlaces] at hfew hfull
  omega

end

end Sys2Proof.Machine
end

section
/-! PROOFS. The acts on hires and cards in the state: closing, cancelling, the overdue check, cards written and removed,
numbers allocated; a release that begins, pulls or lapses. -/

namespace Sys2Proof.Machine

/-! ## Numbers allocated -/

/-- The number that the allocation tries `k` numbers after `n`. -/
def triedAfter (top n : Nat) : Nat → Nat
  | 0 => nextNumber top n
  | k + 1 => triedAfter top (nextNumber top n) k

theorem nextNumber_range {top : Nat} (h : 0 < top) (n : Nat) : 1 ≤ nextNumber top n ∧ nextNumber top n ≤ top := by
  unfold nextNumber
  split <;> omega

theorem triedAfter_range {top : Nat} (h : 0 < top) (n k : Nat) : 1 ≤ triedAfter top n k ∧ triedAfter top n k ≤ top := by
  induction k generalizing n with
  | zero => exact nextNumber_range h n
  | succ k ih => exact ih _

/-- The numbers tried go up by 1 with a wrap. -/
theorem triedAfter_eq {top : Nat} (h : 0 < top) (n k : Nat) :
    triedAfter top n k = (nextNumber top n - 1 + k) % top + 1 := by
  induction k generalizing n with
  | zero =>
    obtain ⟨h1, h2⟩ := nextNumber_range h n
    rw [triedAfter, Nat.add_zero, Nat.mod_eq_of_lt (by omega)]
    omega
  | succ k ih =>
    obtain ⟨h1, h2⟩ := nextNumber_range h n
    rw [triedAfter, ih]
    generalize nextNumber top n = m at *
    unfold nextNumber
    split
    · obtain rfl : m = top := by omega
      have : m - 1 + (k + 1) = k + m := by omega
      rw [this, Nat.add_mod_right, Nat.sub_self, Nat.zero_add]
    · rw [show m + 1 - 1 + k = m - 1 + (k + 1) by omega]

/-- Fewer numbers tried than there are, none twice. -/
theorem triedAfter_injOn {top : Nat} (h : 0 < top) (n : Nat) :
    Set.InjOn (triedAfter top n) {k | k < top} := by
  intro i hi j hj hij
  simp only [Set.mem_ofPred_eq] at hi hj
  rw [triedAfter_eq h, triedAfter_eq h, Nat.add_right_cancel_iff] at hij
  have := Nat.ModEq.add_left_cancel' _ (show (nextNumber top n - 1 + i) ≡ (nextNumber top n - 1 + j) [MOD top] from hij)
  rwa [Nat.ModEq, Nat.mod_eq_of_lt hi, Nat.mod_eq_of_lt hj] at this

/-- The allocation takes the first number tried that is not used, and the last one whatever it is (R76, R87). -/
theorem firstFree_eq (top : Nat) (used : List Nat) (tries last : Nat) :
    ∃ k ≤ tries, firstFree top used tries last = triedAfter top last k ∧
      (triedAfter top last k ∈ used → ∀ j ≤ tries, triedAfter top last j ∈ used) := by
  induction tries generalizing last with
  | zero => exact ⟨0, Nat.le_refl 0, rfl, fun hu j hj => by obtain rfl := Nat.le_zero.mp hj; exact hu⟩
  | succ t ih =>
    unfold firstFree
    dsimp only
    split
    · rename_i hc
      obtain ⟨k, hk, he, hu⟩ := ih (nextNumber top last)
      refine ⟨k + 1, by omega, he, fun hm j hj => ?_⟩
      cases j with
      | zero => exact List.contains_iff_mem.mp hc
      | succ j => exact hu hm j (by omega)
    · rename_i hc
      exact ⟨0, by omega, rfl, fun hm => absurd (List.contains_iff_mem.mpr hm) hc⟩

/-- The number allocated is free, with fewer in use than there are (R76, R87). -/
theorem firstFree_free {top : Nat} {used : List Nat} (h : used.length < top) (last : Nat) :
    firstFree top used used.length last ∉ used ∧ 1 ≤ firstFree top used used.length last ∧
      firstFree top used used.length last ≤ top := by
  have htop : 0 < top := by omega
  obtain ⟨k, -, he, hall⟩ := firstFree_eq top used used.length last
  rw [he]
  refine ⟨fun hm => ?_, triedAfter_range htop last k⟩
  have hsub : (Finset.range (used.length + 1)).image (triedAfter top last) ⊆ used.toFinset := by
    intro n hn
    obtain ⟨j, hj, rfl⟩ := Finset.mem_image.mp hn
    exact List.mem_toFinset.mpr (hall hm j (by have := Finset.mem_range.mp hj; omega))
  have hcard := Finset.card_le_card hsub
  rw [Finset.card_image_of_injOn, Finset.card_range] at hcard
  · have := List.toFinset_card_le used
    omega
  · intro i hi j hj hij
    simp only [Finset.coe_range, Set.mem_Iio] at hi hj
    exact triedAfter_injOn htop last (by simp only [Set.mem_ofPred_eq]; omega) (by simp only [Set.mem_ofPred_eq]; omega) hij

section
variable {l w : Bool} {x y y' : Option Nat} {s t : State} {d : Nat} {hires : List Hire} {cards : List Card}

/-! ## Hires and cards changed -/

theorem Good.money (h : Good l x s) (cards : List Card) (hires : List Hire) (n : Nat) :
    Good l x { s with cards := cards, hires := hires, lastHire := n } :=
  ⟨h.settings, ⟨h.rest.bus, h.rest.few, h.rest.high, h.rest.cursor, h.rest.toDo, h.rest.outstanding, h.rest.counted⟩,
    h.fits, h.ids, h.auths, h.link, h.claims, h.vans, h.reservations, h.manifest⟩

/-- A change of the hires and cards that keeps their laws. -/
theorem Inv.money (h : Inv l w x y s) (n : Nat)
    (hh : w = true → Hiring s.owners s.ids s.hires s.plan.isSome y → Accounts s.hires s.cards →
      Hiring s.owners s.ids hires s.plan.isSome y' ∧ Accounts hires cards) :
    Inv l w x y' { s with cards := cards, hires := hires, lastHire := n } := by
  refine ⟨h.good.money cards hires n, fun hw => ?_⟩
  obtain ⟨hready, hhiring, haccounts⟩ := h.whole hw
  exact ⟨hready, (hh hw hhiring haccounts).1, (hh hw hhiring haccounts).2⟩

/-- The bike that is exempt may change where no law is broken by it. -/
theorem Inv.exempt (h : Inv l w x y s) (hh : w = true → Hiring s.owners s.ids s.hires s.plan.isSome y →
    Hiring s.owners s.ids s.hires s.plan.isSome y') : Inv l w x y' s :=
  ⟨h.good, fun hw => ⟨(h.whole hw).ready, hh hw (h.whole hw).hiring, (h.whole hw).accounts⟩⟩

theorem Inv.blockIfNegative (h : Inv l w x y s) (i : Nat) : Inv l w x y (blockIfNegative i s) := by
  unfold Machine.blockIfNegative
  split
  · refine .ite _ (fun _ => Inv.calm ?_ (calm_enterRecord _ _)) fun _ => h
    exact h.money s.lastHire fun _ hh ha =>
      ⟨hh, ha.rewrite i (g := fun c => { c with standing := .blocked }) (fun _ => rfl) (fun c hc => ha.balance c hc)
        (fun _ => rfl) fun _ => rfl⟩
  · exact h

theorem settledBalance_range {b : Int} (hb : Config.balanceLow ≤ b ∧ b ≤ Config.balanceHigh) (f : Nat) :
    Config.balanceLow ≤ settledBalance b f ∧ settledBalance b f ≤ Config.balanceHigh := by
  simp only [settledBalance, Config.balanceLow, Config.balanceHigh] at *
  omega

theorem findHire_mem {n : Nat} {r : Hire} (h : findHire n s = some r) : r ∈ s.hires ∧ r.number = n :=
  ⟨List.mem_of_find?_eq_some h, by simpa using List.find?_some h⟩

/-- An OUT or OVERDUE hire is closed (R94). -/
theorem Inv.closeHire (h : Inv l w x y s) {r : Hire} (hr : r ∈ s.hires) (hs : r.state ≠ .starting) (e : Nat) (p : Place) :
    Inv l w x y (closeHire r e p s) := by
  refine Inv.blockIfNegative (Inv.calm (s := Machine.dropHire r.number (settle r.card r.holdAmount (hireCharge r e) s)) ?_
    (calm_enterRecord _ _)) _
  exact h.money s.lastHire fun _ hh ha => by
    have hp := hires_perm hh.numbers hr
    exact ⟨(hh.perm hp).drop hs, (ha.perm hp).drop (g := fun c => { c with
      held := c.held - r.holdAmount, balance := settledBalance c.balance (hireCharge r e),
      openCount := c.openCount - 1, lastUse := s.now }) (fun _ => rfl) (fun c hc => settledBalance_range (ha.balance c hc) _)
      (fun _ => rfl) fun _ => rfl⟩

theorem closeHire_hires (r : Hire) (e : Nat) (p : Place) (s : State) :
    (Machine.closeHire r e p s).hires = s.hires.filter fun x => x.number != r.number := by
  unfold Machine.closeHire Machine.blockIfNegative
  dsimp only
  split
  · split
    · rw [enterRecord_hires]
      exact enterRecord_hires _ _
    · exact enterRecord_hires _ _
  · exact enterRecord_hires _ _

theorem openHireOf_mem {b : Nat} {r : Hire} (h : openHireOf b s = some r) :
    r ∈ s.hires ∧ r.bike = b ∧ r.state ≠ .starting := by
  have := List.find?_some h
  simp only [Bool.and_eq_true, beq_iff_eq, bne_iff_ne] at this
  exact ⟨List.mem_of_find?_eq_some h, this⟩

theorem openHireOf_none {b : Nat} (h : openHireOf b s = none) : ∀ r ∈ s.hires, r.state ≠ .starting → some b ≠ some r.bike := by
  intro r hr hs hb
  have := List.find?_eq_none.mp h r hr
  cases hb
  simp [hs] at this

/-- The hire of a bike found in a dock is closed, and the bike is exempt no longer (R93). -/
theorem Inv.closeBikeHire {T : Nat} (h : Inv l w x (some T) s) (d : Nat) : Inv l w x none (closeBikeHire T d s).1 := by
  unfold Machine.closeBikeHire
  split
  · rename_i r hr
    obtain ⟨hm, hb, hs⟩ := openHireOf_mem hr
    refine (h.closeHire hm hs s.now (.dock d)).exempt fun _ hh => hh.cleared fun a ha has hTa => ?_
    rw [closeHire_hires] at ha
    obtain ⟨ha, han⟩ := List.mem_filter.mp ha
    cases hTa
    have hw := (h.whole ‹_›).hiring
    have har : a = r := List.inj_on_of_nodup_map hw.bikes ha hm hb.symm
    rw [har] at han
    simp at han
  · rename_i hr
    exact h.exempt fun _ hh => hh.cleared (openHireOf_none hr)

/-! ## The overdue check -/

theorem Inv.makeOverdue (h : Inv l w x y s) {r : Hire}
    (hr : w = true → ∀ a ∈ s.hires, a.number = r.number → a.state ≠ .starting) : Inv l w x y (makeOverdue r s) := by
  refine (Inv.calm (s := Machine.modHire r.number (fun x => { x with state := .overdue }) s) ?_
    (calm_enterRecord _ _)).calm (calm_raise _ _)
  refine h.money s.lastHire fun hw hh ha => ⟨hh.overdue (hr hw), ha.mapHires (fun a => ?_) fun a => ?_⟩
  · split <;> rfl
  · split <;> rfl

theorem makeOverdue_hires (r : Hire) (s : State) : (Machine.makeOverdue r s).hires =
    s.hires.map fun a => if a.number == r.number then { a with state := .overdue } else a := by
  unfold Machine.makeOverdue
  rw [raise_hires, enterRecord_hires]
  rfl

theorem mem_insertBy {α : Type} {before : α → α → Bool} {a b : α} {L : List α} (h : a ∈ insertBy before b L) :
    a = b ∨ a ∈ L := by
  induction L with
  | nil => exact .inl (List.mem_singleton.mp h)
  | cons c L ih =>
    unfold insertBy at h
    split at h
    · exact List.mem_cons.mp h
    · rcases List.mem_cons.mp h with rfl | h
      · exact .inr List.mem_cons_self
      · exact (ih h).imp_right (List.mem_cons_of_mem c)

theorem mem_sortBy {α : Type} {before : α → α → Bool} {a : α} {L : List α} (h : a ∈ sortBy before L) : a ∈ L := by
  induction L with
  | nil => exact h
  | cons b L ih =>
    rcases mem_insertBy h with rfl | h
    · exact List.mem_cons_self
    · exact List.mem_cons_of_mem b (ih h)

theorem Inv.overdueCheck (h : Inv l w x y s) : Inv l w x y (overdueCheck s) := by
  have hall (L : List Hire) : ∀ t, Inv l w x y t →
      (∀ r ∈ L, w = true → ∀ a ∈ t.hires, a.number = r.number → a.state ≠ .starting) →
      Inv l w x y (L.foldl (fun t r => Machine.makeOverdue r t) t) := by
    induction L with
    | nil => exact fun t ht _ => ht
    | cons b L ih =>
      refine fun t ht hL => ih _ (ht.makeOverdue (hL b List.mem_cons_self)) fun r hr hw a ha har => ?_
      rw [makeOverdue_hires] at ha
      obtain ⟨c, hc, rfl⟩ := List.mem_map.mp ha
      by_cases hcb : (c.number == b.number) = true
      · rw [if_pos hcb]
        exact nofun
      · rw [if_neg hcb] at har ⊢
        exact hL r (List.mem_cons_of_mem b hr) hw c hc har
  refine hall _ s h fun r hr hw a ha har => ?_
  obtain ⟨hr, ho⟩ := List.mem_filter.mp (mem_sortBy hr)
  rw [(h.whole hw).hiring.unique ha hr har]
  simp only [overdueNow, Bool.and_eq_true, beq_iff_eq] at ho
  simp [ho.1]

/-! ## Cards -/

theorem bestBy_mem {α : Type} {before : α → α → Bool} {L : List α} {a : α} (h : bestBy before L = some a) : a ∈ L := by
  induction L generalizing a with
  | nil => cases h
  | cons b L ih =>
    unfold bestBy at h
    split at h
    · cases h
      exact List.mem_cons_self
    · rename_i c hc
      split at h <;> cases h
      · exact List.mem_cons_of_mem b (ih hc)
      · exact List.mem_cons_self

theorem bestBy_isSome {α : Type} {before : α → α → Bool} {L : List α} (h : L ≠ []) : ∃ a, bestBy before L = some a := by
  cases L with
  | nil => exact absurd rfl h
  | cons b L =>
    unfold bestBy
    split
    · exact ⟨_, rfl⟩
    · split
      · exact ⟨_, rfl⟩
      · exact ⟨_, rfl⟩

theorem findCard_none {i : Nat} (h : findCard i s = none) : i ∉ s.cards.map Card.id := by
  intro hm
  obtain ⟨c, hc, hi⟩ := List.mem_map.mp hm
  have := List.find?_eq_none.mp h c hc
  simp [hi] at this

theorem findCard_mem {i : Nat} {c : Card} (h : findCard i s = some c) : c ∈ s.cards ∧ c.id = i :=
  ⟨List.mem_of_find?_eq_some h, by simpa using List.find?_some h⟩

/-- The room that a new card finds: the table with at most one card less, and below its size (R65). -/
theorem Accounts.makeRoom (ha : Accounts s.hires s.cards) (hfew : s.hires.length ≤ Config.hirePlaces) {written : List Nat}
    (hw : written.length ≤ 8) : Accounts s.hires (makeCardRoom written s).1.cards ∧
      (makeCardRoom written s).1.cards.length < Config.cardPlaces ∧
      (makeCardRoom written s).1.cards.map Card.id ⊆ s.cards.map Card.id := by
  unfold makeCardRoom
  split
  · rename_i hfull
    obtain ⟨e, he, ho, hew⟩ := ha.evictable hfew hfull hw
    obtain ⟨c, hc⟩ := bestBy_isSome (before := evictBefore)
      (List.ne_nil_of_mem (List.mem_filter.mpr ⟨he, by simp [ho, hew]⟩ :
        e ∈ s.cards.filter fun c => c.openCount == 0 && !written.contains c.id))
    obtain ⟨hm, hco⟩ := List.mem_filter.mp (bestBy_mem hc)
    simp only [Bool.and_eq_true, beq_iff_eq] at hco
    rw [show evictionChoice written s = some c from hc]
    refine ⟨ha.remove hm hco.1, Nat.lt_of_lt_of_le ?_ ha.few, (List.filter_sublist.map _).subset⟩
    exact List.length_filter_lt_length_iff_exists.mpr ⟨c, hm, by simp⟩
  · rename_i hroom
    exact ⟨ha, Nat.lt_of_not_le hroom, fun _ => id⟩

theorem makeCardRoom_eq (written : List Nat) (s : State) :
    (makeCardRoom written s).1 = { s with cards := (makeCardRoom written s).1.cards } := by
  unfold makeCardRoom
  split
  · split <;> rfl
  · rfl

theorem clampBalance_range (b : Int) : Config.balanceLow ≤ clampBalance b ∧ clampBalance b ≤ Config.balanceHigh := by
  simp only [clampBalance, Config.balanceLow, Config.balanceHigh]
  omega

/-- A card is written, into its entry or a new one (R64). -/
theorem Inv.writeCard (h : Inv l w x y s) {written : List Nat} (hw : written.length ≤ 8) (c : CardSetting) :
    Inv l w x y (writeCard written c s).1 := by
  unfold Machine.writeCard
  split
  · exact h.money s.lastHire fun _ hh ha => ⟨hh, ha.rewrite c.card (g := fun k => { k with
      subscriber := fieldBool c.subscriber, concession := fieldBool c.concession, deposit := fieldBool c.deposit,
      standing := fieldStanding c.standing, balance := clampBalance c.balance }) (fun _ => rfl)
      (fun _ _ => clampBalance_range _) (fun _ => rfl) fun _ => rfl⟩
  · rename_i hnone
    dsimp only
    rw [makeCardRoom_eq]
    refine h.money s.lastHire fun _ hh ha => ⟨hh, ?_⟩
    obtain ⟨hr, hlen, hsub⟩ := ha.makeRoom hh.few hw
    exact hr.insert hlen (fun hm => findCard_none hnone (hsub hm)) (clampBalance_range _) rfl rfl

theorem Inv.writeCards (L : List CardSetting) (tally : CardTally) (h : Inv l w x y s)
    (hlen : tally.written.length + L.length ≤ 8) : Inv l w x y (writeCards L tally s).1 := by
  induction L generalizing s tally with
  | nil => exact h
  | cons c L ih =>
    rw [List.length_cons] at hlen
    exact ih _ (h.writeCard (by omega) c) (by simp only [List.length_cons]; omega)

end

end Sys2Proof.Machine
end

section
/-! PROOFS. The release, from the hire that begins it to the pull or the lapse that ends it; the claim of a dock; a bike
that another dock still records. -/

namespace Sys2Proof.Machine

section
variable {l w : Bool} {x y : Option Nat} {s t : State} {d : Nat}

/-! ## Docks that release -/

/-- A RELEASING dock is not the one apart. -/
theorem Good.settles_releasing (h : Good l x s) (hs : (s.dock d).state = .releasing) : Settles d x x := by
  cases x with
  | none => exact .plain
  | some c =>
    refine .other fun hc => ?_
    subst hc
    have := h.apart.state
    simp [hs] at this

/-- A RELEASING dock has an owner, a bike and no reservation (R4). -/
theorem agrees_releasing {k : Dock} (h : k.agrees = true) (hs : k.state = .releasing) :
    k.owner ≠ none ∧ k.bike.isSome = true := by
  unfold Dock.agrees at h
  simp only [hs, Bool.and_eq_true] at h
  obtain ⟨-, h⟩ := h
  split at h
  · rename_i ho
    simp only [Bool.and_eq_true, Option.any_eq_true] at h
    obtain ⟨-, b, hb, -⟩ := h
    exact ⟨by simp [ho], by simp [hb]⟩
  · rename_i ho
    exact ⟨by simp [ho], h⟩
  · cases h

/-- The release that has ended is told to its owner, a hire's record going with it (R50, R52, R114). -/
theorem Inv.releaseOver (h : Inv l w x y s) (ha : Acts l x (Function.update s.owners d none) s.ids s t) :
    Inv l w x y (releaseOver d (s.owners d) t) := by
  have hhires : t.hires = s.hires := congrArg Face.hires ha.face
  have hcards : t.cards = s.cards := congrArg Face.cards ha.face
  cases ho : s.owners d with
  | none => exact h.acts ha fun _ hh => hh.disown (by simp [ho])
  | some o =>
    cases o with
    | batch => exact (h.acts ha fun _ hh => hh.disown (by simp [ho])).batchReleaseEnded
    | hire n =>
      unfold Machine.releaseOver lapseHire
      dsimp only
      refine Inv.calm ?_ (calm_raise _ _)
      split
      · rename_i r hr
        obtain ⟨hm, rfl⟩ := findHire_mem hr
        refine ⟨ha.good.money _ _ _, fun hw => ?_⟩
        obtain ⟨hready, hh, hc⟩ := h.whole hw
        rw [hhires] at hm
        have hp := hires_perm hh.numbers hm
        have howners : t.owners = _ := ha.owners
        refine ⟨ha.ready hready, ?_, ?_⟩
        · show Hiring t.owners t.ids (t.hires.filter _) t.plan.isSome y
          rw [ha.owners, ha.ids, ha.plan, hhires]
          exact (hh.perm hp).cancel ho
        · show Accounts (t.hires.filter _) (t.cards.map _)
          rw [hhires, hcards]
          exact (hc.perm hp).drop (g := fun c => { c with
            held := c.held - r.holdAmount, openCount := c.openCount - 1 }) (fun _ => rfl) (fun c hm => hc.balance c hm)
            (fun _ => rfl) fun _ => rfl
      · rename_i hnone
        refine ⟨ha.good, fun hw => ?_⟩
        obtain ⟨r, hr, hrn, -⟩ := (h.whole hw).hiring.ownerOf ho
        have := List.find?_eq_none.mp hnone r (hhires ▸ hr)
        simp [hrn] at this

/-- A release, its withdrawn commands gone. -/
theorem Good.endOperation (h : Good l x s) (d : Nat) :
    Still s (endOperation d s) ∧ Good l x (Machine.endOperation d s) ∧
      ∀ e, ((Machine.endOperation d s).dock e).state = (s.dock e).state :=
  have hs := calm_endOperation d s h.rest
  ⟨hs, hs.good h, hs.state⟩

/-- A lapse at a RELEASING dock (R50, R114). -/
theorem Inv.lapse (h : Inv l w x y s) (hs : (s.dock d).state = .releasing) : Inv l w x y (lapse d s) := by
  have hx := h.good.settles_releasing hs
  obtain ⟨hstill, hg, hstate⟩ := h.good.endOperation d
  have hs1 := (hstate d).trans hs
  have hb := (agrees_releasing (hg.agrees hx.ne) hs1).2
  have ha := hg.becomeHeld hx (hg.rest.lt_of_state (by simp [hs1])) (.inl (by simp [hs1])) hb
  have := (h.still hstill).releaseOver ha
  rwa [hstill.owners] at this

/-- The closing LOCK of a release has got no reply (R52, R114). -/
theorem Inv.closingLockSilent (h : Inv l w x y s) (hs : (s.dock d).state = .releasing) :
    Inv l w x y (closingLockSilent d s) := by
  have hx := h.good.settles_releasing hs
  obtain ⟨hstill, hg, hstate⟩ := h.good.endOperation d
  have hs1 := (hstate d).trans hs
  have ha := hg.enterRetired hx (hg.rest.lt_of_state (by simp [hs1])) (.inl (by simp [hs1]))
  have := (h.still hstill).releaseOver ha
  rwa [hstill.owners] at this

/-- The hire of a dock is OUT and the dock VACANT, or RETIRED through R5 (R48). -/
theorem Inv.becomeVacant_hireOut (h : Inv l w x y s) (hs : (s.dock d).state = .releasing) {n : Nat}
    (ho : s.owners d = some (.hire n)) : Inv l w x y (becomeVacant d (hireOut n s)) := by
  have hx := h.good.settles_releasing hs
  have hg : Good l x (hireOut n s) := h.good.money s.cards _ s.lastHire
  have hne : (s.dock d).state ≠ .claimed := by simp [hs]
  have ha := hg.becomeVacant (d := d) hx (h.good.rest.lt_of_state (by simp [hs])) (.inl hne)
  refine ⟨ha.good, fun hw => ?_⟩
  obtain ⟨hready, hh, hc⟩ := h.whole hw
  refine ha.whole hready (hh.pull ho s.now fun e i he hd => h.good.ids e d i he hd) (hc.mapHires (fun r => ?_) fun r => ?_)
  · split <;> rfl
  · split <;> rfl

/-- A pull at a RELEASING dock (R48, R113). -/
theorem Inv.pull (h : Inv l w x y s) (hs : (s.dock d).state = .releasing) : Inv l w x y (pull d s) := by
  have hx := h.good.settles_releasing hs
  obtain ⟨hstill, hg, hstate⟩ := h.good.endOperation d
  have h1 := h.still hstill
  have hs1 := (hstate d).trans hs
  have hown : (Machine.endOperation d s).owners d = (s.dock d).owner := congrFun hstill.owners d
  have hvacate (ho : ∀ n, (s.dock d).owner ≠ some (.hire n)) : Inv l w x y (becomeVacant d (Machine.endOperation d s)) :=
    h1.acts (hg.becomeVacant hx (hg.rest.lt_of_state (by simp [hs1])) (.inl (by simp [hs1]))) fun _ hh =>
      hh.vacate fun n => hown ▸ ho n
  unfold Machine.pull
  dsimp only
  split
  · rename_i n ho
    refine Inv.calm ?_ (calm_raise _ _)
    have h2 := h1.becomeVacant_hireOut hs1 (hown.trans ho)
    split
    · exact h2.calm (calm_enterRecord _ _)
    · exact h2
  · rename_i ho
    exact ((hvacate (by simp [ho])).collect _ d).batchReleaseEnded
  · rename_i ho
    exact hvacate (by simp [ho])

/-! ## A release begins -/

theorem recordedId_senseAborted (k : Option Bike) : (k.map Bike.senseAborted).bind Bike.id = k.bind Bike.id := by
  cases k <;> rfl

/-- A dock begins to release for an owner (R43, R112). -/
theorem Good.release (h : Good l none s) {o : Owner} {p : Bool} (hd : d < s.installed) (hs : (s.dock d).state ≠ .claimed)
    (hr : (s.dock d).reserved = false) (hb : (s.dock d).bike.isSome = true)
    (ho : ∀ n, o = .hire n → (s.dock d).vanHold = false ∧ (recordedId (s.dock d)).isSome = true) :
    Acts l none (Function.update s.owners d (some o)) s.ids s
      (setDock d { s.dock d with
        state := .releasing, owner := some o, bike := (s.dock d).bike.map Bike.senseAborted, phase := some .unlatching
        window := none, retirePending := p } s) := by
  have hk : recordedId { s.dock d with
      state := .releasing, owner := some o, bike := (s.dock d).bike.map Bike.senseAborted, phase := some .unlatching
      window := none, retirePending := p } = recordedId (s.dock d) := recordedId_senseAborted _
  have ht := h.settle (k := { s.dock d with
      state := .releasing, owner := some o, bike := (s.dock d).bike.map Bike.senseAborted, phase := some .unlatching
      window := none, retirePending := p }) .plain hd (.inl hs) ?_ nofun nofun (h.vans d) (.inr hk)
  · rwa [hk, ids_same] at ht
  · cases o with
    | batch => simp [Dock.agrees, hr, hb]
    | hire n =>
      obtain ⟨hv, hid⟩ := ho n rfl
      obtain ⟨b, hb⟩ := Option.isSome_iff_exists.mp hb
      simp only [recordedId, hb, Option.bind_some] at hid
      simp [Dock.agrees, hr, hb, hv, Bike.senseAborted, hid]

/-- What HIREABLE says of a dock (R15). -/
theorem verdict_eq_hireable (h : verdict d s = .hireable) : (s.dock d).state = .held ∧ (s.dock d).vanHold = false ∧
    ∃ b, (s.dock d).bike = some b ∧ b.id.isSome = true := by
  unfold verdict at h
  dsimp only at h
  split at h
  · cases h
  · rename_i hv
    split at h
    · cases h
    · split at h
      · cases h
      · rename_i b hb
        split at h
        · rename_i hc
          exact ⟨hc.1, by simpa using hv, b, hb, hc.2.2.1⟩
        · cases h

/-- The number that a new hire takes is free (R87). -/
theorem freeHireNumber_free (h : s.hires.length < Config.hirePlaces) : freeHireNumber s ∉ s.hires.map Hire.number := by
  have hlen : (s.hires.map Hire.number).length < 65535 := by
    rw [List.length_map]
    simp only [Config.hirePlaces] at h
    omega
  have := (firstFree_free hlen s.lastHire).1
  rwa [List.length_map] at this

theorem Good.held (h : Good l none s) (hs : (s.dock d).state = .held) :
    (s.dock d).owner = none ∧ (s.dock d).reserved = false ∧ (s.dock d).bike.isSome = true ∧ d < s.installed := by
  have ha := h.agrees (d := d) nofun
  simp only [Dock.agrees, hs, Bool.and_eq_true, Option.isNone_iff_eq_none, Bool.not_eq_true'] at ha
  exact ⟨ha.1.1.2, ha.1.2, ha.1.1.1, h.rest.lt_of_state (by simp [hs])⟩

/-- A hire is accepted at a HELD dock with its identified bike (R43). -/
theorem Inv.acceptHire (h : Inv l w none none s) {c : Card} (hc : c ∈ s.cards) (hfew : s.hires.length < Config.hirePlaces)
    (hs : (s.dock d).state = .held) (hv : (s.dock d).vanHold = false) {i : Nat} (hid : recordedId (s.dock d) = some i)
    (kind : BikeKind) : Inv l w none none (acceptHire c i kind d s) := by
  obtain ⟨ho, hr, hb, hd⟩ := h.good.held hs
  let r := acceptedHire (freeHireNumber s) c i kind d s
  have hg := h.good.money (placeHold c.id r.holdAmount s).cards (s.hires ++ [r]) r.number
  have hne : (s.dock d).state ≠ .claimed := by simp [hs]
  have hsome : (recordedId (s.dock d)).isSome = true := by rw [hid]; rfl
  have ha := hg.release (d := d) (o := .hire r.number) (p := (s.dock d).retirePending) hd hne hr hb
    fun _ _ => ⟨hv, hsome⟩
  have hperm : (r :: s.hires).Perm (s.hires ++ [r]) := List.perm_append_comm (l₁ := [r])
  refine ⟨ha.good, fun hw => ?_⟩
  obtain ⟨hready, hh, hacc⟩ := h.whole hw
  refine ha.whole hready ?_ ?_
  · refine (hh.accept (r := r) hfew (freeHireNumber_free hfew) rfl rfl hid ho
      fun e j he hj => h.good.ids e d j he hj).perm hperm
  · refine (hacc.add (r := r) (g := fun k => { k with
      held := k.held + r.holdAmount, openCount := k.openCount + 1, lastUse := s.now })
      (fun _ => rfl) (fun _ => rfl) (fun _ => rfl) (fun _ => rfl) ⟨c, hc, rfl⟩).perm hperm

/-- Steps 7 and 8 of R40 at a HIREABLE dock. -/
theorem Inv.startHire (h : Inv l w none none s) {c : Card} (hc : c ∈ s.cards) (hfew : s.hires.length < Config.hirePlaces)
    (hv : verdict d s = .hireable) : Inv l w none none (startHire c d s).1 := by
  obtain ⟨hs, hvan, b, hb, hid⟩ := verdict_eq_hireable hv
  obtain ⟨i, hi⟩ := Option.isSome_iff_exists.mp hid
  unfold Machine.startHire
  rw [hb]
  dsimp only
  split
  · exact h
  · rename_i s1 hp
    have hstill := calm_placeUnlatch hp (h.good.rest.lt_of_state (by simp [hs])) h.good.rest
    have hid1 : recordedId (s1.dock d) = some i := by
      rw [(hstill.alike d).recordedId, recordedId, hb, Option.bind_some, hi]
    rw [hi]
    exact (h.still hstill).acceptHire (hstill.cards ▸ hc) (hstill.hires ▸ hfew) ((hstill.state d).trans hs)
      ((hstill.alike d).vanHold.trans hvan) hid1 b.kind

/-- The tag that an authorization takes is free (R76). -/
theorem freeAuthTag_free (h : s.authQueue.length < Config.authPlaces) :
    freeAuthTag s ∉ s.authQueue.map AuthEntry.tag ∧ 1 ≤ freeAuthTag s ∧ freeAuthTag s ≤ 255 := by
  have hlen : (s.authQueue.map AuthEntry.tag).length < 255 := by
    rw [List.length_map]
    simp only [Config.authPlaces] at h
    omega
  have := firstFree_free hlen s.lastTag
  rwa [List.length_map] at this

/-- A HIREABLE dock is CLAIMED for a card that is not in the table (R71). -/
theorem Inv.claimDock (h : Inv l w none y s) {card : Nat} (hv : verdict d s = .hireable) (hlink : s.link = .online)
    (hlen : s.authQueue.length < Config.authPlaces) (hcard : card ∉ s.authQueue.map AuthEntry.card) (k : BikeKind) :
    Inv l w none y (claimDock card d k s) := by
  obtain ⟨hs, hvan, -⟩ := verdict_eq_hireable hv
  obtain ⟨ho, hr, hb, hd⟩ := h.good.held hs
  have h64 := h.good.lt_docks hd
  obtain ⟨htag, hrange⟩ := freeAuthTag_free hlen
  have hput : Keeps l (some d) s (setDock d { s.dock d with state := .claimed } s) := by
    refine (h.good.write (x' := some d) (k := { s.dock d with state := .claimed }) hd (.inl (by simp [hs]))
      (fun e he => ?_) ?_ (fun _ => rfl)
      (h.good.reservations_setDock hd fun ht => absurd ht.1 nofun) (h.good.vans d)
      fun e i he hi hk => he (h.good.ids e d i hi hk)).keeps rfl rfl
    · exact ⟨fun hd => absurd (Option.some.inj hd).symm he, nofun⟩
    · rw [Dock.Fits, if_pos rfl]
      exact ⟨ho, hr, .inr ⟨.inl rfl, hb⟩⟩
  have hself := dock_setDock_self h64 { s.dock d with state := .claimed } s
  refine Inv.calm (s := { setDock d { s.dock d with state := .claimed } s with
    authQueue := s.authQueue ++ [⟨freeAuthTag s, card, d, k, s.settings.authTimeout, false⟩], lastTag := freeAuthTag s }) ?_
    (calm_raise _ _)
  exact (h.keeps hput).addAuth (by rw [hself]) (by rw [hself]; exact hvan) rfl hlink hlen hrange htag hcard _

/-! ## A bike recorded in another dock -/

/-- A docked bike loses its id (R6). -/
theorem Good.anonymize (h : Good l x s) (hx : x ≠ some d)
    (hs : (s.dock d).state = .held ∨ (s.dock d).state = .claimed ∨ (s.dock d).state = .retired) :
    Acts l x s.owners (Function.update s.ids d none) s (anonymize d s) := by
  have hd : d < s.installed := h.rest.lt_of_state (by rcases hs with hs | hs | hs <;> simp [hs])
  have hid : recordedId { s.dock d with bike := (s.dock d).bike.map Bike.anonymous } = none := by
    unfold recordedId
    cases (s.dock d).bike <;> rfl
  have ht := h.put (x' := x) (k := { s.dock d with bike := (s.dock d).bike.map Bike.anonymous }) hd .rfl
    (fun _ _ => .rfl) ?_ (h.reservations_setDock hd fun ht => ht) (h.vans d) fun e i _ _ hk => by
      rw [hid] at hk
      cases hk
  · rw [hid] at ht
    have hown : Function.update s.owners d (s.dock d).owner = s.owners := Function.update_eq_self d s.owners
    rw [← hown]
    exact ht
  · have ha := h.agrees hx
    rw [Dock.Fits, if_neg hx]
    rcases hs with hs | hs | hs <;> simpa [Dock.agrees, hs, Dock.plain] using ha

theorem Inv.anonymize (h : Inv l w x y s) (hx : x ≠ some d)
    (hs : (s.dock d).state = .held ∨ (s.dock d).state = .claimed ∨ (s.dock d).state = .retired) :
    Inv l w x y (anonymize d s) := by
  have hn : (s.dock d).state ≠ .releasing := by rcases hs with hs | hs | hs <;> simp [hs]
  have hown : s.owners d = none := h.good.owner_none hn
  refine h.acts (h.good.anonymize hx hs) fun _ hh => ?_
  have := hh.vacate (d := d) (by simp [hown])
  rwa [owners_same hown] at this

/-- A report against a dock that is neither apart nor RESERVED while another is. -/
theorem Inv.reportDock (h : Inv l w x y s) (c : Category) (severe : Bool) (hx : Settles d x x) (hd : d < s.installed)
    (hr : x = none ∨ (s.dock d).state ≠ .reserved) : Inv l w x y (reportDock d c severe s) :=
  h.keeps (h.good.reportDock c severe hx hd hr)

end

end Sys2Proof.Machine
end

section
/-! PROOFS. What an act at one dock can do to another (`Spares`): it may reserve it or give its reservation back, and
nothing else of its state. A bike that another dock still records (R6). -/

namespace Sys2Proof.Machine

/-- The dock is VACANT or RESERVED. -/
def Dock.Free (k : Dock) : Prop := k.state = .vacant ∨ k.state = .reserved

/-- From `s` to `t` dock `d` has kept its state, but that a reservation may have come or gone. -/
def Spares (d : Nat) (s t : State) : Prop :=
  (t.dock d).state = (s.dock d).state ∨ (s.dock d).Free ∧ (t.dock d).Free

section
variable {l w : Bool} {x y : Option Nat} {s t : State} {d e : Nat}

theorem Spares.refl (d : Nat) (s : State) : Spares d s s := .inl rfl

theorem Spares.trans {u : State} (h : Spares d s t) (g : Spares d t u) : Spares d s u := by
  rcases h with h | ⟨h1, h2⟩ <;> rcases g with g | ⟨g1, g2⟩
  · exact .inl (g.trans h)
  · exact .inr ⟨by unfold Dock.Free at *; rwa [h] at g1, g2⟩
  · exact .inr ⟨h1, by unfold Dock.Free at *; rwa [g]⟩
  · exact .inr ⟨h1, g2⟩

theorem Spares.of_docks (h : t.docks = s.docks) : Spares d s t := .inl (by unfold State.dock; rw [h])

theorem Spares.of_tells (h : Tells s t) : Spares d s t := .of_docks h.docks

theorem Spares.of_busOnly (h : BusOnly s t) : Spares d s t :=
  .inl (congrArg Dock.state (h.dock d) : (t.dock d).unowed.state = (s.dock d).unowed.state)

/-- A state that no reservation changes. -/
theorem Spares.state (h : Spares d s t) (hs : ¬ (s.dock d).Free) : (t.dock d).state = (s.dock d).state :=
  h.resolve_right fun hf => hs hf.1

theorem dock_modDock_or (e : Nat) (f : Dock → Dock) (s : State) (d : Nat) :
    (modDock e f s).dock d = s.dock d ∨ e = d ∧ (modDock e f s).dock d = f (s.dock d) := by
  by_cases he : e = d
  · subst he
    by_cases h64 : e < Config.docks
    · exact .inr ⟨rfl, dock_modDock_self h64 f s⟩
    · exact .inl (by rw [modDock, setDock_out (Nat.le_of_not_lt h64)])
  · exact .inl (dock_modDock_other he f s)

theorem spares_modDock (f : Dock → Dock) (h : e = d → (f (s.dock d)).state = (s.dock d).state ∨
    (s.dock d).Free ∧ (f (s.dock d)).Free) : Spares d s (modDock e f s) := by
  unfold Spares
  rcases dock_modDock_or e f s d with hd | ⟨he, hd⟩
  · exact .inl (by rw [hd])
  · rw [hd]
    exact h he

theorem spares_other (f : Dock → Dock) (h : e ≠ d) : Spares d s (modDock e f s) := spares_modDock f fun he => absurd he h

/-- A function that keeps VACANT and RESERVED docks so, applied to such docks in turn. -/
theorem spares_foldl {f : Dock → Dock} (hf : ∀ k, (f k).Free) (L : List Nat) (hL : ∀ e ∈ L, (s.dock e).Free) :
    Spares d s (L.foldl (fun t e => modDock e f t) s) := by
  induction L generalizing s with
  | nil => exact .refl d s
  | cons a L ih =>
    refine Spares.trans (spares_modDock f fun ha => .inr ⟨ha ▸ hL a List.mem_cons_self, hf _⟩) (ih fun e he => ?_)
    rcases dock_modDock_or a f s e with hd | ⟨-, hd⟩
    · rw [hd]
      exact hL e (List.mem_cons_of_mem a he)
    · rw [hd]
      exact hf _

theorem spares_topUp (d : Nat) (s : State) : Spares d s (topUp s) := by
  unfold topUp
  split
  · split
    · exact spares_foldl (f := fun k => { k with state := .reserved, reserved := true }) (fun _ => .inr rfl) _ fun e he =>
        .inl (mem_reservationOrder (List.mem_of_mem_take he)).2
    · exact .refl d s
  · exact .refl d s

theorem spares_enterRetired (s : State) (h : e ≠ d) : Spares d s (enterRetired e s) :=
  (spares_other _ h).trans ((Spares.of_busOnly (orphan_busOnly e _)).trans
    (.of_tells ((enterRecord_tells _ _).trans (raise_tells _ _))))

theorem spares_becomeVacant (s : State) (h : e ≠ d) : Spares d s (becomeVacant e s) := by
  unfold becomeVacant
  split
  · exact (spares_other _ h).trans (spares_enterRetired _ h)
  · exact (spares_other _ h).trans (spares_topUp d _)

theorem spares_moveReservation (s : State) (h : e ≠ d) : Spares d s (moveReservation e s) := by
  unfold moveReservation
  dsimp only
  split
  · rename_i f hf
    have htest := List.find?_some hf
    simp only [Bool.and_eq_true] at htest
    refine (spares_other _ h).trans (spares_modDock _ fun hfd => .inr ⟨.inl ?_, .inr rfl⟩)
    subst hfd
    exact eligible_vacant htest.2
  · exact spares_other _ h

theorem spares_retireAtThreshold (s : State) (h : e ≠ d) : Spares d s (retireAtThreshold e s) := by
  unfold retireAtThreshold
  split
  · exact spares_enterRetired s h
  · exact spares_enterRetired s h
  · exact (spares_moveReservation s h).trans (spares_enterRetired _ h)
  · exact spares_other _ h
  · exact spares_other _ h
  · exact spares_other _ h
  · exact spares_other _ h
  · exact .refl d s
  · exact .refl d s

theorem spares_reportDock (c : Category) (severe : Bool) (s : State) (h : e ≠ d) : Spares d s (reportDock e c severe s) := by
  have hcount (n : Nat) : Spares d s (enterRecord (.dockFault e c n) (modDock e (fun k => { k with faultCount := n }) s)) :=
    (spares_other _ h).trans (.of_tells (enterRecord_tells _ _))
  unfold reportDock
  split
  · exact .refl d s
  · dsimp only
    split
    · exact (hcount _).trans (spares_retireAtThreshold _ h)
    · exact hcount _

theorem dropFaultOf_docks (i : Option Nat) (s : State) : (dropFaultOf i s).docks = s.docks := by
  unfold dropFaultOf
  split <;> rfl

theorem collected_docks (k : Option Bike) (d : Nat) (s : State) : (collected k d s).docks = s.docks := by
  simp [collected, dropFaultOf_docks]

theorem collect_docks (k : Option Bike) (d : Nat) (s : State) : (collect k d s).docks = s.docks := by
  rw [collect_eq]
  split
  · split
    · exact collected_docks k d s
    · exact collected_docks k d s
  · exact collected_docks k d s

theorem endBatch_docks {o : BatchOutcome} {b : Batch} (hb : s.batch = some b) :
    (endBatch o s).docks = (released s).docks := by
  unfold endBatch
  rw [hb]
  simp [released]

theorem spares_released (d : Nat) (s : State) : Spares d s (released s) := by
  have hdrop (L : List Nat) (u : State) : Spares d u (L.foldl (fun t e => modDock e (fun k => { k with vanHold := false }) t) u) := by
    induction L generalizing u with
    | nil => exact .refl d u
    | cons a L ih => exact Spares.trans (spares_modDock (fun k => { k with vanHold := false }) fun _ => .inl rfl) (ih _)
  exact Spares.trans (spares_foldl (f := fun k => { k with state := .vacant, reserved := false }) (fun _ => .inl rfl)
    (reservedDocks s) fun e he => .inr (mem_reservedDocks.mp he).2.1) (hdrop _ _)

theorem batchReleaseEnded_docks (s : State) :
    (batchReleaseEnded s).docks = s.docks ∨ (batchReleaseEnded s).docks = (released s).docks := by
  unfold batchReleaseEnded
  split
  · rename_i b hb
    split
    · exact .inr (endBatch_docks hb)
    · exact .inl rfl
  · exact .inl rfl

theorem spares_batchReleaseEnded (d : Nat) (s : State) : Spares d s (batchReleaseEnded s) := by
  rcases batchReleaseEnded_docks s with h | h
  · exact .of_docks h
  · exact (spares_released d s).trans (.of_docks h)

/-- What a pull tells of its hire: HIRE_START and BIKE_TAKEN (R48). -/
def tellTaken (d n : Nat) (s : State) : State :=
  let s1 := match findHire n s with
    | some r => enterRecord (.hireStart n r.card r.bike d) s
    | none => s
  raise (.bikeTaken d n) s1

theorem tellTaken_tells (d n : Nat) (s : State) : Tells s (tellTaken d n s) := by
  unfold tellTaken
  dsimp only
  split
  · exact (enterRecord_tells _ _).trans (raise_tells _ _)
  · exact raise_tells _ _

/-- A pull, by the owner of the release (R48, R113). -/
theorem pull_cases (d : Nat) (s : State) :
    (∃ n, (s.dock d).owner = some (.hire n) ∧
      pull d s = tellTaken d n (becomeVacant d (hireOut n (endOperation d s)))) ∨
    ((s.dock d).owner = some .batch ∧
      pull d s = batchReleaseEnded (collect (s.dock d).bike d (becomeVacant d (endOperation d s)))) ∨
    ((s.dock d).owner = none ∧ pull d s = becomeVacant d (endOperation d s)) := by
  unfold pull
  dsimp only
  split
  · exact .inl ⟨_, ‹_›, rfl⟩
  · exact .inr (.inl ⟨‹_›, rfl⟩)
  · exact .inr (.inr ⟨‹_›, rfl⟩)

theorem spares_pull (s : State) (h : e ≠ d) : Spares d s (pull e s) := by
  have hend : Spares d s (endOperation e s) := .of_busOnly (endOperation_busOnly e s)
  rcases pull_cases e s with ⟨n, -, hp⟩ | ⟨-, hp⟩ | ⟨-, hp⟩
  · rw [hp]
    exact hend.trans (Spares.trans (t := hireOut n (endOperation e s)) (.of_docks rfl)
      ((spares_becomeVacant _ h).trans (.of_tells (tellTaken_tells e n _))))
  · rw [hp]
    exact hend.trans ((spares_becomeVacant _ h).trans ((Spares.of_docks (collect_docks _ _ _)).trans
      (spares_batchReleaseEnded d _)))
  · rw [hp]
    exact hend.trans (spares_becomeVacant _ h)

/-! ## Bike ids after a pull -/

theorem ids_of_docks (h : t.docks = s.docks) : t.ids = s.ids := by
  unfold State.ids State.dock
  rw [h]

/-- The bike ids of the docks once a release has been pulled. -/
theorem Good.pull_ids (h : Good l x s) (hs : (s.dock d).state = .releasing) :
    (pull d s).ids = Function.update s.ids d none := by
  have hx := h.settles_releasing hs
  obtain ⟨hstill, hg, hstate⟩ := h.endOperation d
  have hs1 := (hstate d).trans hs
  have hd1 := hg.rest.lt_of_state (d := d) (by simp [hs1])
  have hne : ((Machine.endOperation d s).dock d).state ≠ .claimed := by simp [hs1]
  have ha := hg.becomeVacant hx hd1 (.inl hne)
  rw [← hstill.ids]
  rcases pull_cases d s with ⟨n, -, hp⟩ | ⟨-, hp⟩ | ⟨-, hp⟩
  · have hout : Good l x (hireOut n (Machine.endOperation d s)) := hg.money _ _ _
    rw [hp]
    exact (ids_of_docks (tellTaken_tells d n _).docks).trans (hout.becomeVacant hx hd1 (.inl hne)).ids
  · have hcollect : Good l x (collect (s.dock d).bike d (Machine.becomeVacant d (Machine.endOperation d s))) :=
      (Inv.collect (w := false) (y := none) ⟨ha.good, nofun⟩ _ d).good
    have hids := (ids_of_docks (collect_docks (s.dock d).bike d _)).trans ha.ids
    rw [hp]
    rcases batchReleaseEnded_docks (collect (s.dock d).bike d (Machine.becomeVacant d (Machine.endOperation d s))) with h | h
    · exact (ids_of_docks h).trans hids
    · exact (ids_of_docks h).trans (hcollect.released.ids.trans hids)
  · rw [hp]
    exact ha.ids

/-! ## R6 -/

/-- The dock of a bike that is recorded in another (R6). -/
theorem recordedElsewhere_some {T : Nat} (h : recordedElsewhere d T s = some e) : e ≠ d ∧ s.ids e = some T := by
  have htest := List.find?_some h
  simp only [Bool.and_eq_true, bne_iff_ne] at htest
  refine ⟨htest.1, ?_⟩
  have hb := htest.2
  unfold State.ids recordedId
  split at hb
  · rename_i b hbike
    rw [hbike]
    exact beq_iff_eq.mp hb
  · cases hb

theorem recordedElsewhere_none (hr : Rest s) {T : Nat} (h : recordedElsewhere d T s = none) (he : e ≠ d) :
    s.ids e ≠ some T := by
  intro hid
  unfold State.ids recordedId at hid
  obtain ⟨b, hb, hi⟩ := Option.bind_eq_some_iff.mp hid
  have hi' : e < s.installed := by
    by_contra hn
    rw [hr.high e (by omega)] at hb
    cases hb
  have := List.find?_eq_none.mp h e (List.mem_range.mpr hi')
  simp [he, hb, hi] at this

/-- A dock that records a bike id is HELD, CLAIMED, RETIRED or RELEASING (R4). -/
theorem agrees_id {k : Dock} (h : k.agrees = true) {i : Nat} (hi : recordedId k = some i) :
    k.state = .held ∨ k.state = .claimed ∨ k.state = .retired ∨ k.state = .releasing := by
  obtain ⟨b, hb, hbi⟩ := Option.bind_eq_some_iff.mp hi
  unfold Dock.agrees at h
  cases hs : k.state <;> simp_all

/-- The Dock Table acts on a dock that still records the bike, after which no other dock records it (R6). -/
theorem Inv.clearElsewhere (h : Inv l w x y s) (hx : x = none ∨ x = some d) (T : Nat) :
    Inv l w x y (clearElsewhere d T s) ∧ Spares d s (clearElsewhere d T s) ∧
      ∀ e, e ≠ d → (Machine.clearElsewhere d T s).ids e ≠ some T := by
  unfold Machine.clearElsewhere
  split
  · rename_i hnone
    exact ⟨h, .refl d s, fun e he => recordedElsewhere_none h.good.rest hnone he⟩
  · rename_i e hsome
    obtain ⟨hed, hid⟩ := recordedElsewhere_some hsome
    have hxe : x ≠ some e := by
      rcases hx with rfl | rfl
      · exact nofun
      · exact fun hde => hed (Option.some.inj hde).symm
    have hset : Settles e x x := by
      rcases hx with rfl | rfl
      · exact .plain
      · exact .other (Ne.symm hed)
    have honly {u : State} (hu : u.ids = Function.update s.ids e none) (f : Nat) (_ : f ≠ d) : u.ids f ≠ some T := by
      rw [hu]
      by_cases hfe : f = e
      · subst hfe
        simp
      · rw [Function.update_of_ne hfe]
        exact fun hf => hfe (h.good.ids f e T hf hid)
    have hnamed := agrees_id (h.good.agrees hxe) hid
    have hanon (hs : (s.dock e).state = .held ∨ (s.dock e).state = .claimed ∨ (s.dock e).state = .retired) :=
      h.anonymize hxe hs
    have hanonIds (hs : (s.dock e).state = .held ∨ (s.dock e).state = .claimed ∨ (s.dock e).state = .retired) :=
      (h.good.anonymize hxe hs).ids
    have hreport (hs : (s.dock e).state = .held ∨ (s.dock e).state = .claimed) :
        Inv l w x y (Machine.reportDock e .auditMismatch false (Machine.anonymize e s)) ∧
          Spares d s (Machine.reportDock e .auditMismatch false (Machine.anonymize e s)) ∧
          ∀ f, f ≠ d → (Machine.reportDock e .auditMismatch false (Machine.anonymize e s)).ids f ≠ some T := by
      have hs3 : (s.dock e).state = .held ∨ (s.dock e).state = .claimed ∨ (s.dock e).state = .retired :=
        hs.elim .inl fun h => .inr (.inl h)
      have hd : e < s.installed := h.good.rest.lt_of_state (by rcases hs with hs | hs <;> simp [hs])
      have hstate : ((Machine.anonymize e s).dock e).state = (s.dock e).state := by
        rw [Machine.anonymize, dock_modDock_self (h.good.lt_docks hd)]
      have hk := (hanon hs3).good.reportDock .auditMismatch false hset hd
        (.inr (by rw [hstate]; rcases hs with hs | hs <;> simp [hs]))
      exact ⟨(hanon hs3).keeps hk, (spares_other _ hed).trans (spares_reportDock _ _ _ hed),
        honly (hk.ids.trans (hanonIds hs3))⟩
    split
    case h_1 hs => exact hreport (.inl hs)
    case h_2 hs => exact hreport (.inr hs)
    case h_3 hs => exact ⟨hanon (.inr (.inr hs)), spares_other _ hed, honly (hanonIds (.inr (.inr hs)))⟩
    case h_4 hs => exact ⟨h.pull hs, spares_pull s hed, honly (h.good.pull_ids hs)⟩
    case h_5 hs => simp [hs] at hnamed
    case h_6 hs => simp [hs] at hnamed
    case h_7 hs => simp [hs] at hnamed
    case h_8 hs => simp [hs] at hnamed
    case h_9 hs => simp [hs] at hnamed

end

end Sys2Proof.Machine
end

section
/-! PROOFS. Arrivals, identification, resolutions and removals keep the laws (R53 to R62, R148, R149). -/

namespace Sys2Proof.Machine

/-- No elementary act changes the number of installed docks (R1). -/
theorem installed_acting : Acting fun s t => t.installed = s.installed where
  refl _ := rfl
  trans h k := k.trans h
  work _ _ _ := rfl
  audit _ _ := rfl
  patrol _ _ _ := rfl
  ready _ := rfl
  money _ _ _ _ := rfl
  auths _ _ _ := rfl
  batch _ _ := rfl
  bikeFaults _ _ := rfl
  raise := raise_installed
  enter := enterRecord_installed

section
variable {l w : Bool} {x x' y : Option Nat} {s t : State} {d e T : Nat} {k : Dock}

/-! ## Bikes that come into a dock and go out of it -/

/-- A dock that releases for no hire is settled without an identified bike. -/
theorem Inv.settle (h : Inv l w x y s) (hx : Settles d x x') (hd : d < s.installed)
    (hq : (s.dock d).state ≠ .claimed ∨ x = some d) (hs : (s.dock d).state ≠ .releasing) (ha : k.agrees = true)
    (hc : k.state ≠ .claimed) (hr : k.state ≠ .reserved) (hv : k.vanHold = false) (ho : k.owner = none)
    (hid : recordedId k = none) : Inv l w x' y (setDock d k s) := by
  have hown : s.owners d = none := h.good.owner_none hs
  refine h.acts (h.good.settle hx hd hq ha hc hr (fun h => by simp [hv] at h) (.inl hid)) fun _ hh => ?_
  rw [ho, hid]
  exact hh.vacate (by simp [hown])

/-- No dock but `d` records the bike of tag `T`. -/
def Elsewhere (d T : Nat) (s : State) : Prop := ∀ e, e ≠ d → ∀ i, foundId T = some i → s.ids e ≠ some i

/-- The bike of tag `T` is entered in dock `d`, and is exempt until its hire is closed (R55, R56, R141, R148). -/
theorem Inv.enterBike (h : Inv l w x none s) (hd : d < s.installed)
    (hq : (s.dock d).state = .claimed ∧ x ≠ some d ↔ k.state = .claimed ∧ x' ≠ some d)
    (hx : ∀ e, e ≠ d → (x' = some e ↔ x = some e)) (hf : k.Fits x' d) (hs : (s.dock d).state ≠ .releasing)
    (hr : k.Taken → (s.dock d).Taken) (hv : k.vanHold = true → s.collects) (ho : k.owner = none)
    (hid : recordedId k = foundId T) (he : Elsewhere d T s) : Inv l w x' (foundId T) (setDock d k s) := by
  have hown : s.owners d = none := h.good.owner_none hs
  refine h.acts (h.good.put hd hq hx hf (h.good.reservations_setDock hd hr) hv fun e i hed hei hk =>
    he e hed i (hid ▸ hk) hei) fun _ hh => ?_
  rw [ho, owners_same hown, hid]
  refine hh.turn (fun _ => .inl rfl) (fun e n hen => ?_) (fun e i hei => ?_) fun _ _ => nofun
  · refine Function.update_of_ne (fun hed : e = d => ?_) _ _
    rw [hed, hown] at hen
    cases hen
  · by_cases hed : e = d
    · subst hed
      rw [Function.update_self] at hei
      exact .inr hei
    · rw [Function.update_of_ne hed] at hei
      exact .inl hei

theorem holdIfWanted_state (d : Nat) (s : State) (e : Nat) : ((holdIfWanted d s).dock e).state = (s.dock e).state := by
  unfold holdIfWanted
  split
  · split
    · rcases dock_modDock_or d (fun x => { x with vanHold := true }) s e with h | ⟨-, h⟩ <;> rw [h]
    · rfl
  · rfl

/-- A dock that is neither CLAIMED nor RELEASING, or is apart, becomes HELD with the bike of tag `T`; it stays apart until
R5 has been looked to. -/
theorem Inv.takeIn (h : Inv l w x none s) (hx : x = none ∨ x = some d) (hd : d < s.installed)
    (hq : (s.dock d).state ≠ .claimed ∨ x = some d) (hs : (s.dock d).state ≠ .releasing) (he : Elsewhere d T s)
    (kind : BikeKind) : Inv l w (some d) (foundId T) (takeIn d T kind s) ∧ ((takeIn d T kind s).dock d).state = .held := by
  have h64 := h.good.lt_docks hd
  have hin : Inv l w (some d) (foundId T) (setDock d { (s.dock d).settled .held (some (newBike T kind s.now)) with
      vanHold := false } s) := by
    refine h.enterBike hd ⟨fun hc => absurd hc.1 ?_, nofun⟩ (fun e hed => ⟨fun hde => ?_, fun hxe => ?_⟩) ?_ hs nofun nofun rfl
      rfl he
    · exact hq.elim id fun hxd => absurd hxd hc.2
    · exact absurd (Option.some.inj hde).symm hed
    · rcases hx with rfl | rfl
      · cases hxe
      · exact hxe
    · rw [Dock.Fits, if_pos rfl]
      exact ⟨rfl, rfl, .inr ⟨.inr rfl, rfl⟩⟩
  refine ⟨hin.keeps (hin.good.holdIfWanted d), ?_⟩
  unfold Machine.takeIn
  rw [holdIfWanted_state, dock_modDock_self h64]
  rfl

/-! ## R6 and R93 for a tag that was read or not -/

theorem foundId_of_ne (hT : T ≠ 0) : foundId T = some T := if_neg hT

theorem Inv.clearIfRead (h : Inv l w x y s) (hx : x = none ∨ x = some d) (T : Nat) :
    Inv l w x y (clearIfRead d T s) ∧ Spares d s (clearIfRead d T s) ∧ Elsewhere d T (clearIfRead d T s) := by
  unfold Machine.clearIfRead
  split
  · rename_i hT
    exact ⟨h, .refl d s, fun e _ i hi => by simp [foundId, hT] at hi⟩
  · rename_i hT
    obtain ⟨h1, h2, h3⟩ := h.clearElsewhere hx T
    refine ⟨h1, h2, fun e he i hi => ?_⟩
    rw [foundId_of_ne hT] at hi
    cases hi
    exact h3 e he

theorem Inv.closeIfRead (h : Inv l w x (foundId T) s) (d : Nat) : Inv l w x none (closeIfRead d T s) := by
  unfold Machine.closeIfRead
  split
  · rename_i hT
    subst hT
    exact h
  · rename_i hT
    rw [foundId_of_ne hT] at h
    exact h.closeBikeHire d

theorem closeHire_docks (r : Hire) (e : Nat) (p : Place) (s : State) : (closeHire r e p s).docks = s.docks := by
  unfold closeHire blockIfNegative
  dsimp only
  split
  · split
    · exact (enterRecord_docks _ _).trans (enterRecord_docks _ _)
    · exact enterRecord_docks _ _
  · exact enterRecord_docks _ _

theorem closeBikeHire_docks (b d : Nat) (s : State) : (closeBikeHire b d s).1.docks = s.docks := by
  unfold closeBikeHire
  split
  · exact closeHire_docks _ _ _ s
  · rfl

theorem closeIfRead_docks (d T : Nat) (s : State) : (closeIfRead d T s).docks = s.docks := by
  unfold closeIfRead
  split
  · rfl
  · exact closeBikeHire_docks T d s

theorem spares_giveBackSurplus (d : Nat) (s : State) : Spares d s (giveBackSurplus s) := by
  unfold giveBackSurplus
  split
  · split
    · split
      · rename_i e he
        exact spares_modDock _ fun hed => .inr ⟨hed ▸ .inr (mem_reservedDocks.mp (List.mem_of_getLast? he)).2.1, .inl rfl⟩
      · exact .refl d s
    · exact .refl d s
  · exact .refl d s

theorem spares_deliver (d e T : Nat) (s : State) : Spares d s (deliver e T s) :=
  (Spares.of_docks (delivered_docks e T s)).trans (spares_giveBackSurplus d _)

theorem riderReturn_tells (d T : Nat) (c : Option (Nat × Nat)) (s : State) : Tells s (riderReturn d T c s) := by
  unfold riderReturn
  split
  · exact raise_tells _ _
  · exact (enterRecord_tells _ _).trans (raise_tells _ _)

/-! ## Accepted arrivals -/

/-- The reservation that the pull of R6 may have put on the dock of a rider return is moved on (R111). -/
theorem Inv.reservationAside (h : Inv l w x y s) (hx : x = none ∨ x = some d) (delivery : Bool) :
    ∃ x', Inv l w x' y (reservationAside d delivery s) ∧ (x' = none ∨ x' = some d) ∧ (x' = none → x = none) ∧
      ((Machine.reservationAside d delivery s).dock d).state = (s.dock d).state ∧
      (Machine.reservationAside d delivery s).ids = s.ids := by
  unfold Machine.reservationAside
  split
  · rename_i hc
    simp only [Bool.and_eq_true, beq_iff_eq] at hc
    obtain rfl : x = none := hx.resolve_right fun hxd => by
      have := (hxd ▸ h.good : Good l (some d) s).apart.reserved
      simp [hc.2] at this
    obtain ⟨hk, hdock⟩ := h.good.moveReservation hc.1.2
    exact ⟨some d, h.keeps hk, .inr rfl, nofun, by rw [hdock], hk.ids⟩
  · exact ⟨x, h, hx, id, rfl, rfl⟩

/-- An arrival of a read tag is accepted at a dock that is neither CLAIMED nor RELEASING, or is apart (R56). -/
theorem Inv.acceptArrival (h : Inv l w x none s) (hx : x = none ∨ x = some d) (hd : d < s.installed)
    (hs : x = none → (s.dock d).state ≠ .claimed ∧ (s.dock d).state ≠ .releasing) (hT : T ≠ 0) (kind : BikeKind)
    (delivery : Bool) : Inv l w none none (acceptArrival d T kind delivery s) := by
  obtain ⟨h0, hspares, helse⟩ := h.clearElsewhere hx T
  obtain ⟨x1, h1, hx1, hnone, hstate, hids⟩ := h0.reservationAside hx delivery
  have hd1 : d < (Machine.reservationAside d delivery (Machine.clearElsewhere d T s)).installed := by
    rw [installed_acting.reservationAside, installed_acting.clearElsewhere]
    exact hd
  have hkept : x1 = none → ((Machine.clearElsewhere d T s).dock d).state ≠ .claimed ∧
      ((Machine.clearElsewhere d T s).dock d).state ≠ .releasing := fun hn => by
    obtain ⟨hc, hr⟩ := hs (hnone hn)
    rcases hspares with hs | ⟨-, hs | hs⟩
    · rw [hs]
      exact ⟨hc, hr⟩
    · simp [hs]
    · simp [hs]
  have hq : ((Machine.reservationAside d delivery (Machine.clearElsewhere d T s)).dock d).state ≠ .claimed ∨
      x1 = some d := by
    rcases hx1 with hx1 | hx1
    · rw [hstate]
      exact .inl (hkept hx1).1
    · exact .inr hx1
  have hr : ((Machine.reservationAside d delivery (Machine.clearElsewhere d T s)).dock d).state ≠ .releasing := by
    rcases hx1 with hx1 | rfl
    · rw [hstate]
      exact (hkept hx1).2
    · intro hr
      have := h1.good.apart.state
      simp [hr] at this
  obtain ⟨h2, hheld⟩ := h1.takeIn hx1 hd1 hq hr (fun e he i hi => by
    rw [foundId_of_ne hT] at hi
    cases hi
    rw [hids]
    exact helse e he) kind
  rw [foundId_of_ne hT] at h2
  rw [acceptArrival_eq]
  generalize Machine.takeIn d T kind _ = u at h2 hheld
  have h3 := h2.closeBikeHire d
  have hheld3 : ((Machine.closeBikeHire T d u).1.dock d).state = .held := by
    unfold State.dock
    rw [closeBikeHire_docks]
    exact hheld
  have h4 : Inv l w (some d) none (tellArrival d T delivery (Machine.closeBikeHire T d u)) ∧
      ((tellArrival d T delivery (Machine.closeBikeHire T d u)).dock d).state = .held := by
    unfold tellArrival
    split
    · rename_i hdel
      exact ⟨h3.deliver d T (Bool.and_eq_true_iff.mp hdel).2,
        ((spares_deliver d d T _).state (by simp [Dock.Free, hheld3])).trans hheld3⟩
    · have ht := riderReturn_tells d T (Machine.closeBikeHire T d u).2 (Machine.closeBikeHire T d u).1
      exact ⟨h3.calm (calm_tells ht), ((Spares.of_tells ht).state (by simp [Dock.Free, hheld3])).trans hheld3⟩
  obtain ⟨h4, hheld4⟩ := h4
  generalize tellArrival d T delivery _ = v at h4 hheld4
  have h5 : Inv l w (some d) none (senseArrival d kind v) ∧ ((senseArrival d kind v).dock d).state = .held := by
    have hdv : d < v.installed := h4.good.rest.lt_of_state (by simp [hheld4])
    unfold senseArrival
    split
    · have hstill := calm_placeSense hdv h4.good.rest
      exact ⟨h4.still hstill, (hstill.state d).trans hheld4⟩
    · exact ⟨h4, hheld4⟩
  exact h5.1.keeps (h5.1.good.applyPending_held h5.2)

/-- The last step of an act at a dock in an operation that has just begun (R5). -/
theorem Inv.applyPending (h : Inv l w none y s) (hd : d < s.installed) (hc : (s.dock d).state ≠ .claimed)
    (hs : (s.dock d).state ≠ .releasing) : Inv l w none y (applyPending d s) :=
  h.keeps (h.good.applyPending hd hc hs)

/-- A dock that is neither CLAIMED nor RELEASING, or is apart, enters identification (R59). -/
theorem Inv.enterLatching (h : Inv l w x y s) (hx : x = none ∨ x = some d) (hd : d < s.installed)
    (hq : (s.dock d).state ≠ .claimed ∨ x = some d) (hs : (s.dock d).state ≠ .releasing) :
    Inv l w none y (enterLatching d s) := by
  have hset : Settles d x none := by
    rcases hx with rfl | rfl
    · exact .plain
    · exact .apart
  have h1 : Inv l w none y (setDock d { (s.dock d).settled .latching (some (newBike 0 .standard s.now)) with
      vanHold := false } s) :=
    h.settle hset hd hq hs (by simp [Dock.agrees, Dock.settled, Dock.plain, newBike]) nofun nofun rfl rfl rfl
  have hstill := calm_tryReread (s := setDock d _ s) hd h1.good.rest
  have hstate := (hstill.state d).trans (congrArg Dock.state (dock_setDock_self (h.good.lt_docks hd) _ s))
  refine (h1.still hstill).applyPending (hstill.installed ▸ hd) ?_ ?_
  · rw [hstate]
    exact nofun
  · rw [hstate]
    exact nofun

/-- A dock that is neither CLAIMED nor RELEASING, or is apart, refuses an arrival (R57). -/
theorem Inv.refuseArrival (h : Inv l w x y s) (hx : x = none ∨ x = some d) (hd : d < s.installed)
    (hq : (s.dock d).state ≠ .claimed ∨ x = some d) (hs : (s.dock d).state ≠ .releasing) :
    Inv l w none y (refuseArrival d s) := by
  have hset : Settles d x none := by
    rcases hx with rfl | rfl
    · exact .plain
    · exact .apart
  have hstill := calm_placeLock ownReject hd h.good.rest
  have hd1 : d < (placeLock ownReject d s).installed := hstill.installed ▸ hd
  have h64 := h.good.lt_docks hd
  have h1 := (h.still hstill).settle (k := { ((placeLock ownReject d s).dock d).settled .ejecting none with
      vanHold := false, phase := some .rejecting }) hset hd1
    (by rw [hstill.state]; exact hq) (by rw [hstill.state]; exact hs)
    (by simp [Dock.agrees, Dock.settled, Dock.plain]) nofun nofun rfl rfl rfl
  have h2 := h1.calm (calm_raise (.returnRefused d) _)
  refine h2.applyPending (by rw [raise_installed]; exact hd1) ?_ ?_
  · rw [raise_dock, dock_setDock_self h64]
    exact nofun
  · rw [raise_dock, dock_setDock_self h64]
    exact nofun

/-- A RESERVED dock that an arrival takes its reservation from is apart until the arrival is dealt with (R54, R111). -/
theorem Inv.reservationLost (h : Inv l w none y s) (d : Nat) :
    ∃ x', Inv l w x' y (reservationLost d s) ∧ (x' = none ∨ x' = some d) ∧
      ((Machine.reservationLost d s).dock d).state = (s.dock d).state := by
  unfold Machine.reservationLost
  split
  · rename_i hs
    obtain ⟨hk, hdock⟩ := h.good.moveReservation hs
    exact ⟨some d, h.keeps hk, .inr rfl, by rw [hdock]⟩
  · exact ⟨none, h, .inl rfl, rfl⟩

theorem isDelivery_tag (h : isDelivery d T s = true) : T ≠ 0 := by
  unfold isDelivery at h
  split at h
  · simp only [Bool.and_eq_true, bne_iff_ne] at h
    exact h.1.1.2
  · cases h

/-- An arrival at a dock that is free for it (R54). -/
theorem Inv.arriveFree (h : Inv l w none none s) (hd : d < s.installed) (hc : (s.dock d).state ≠ .claimed)
    (hs : (s.dock d).state ≠ .releasing) (T : Nat) (kind : BikeKind) : Inv l w none none (arriveFree d T kind s) := by
  obtain ⟨x1, h1, hx1, hstate⟩ := h.reservationLost d
  have hd1 : d < (Machine.reservationLost d s).installed := by
    rw [installed_acting.reservationLost]
    exact hd
  have hc1 : ((Machine.reservationLost d s).dock d).state ≠ .claimed := hstate ▸ hc
  have hs1 : ((Machine.reservationLost d s).dock d).state ≠ .releasing := hstate ▸ hs
  rw [arriveFree_eq]
  refine .ite _ (fun hdel => h.acceptArrival (.inl rfl) hd (fun _ => ⟨hc, hs⟩) (isDelivery_tag hdel) kind true) fun _ => ?_
  refine .ite _ (fun _ => .ite _ (fun _ => h1.enterLatching hx1 hd1 (.inl hc1) hs1) fun hT => ?_) fun _ =>
    h1.refuseArrival hx1 hd1 (.inl hc1) hs1
  exact h1.acceptArrival hx1 hd1 (fun _ => ⟨hc1, hs1⟩) hT kind false

/-! ## Identification -/

/-- Identification ends with a tag (R60). -/
theorem Inv.identified (h : Inv l w none none s) (hs : (s.dock d).state = .latching) (hT : T ≠ 0) (kind : BikeKind) :
    Inv l w none none (identified d T kind s) := by
  obtain ⟨hstill, -, hstate⟩ := h.good.endOperation d
  have hs1 := (hstate d).trans hs
  exact (h.still hstill).acceptArrival (.inl rfl) (hstill.rest.lt_of_state (by simp [hs1]))
    (fun _ => by simp [hs1]) hT kind _

/-- An operation at a dock that releases for no hire ends with it VACANT, or RETIRED through R5. -/
theorem Inv.becomeVacant (h : Inv l w x y s) (hx : Settles d x x') (hd : d < s.installed)
    (hq : (s.dock d).state ≠ .claimed ∨ x = some d) (hs : (s.dock d).state ≠ .releasing) :
    Inv l w x' y (becomeVacant d s) := by
  have hown : s.owners d = none := h.good.owner_none hs
  exact h.acts (h.good.becomeVacant hx hd hq) fun _ hh => hh.vacate (by simp [hown])

/-- The same with HELD. -/
theorem Inv.becomeHeld (h : Inv l w x y s) (hx : Settles d x x') (hd : d < s.installed)
    (hq : (s.dock d).state ≠ .claimed ∨ x = some d) (hs : (s.dock d).state ≠ .releasing)
    (hb : (s.dock d).bike.isSome = true) : Inv l w x' y (becomeHeld d s) := by
  have hown : s.owners d = none := h.good.owner_none hs
  exact h.acts (h.good.becomeHeld hx hd hq hb) fun _ hh => hh.disown (by simp [hown])

/-- A LATCHING or EJECTING dock ends its operation VACANT, or RETIRED through R5. -/
theorem Inv.operationVacant (h : Inv l w none y s) (hs : (s.dock d).state = .latching ∨ (s.dock d).state = .ejecting) :
    Inv l w none y (Machine.becomeVacant d (endOperation d s)) := by
  obtain ⟨hstill, -, hstate⟩ := h.good.endOperation d
  have hne : ((Machine.endOperation d s).dock d).state = .latching ∨ ((Machine.endOperation d s).dock d).state = .ejecting := by
    rwa [hstate]
  exact (h.still hstill).becomeVacant .plain (hstill.rest.lt_of_state (by rcases hne with hs | hs <;> simp [hs]))
    (.inl (by rcases hne with hs | hs <;> simp [hs])) (by rcases hne with hs | hs <;> simp [hs])

/-- A LATCHING dock has an unidentified bike (R4). -/
theorem Good.latching_bike (h : Good l none s) (hs : (s.dock d).state = .latching) : (s.dock d).bike.isSome = true := by
  have ha := h.agrees (d := d) nofun
  simp only [Dock.agrees, hs, Bool.and_eq_true, Option.any_eq_true] at ha
  obtain ⟨-, b, hb, -⟩ := ha
  simp [hb]

/-- Identification ends with no tag (R60). -/
theorem Inv.unidentified (h : Inv l w none y s) (hs : (s.dock d).state = .latching) :
    Inv l w none y (unidentified d s) := by
  obtain ⟨hstill, hg, hstate⟩ := h.good.endOperation d
  have hs1 := (hstate d).trans hs
  have hd1 := hstill.rest.lt_of_state (d := d) (by simp [hs1])
  have h1 := (h.still hstill).becomeHeld .plain hd1 (.inl (by simp [hs1])) (by simp [hs1]) (hg.latching_bike hs1)
  refine (h1.reportDock .tagUnreadable false .plain ?_ (.inl rfl)).calm (calm_enterRecord _ _)
  rw [installed_acting.becomeHeld]
  exact hd1

theorem Inv.rereadUnread (h : Inv l w none y s) (hs : (s.dock d).state = .latching) :
    Inv l w none y (rereadUnread d s) := by
  unfold Machine.rereadUnread
  exact .ite _ (fun _ => h.unidentified hs) fun _ => h.calm (calm_tryReread (h.good.rest.lt_of_state (by simp [hs])))

/-- INSERTED with no tag at a LATCHING dock (R60). -/
theorem Inv.restartIdentification (h : Inv l w none y s) (hs : (s.dock d).state = .latching) :
    Inv l w none y (restartIdentification d s) := by
  have hd := h.good.rest.lt_of_state (d := d) (by simp [hs])
  have hcalm : Calm s (if rereadInHand d s then modDock d (fun k => { k with identRetries := 1, rereadAgain := false }) s
      else tryReread d (modDock d (fun k => { k with identRetries := 0, rereadAgain := false }) s)) := by
    refine .ite _ (fun _ => calm_modDock hd ⟨rfl, rfl, rfl, rfl, rfl, .inl rfl⟩) fun _ =>
      Calm.trans ?_ (calm_tryReread (s := modDock d _ s) hd)
    exact calm_modDock hd ⟨rfl, rfl, rfl, rfl, rfl, .inl rfl⟩
  have hstill := hcalm h.good.rest
  have hs1 := (hstill.state d).trans hs
  exact (h.still hstill).applyPending (hstill.installed ▸ hd) (by rw [hs1]; nofun) (by rw [hs1]; nofun)

end

end Sys2Proof.Machine
end

section
/-! PROOFS. Mismatches, resolutions, removals and the comparison of the Patrol Unit keep the laws (R55, R58, R61, R62,
R141 to R143, R148, R149). -/

namespace Sys2Proof.Machine

section
variable {l w : Bool} {x y : Option Nat} {s : State} {d T : Nat}

/-! ## Mismatches -/

theorem enterRetired_state (hd : d < Config.docks) (s : State) : ((enterRetired d s).dock d).state = .retired := by
  have h := Spares.of_busOnly (d := d) (enterRetired_busOnly d s)
  rw [Spares.state h (by simp [Dock.Free, dock_setDock_self hd]), raise_dock, enterRecord_dock, dock_setDock_self hd]

theorem becomeHeld_state (hd : d < Config.docks) (s : State) :
    ((becomeHeld d s).dock d).state = .held ∨ ((becomeHeld d s).dock d).state = .retired := by
  unfold becomeHeld
  split
  · exact .inr (enterRetired_state hd s)
  · refine .inl ?_
    rw [holdIfWanted_state, dock_modDock_self hd]
    rfl

/-- A dock whose authorization has been refused is HELD, or RETIRED through R5 (R55, R141). -/
theorem Good.refuseClaim_state (h : Good l none s) (hs : (s.dock d).state = .claimed) :
    ((refuseClaim d s).dock d).state = .held ∨ ((refuseClaim d s).dock d).state = .retired := by
  obtain ⟨e, he, -, rfl⟩ := h.authAt hs
  have h64 := h.lt_docks (h.rest.lt_of_state (d := e.dock) (by simp [hs]))
  unfold refuseClaim
  rw [he]
  unfold endAuth
  dsimp only
  rw [raise_dock]
  exact becomeHeld_state h64 _

/-- A HELD or RETIRED dock has another bike than the one recorded (R55). -/
theorem Inv.replaceBike (h : Inv l w none none s) (hs : (s.dock d).state = .held ∨ (s.dock d).state = .retired)
    (hT : T ≠ 0) (kind : BikeKind) : Inv l w none none (replaceBike d T kind s) := by
  obtain ⟨h1, hspares, helse⟩ := h.clearElsewhere (.inl rfl) T
  have hs1 : ((Machine.clearElsewhere d T s).dock d).state = .held ∨
      ((Machine.clearElsewhere d T s).dock d).state = .retired := by
    rw [hspares.state (by rcases hs with hs | hs <;> simp [Dock.Free, hs])]
    exact hs
  unfold Machine.replaceBike
  dsimp only
  generalize Machine.clearElsewhere d T s = u at h1 hs1 helse
  have hd : d < u.installed := h1.good.rest.lt_of_state (by rcases hs1 with hs | hs <;> simp [hs])
  have ha := h1.good.agrees (d := d) nofun
  have hn : (u.dock d).state ≠ .releasing := by rcases hs1 with hs | hs <;> simp [hs]
  have hin : Inv l w none (foundId T)
      (modDock d (fun k => { k with bike := some (newBike T kind u.now), vanHold := false }) u) := by
    refine h1.enterBike (k := { u.dock d with bike := some (newBike T kind u.now), vanHold := false }) hd .rfl
      (fun _ _ => .rfl) ?_ hn (fun ht => ht) nofun (h1.good.owner_none hn) rfl fun e he i hi => ?_
    · rw [Dock.Fits, if_neg nofun]
      rcases hs1 with hs | hs <;> simp_all [Dock.agrees, Dock.plain]
    · rw [foundId_of_ne hT] at hi
      cases hi
      exact helse e he
  rw [foundId_of_ne hT] at hin
  have hheld := (hin.keeps (hin.good.holdIfWanted d)).calm (calm_enterRecord (.auditMismatch d (recordedId (s.dock d)) (some T)) _)
  have hreport := hheld.reportDock (d := d) .auditMismatch false .plain (by
    rw [enterRecord_installed, installed_acting.holdIfWanted]
    exact hd) (.inl rfl)
  have hclosed := hreport.closeBikeHire d
  unfold tellReturn
  split
  · rename_i hx
    rw [hx] at hclosed
    exact hclosed.calm (calm_raise _ _)
  · rename_i hx
    rw [hx] at hclosed
    exact hclosed

theorem Inv.mismatch (h : Inv l w none none s) (hs : (s.dock d).state = .held ∨ (s.dock d).state = .claimed) (hT : T ≠ 0)
    (kind : BikeKind) : Inv l w none none (mismatch d T kind s) := by
  unfold Machine.mismatch
  split
  · rename_i hc
    exact (h.refuseClaim hc).replaceBike (h.good.refuseClaim_state hc) hT kind
  · rename_i hc
    exact h.replaceBike (.inl (hs.resolve_right hc)) hT kind

/-- A RETIRED dock whose stranded bike has gone (R58, R62). -/
theorem Inv.strandedOut (h : Inv l w none y s) (hs : (s.dock d).state = .retired) :
    Inv l w none y (modDock d (fun k => { k with bike := none }) s) := by
  have ha := h.good.agrees (d := d) nofun
  refine h.settle .plain (h.good.rest.lt_of_state (by simp [hs])) (.inl (by simp [hs])) (by simp [hs])
    ?_ (by simp [hs]) (by simp [hs]) ?_ (h.good.owner_none (by simp [hs])) rfl
  · simp_all [Dock.agrees, Dock.plain]
  · simp_all [Dock.agrees, Dock.plain]

theorem Inv.strandedGone (h : Inv l w none y s) (hs : (s.dock d).state = .retired) : Inv l w none y (strandedGone d s) := by
  unfold Machine.strandedGone
  split
  · exact (h.strandedOut hs).calm (calm_enterRecord _ _)
  · exact h

theorem Inv.arriveRetired (h : Inv l w none y s) (hs : (s.dock d).state = .retired) (T : Nat) :
    Inv l w none y (arriveRetired d T s) := by
  have hstill := (calm_placeLock retiredReject (h.good.rest.lt_of_state (d := d) (by simp [hs]))).trans
    (calm_raise (.returnRefused d) _) h.good.rest
  have h1 := h.still hstill
  unfold Machine.arriveRetired
  dsimp only
  refine .ite _ (fun _ => h) fun _ => ?_
  split
  · exact (h1.strandedOut ((hstill.state d).trans hs)).calm (calm_enterRecord _ _)
  · exact h1

/-! ## Resolutions -/

/-- At a READY station no STARTING hire names a dock that is not RELEASING (R83). -/
theorem Inv.not_whole (h : Inv l w x y s) (hs : (s.dock d).state ≠ .releasing) {r : Hire}
    (hr : startingHireAt d s = some r) : w ≠ true := by
  intro hw
  have htest := List.find?_some hr
  simp only [Bool.and_eq_true, beq_iff_eq] at htest
  obtain ⟨c, hfrom, -, hown⟩ := (h.whole hw).hiring.starting r (List.mem_of_find?_eq_some hr) htest.1
  rw [htest.2] at hfrom
  cases hfrom
  have hnone : s.owners d = none := h.good.owner_none hs
  have := (hown d).mpr rfl
  rw [hnone] at this
  cases this

theorem Inv.cancelStarting (h : Inv l w x y s) (hs : (s.dock d).state ≠ .releasing) {r : Hire}
    (hr : startingHireAt d s = some r) : Inv l w x y (cancelHire r s) :=
  ⟨h.good.money _ _ _, fun hw => absurd hw (h.not_whole hs hr)⟩

theorem Inv.startAtAudit (h : Inv l w x y s) (hs : (s.dock d).state ≠ .releasing) {r : Hire}
    (hr : startingHireAt d s = some r) : Inv l w x y (startAtAudit r d s) := by
  have h1 : Inv l w x y (hireOut r.number s) := ⟨h.good.money _ _ _, fun hw => absurd hw (h.not_whole hs hr)⟩
  exact h1.calm (calm_enterRecord _ _)

theorem Inv.startedWhenGone (h : Inv l w x y s) (hs : (s.dock d).state ≠ .releasing) :
    Inv l w x y (startedWhenGone d s) := by
  unfold Machine.startedWhenGone
  split
  · exact h.startAtAudit hs ‹_›
  · exact h

theorem Inv.hireWhenFound (h : Inv l w x y s) (hs : (s.dock d).state ≠ .releasing) (f : Found) :
    Inv l w x y (hireWhenFound d f s) := by
  unfold Machine.hireWhenFound
  split
  · exact .ite _ (fun _ => h.cancelStarting hs ‹_›) fun _ => h.startAtAudit hs ‹_›
  · exact h

theorem Inv.hireWhenGone (h : Inv l w x y s) (hs : (s.dock d).state ≠ .releasing) : Inv l w x y (hireWhenGone d s) := by
  unfold Machine.hireWhenGone
  split
  · exact h.cancelStarting hs ‹_›
  · exact h

theorem startAtAudit_docks (r : Hire) (d : Nat) (s : State) : (startAtAudit r d s).docks = s.docks := enterRecord_docks _ _

theorem startedWhenGone_docks (d : Nat) (s : State) : (startedWhenGone d s).docks = s.docks := by
  unfold startedWhenGone
  split
  · exact startAtAudit_docks _ d s
  · rfl

theorem hireWhenFound_docks (d : Nat) (f : Found) (s : State) : (hireWhenFound d f s).docks = s.docks := by
  unfold hireWhenFound
  split
  · split
    · rfl
    · exact startAtAudit_docks _ d s
  · rfl

theorem hireWhenGone_docks (d : Nat) (s : State) : (hireWhenGone d s).docks = s.docks := by
  unfold hireWhenGone
  split <;> rfl

theorem startedWhenGone_installed (d : Nat) (s : State) : (startedWhenGone d s).installed = s.installed := by
  unfold startedWhenGone
  split
  · exact installed_acting.startAtAudit _ d s
  · rfl

theorem hireWhenFound_installed (d : Nat) (f : Found) (s : State) : (hireWhenFound d f s).installed = s.installed := by
  unfold hireWhenFound
  split
  · split
    · rfl
    · exact installed_acting.startAtAudit _ d s
  · rfl

theorem hireWhenGone_installed (d : Nat) (s : State) : (hireWhenGone d s).installed = s.installed := by
  unfold hireWhenGone
  split <;> rfl

theorem lockIfOpen_installed (d : Nat) (f : Found) (s : State) : (lockIfOpen d f s).installed = s.installed := by
  unfold lockIfOpen
  split
  · rfl
  · exact installed_acting.placeLock patrolLock d s

/-- After a resolution R5 retires the dock, or the threshold of R130 does. -/
theorem Inv.afterResolution (h : Inv l w none y s) (hd : d < s.installed) (hc : (s.dock d).state ≠ .claimed)
    (hs : (s.dock d).state ≠ .releasing) : Inv l w none y (afterResolution d s) := by
  unfold Machine.afterResolution
  refine .ite _ (fun _ => h.keeps (h.good.enterRetired_keeps .plain hd (.inl hc) hs)) fun _ => .ite _ (fun _ => ?_) fun _ => h
  exact h.keeps (h.good.retireAtThreshold .plain (.inl rfl))

theorem Inv.afterResolution_held (h : Inv l w (some d) y s) (hs : (s.dock d).state = .held) :
    Inv l w none y (Machine.afterResolution d s) := by
  unfold Machine.afterResolution
  split
  · exact h.keeps (h.good.enterRetired_keeps .apart (h.good.rest.lt_of_state (by simp [hs])) (.inr rfl) (by simp [hs]))
  · rename_i hp
    have hk := h.keeps (h.good.rejoin hs (by simpa using hp))
    exact .ite _ (fun _ => hk.keeps (hk.good.retireAtThreshold .plain (.inl rfl))) fun _ => hk

/-- A dock retired from the record of an empty one is the dock retired with no bike. -/
theorem enterRetired_emptied (hd : d < Config.docks) (s : State) :
    enterRetired d (modDock d (fun k => { k.settled .vacant none with vanHold := false }) s) = enterRetiredEmpty d s := by
  unfold enterRetiredEmpty enterRetired
  dsimp only
  rw [modDock_modDock hd, modDock_modDock hd, dock_modDock_self hd, dock_modDock_self hd]
  rfl

/-- An UNVERIFIED dock reports no bike (R148). -/
theorem Inv.resolveEmpty (h : Inv l w none y s) (hs : (s.dock d).state = .unverified) (hd : d < s.installed) :
    Inv l w none y (resolveEmpty d s) := by
  have h1 := h.startedWhenGone (d := d) (by simp [hs])
  have hdock : (Machine.startedWhenGone d s).dock d = s.dock d := by
    unfold State.dock
    rw [startedWhenGone_docks]
  have hd1 : d < (Machine.startedWhenGone d s).installed := by
    rw [startedWhenGone_installed]
    exact hd
  rw [← hdock] at hs
  rw [resolveEmpty_eq]
  generalize Machine.startedWhenGone d s = u at *
  have h64 := h1.good.lt_docks hd1
  have hself := dock_modDock_self h64 (fun k => { k.settled .vacant none with vanHold := false }) u
  unfold resolvedEmpty
  dsimp only
  split
  · rename_i hp
    unfold Machine.afterResolution
    rw [if_pos hp, enterRetired_emptied h64]
    have hown : u.owners d = none := h1.good.owner_none (by simp [hs])
    exact h1.acts (h1.good.enterRetiredEmpty .plain hd1 (.inl (by simp [hs]))) fun _ hh => hh.vacate (by simp [hown])
  · rename_i hp
    have hpending : (u.dock d).retirePending = false := by
      rw [hself] at hp
      simpa [Dock.settled] using hp
    have h2 : Inv l w none y (modDock d (fun k => { k.settled .vacant none with vanHold := false }) u) :=
      h1.settle .plain hd1 (.inl (by simp [hs])) (by simp [hs])
        (by simp [Dock.agrees, Dock.settled, Dock.plain, hpending]) nofun nofun rfl rfl rfl
    have hfree : ((topUp (modDock d (fun k => { k.settled .vacant none with vanHold := false }) u)).dock d).Free := by
      have hvacant : ((modDock d (fun k => { k.settled .vacant none with vanHold := false }) u).dock d).state = .vacant := by
        rw [hself]
        rfl
      rcases spares_topUp d (modDock d (fun k => { k.settled .vacant none with vanHold := false }) u) with ht | ht
      · exact .inl (ht.trans hvacant)
      · exact ht.2
    refine (h2.keeps h2.good.topUp).afterResolution ?_ ?_ ?_
    · rw [installed_acting.topUp]
      exact hd1
    · rcases hfree with hf | hf <;> simp [hf]
    · rcases hfree with hf | hf <;> simp [hf]

/-- An UNVERIFIED dock reports a bike (R148). -/
theorem Inv.resolveFound (h : Inv l w none none s) (hs : (s.dock d).state = .unverified) (hd : d < s.installed) (f : Found) :
    Inv l w none none (resolveFound d f s) := by
  have h1 := h.hireWhenFound (d := d) (by simp [hs]) f
  have hs1 : ((Machine.hireWhenFound d f s).dock d).state = .unverified := by
    unfold State.dock
    rw [hireWhenFound_docks]
    exact hs
  obtain ⟨h2, hspares, helse⟩ := h1.clearIfRead (d := d) (.inl rfl) f.tag
  have hs2 := (hspares.state (by simp [Dock.Free, hs1])).trans hs1
  have hd2 : d < (Machine.clearIfRead d f.tag (Machine.hireWhenFound d f s)).installed := by
    rw [installed_acting.clearIfRead, hireWhenFound_installed]
    exact hd
  obtain ⟨h3, hheld⟩ := h2.takeIn (.inl rfl) hd2 (.inl (by simp [hs2])) (by simp [hs2]) helse f.kind
  rw [resolveFound_eq]
  generalize Machine.takeIn d f.tag f.kind _ = u at h3 hheld
  have h4 := h3.closeIfRead d
  have hheld4 : ((Machine.closeIfRead d f.tag u).dock d).state = .held := by
    unfold State.dock
    rw [closeIfRead_docks]
    exact hheld
  generalize Machine.closeIfRead d f.tag u = v at h4 hheld4
  have hdv : d < v.installed := h4.good.rest.lt_of_state (by simp [hheld4])
  have hlock : Calm v (lockIfOpen d f v) := by
    unfold lockIfOpen
    exact .ite _ (fun _ => .refl v) fun _ => calm_placeLock patrolLock hdv
  have hstill := hlock.trans (.given fun hr => calm_senseCheck (d := d) (by
    rw [lockIfOpen_installed]
    exact hdv)) h4.good.rest
  exact (h4.still hstill).afterResolution_held ((hstill.state d).trans hheld4)

theorem Inv.resolve (h : Inv l w none none s) (hs : (s.dock d).state = .unverified) (hd : d < s.installed)
    (found : Option Found) : Inv l w none none (resolve d found s) := by
  cases found with
  | some f => exact h.resolveFound hs hd f
  | none => exact h.resolveEmpty hs hd

/-- An UNVERIFIED dock that is silent is RETIRED (R148). -/
theorem Inv.resolveSilent (h : Inv l w none y s) (hs : (s.dock d).state = .unverified) (hd : d < s.installed) :
    Inv l w none y (resolveSilent d s) := by
  have h1 := h.hireWhenGone (d := d) (by simp [hs])
  have hs1 : ((Machine.hireWhenGone d s).dock d).state = .unverified := by
    unfold State.dock
    rw [hireWhenGone_docks]
    exact hs
  have hd1 : d < (Machine.hireWhenGone d s).installed := by
    rw [hireWhenGone_installed]
    exact hd
  have hown : (Machine.hireWhenGone d s).owners d = none := h1.good.owner_none (by simp [hs1])
  rw [resolveSilent_eq]
  exact h1.acts (h1.good.enterRetiredEmpty .plain hd1 (.inl (by simp [hs1]))) fun _ hh => hh.vacate (by simp [hown])

theorem Inv.resolveByEvent (h : Inv l w none none s) (hs : (s.dock d).state = .unverified) (hd : d < s.installed)
    (found : Option Found) : Inv l w none none (resolveByEvent d found s) :=
  ((h.resolve hs hd found).calm (calm_leaveToDo d _)).calm (calm_auditEnd _)

/-! ## Arrivals -/

/-- An arrival at a dock in any state but RELEASING (R54). -/
theorem Inv.arriveSettled (h : Inv l w none none s) (hd : d < s.installed) (T : Nat) (kind : BikeKind) :
    Inv l w none none (arriveSettled d T kind s) := by
  unfold Machine.arriveSettled
  split
  case h_1 hs => exact h.arriveFree hd (by simp [hs]) (by simp [hs]) T kind
  case h_2 hs => exact h.arriveFree hd (by simp [hs]) (by simp [hs]) T kind
  case h_3 hs =>
    have hstill := Calm.trans (t := modDock d (fun k => { k with window := none }) s)
      (calm_modDock hd ⟨rfl, rfl, rfl, rfl, rfl, .inl rfl⟩) (calm_endOperation d _) h.good.rest
    have hs1 := (hstill.state d).trans hs
    exact (h.still hstill).arriveFree (hstill.installed ▸ hd) (by rw [hs1]; nofun) (by rw [hs1]; nofun) T kind
  case h_4 hs => exact .ite _ (fun _ => h.restartIdentification hs) fun hT => h.identified hs hT kind
  case h_5 hs => exact .ite _ (fun _ => h) fun hT => h.mismatch (.inl hs) (fun h0 => hT (.inl h0)) kind
  case h_6 hs => exact .ite _ (fun _ => h) fun hT => h.mismatch (.inr hs) (fun h0 => hT (.inl h0)) kind
  case h_7 hs => exact h.arriveRetired hs T
  case h_8 hs => exact h.resolveByEvent hs hd _
  case h_9 => exact h

/-- An arrival at a dock (R53, R54). -/
theorem Inv.arrive (h : Inv l w none none s) (hd : d < s.installed) (T : Nat) (kind : BikeKind) :
    Inv l w none none (arrive d T kind s) := by
  unfold Machine.arrive
  split
  · rename_i hs
    unfold arriveReleasing
    refine .ite _ (fun _ => .ite _ (fun _ => h) fun _ => h.lapse hs) fun _ => (h.pull hs).arriveSettled ?_ T kind
    rw [installed_acting.pull]
    exact hd
  · exact h.arriveSettled hd T kind

/-! ## Removals -/

theorem Inv.forcedRemoval (h : Inv l w none y s) (hs : (s.dock d).state = .held ∨ (s.dock d).state = .claimed) :
    Inv l w none y (forcedRemoval d s) := by
  have hd : d < s.installed := h.good.rest.lt_of_state (by rcases hs with hs | hs <;> simp [hs])
  have hvacant : Inv l w none y (Machine.becomeVacant d
      (if (s.dock d).state = .claimed then Machine.refuseClaimRemoved d s else s)) := by
    split
    · rename_i hc
      have h1 := h.refuseClaimRemoved hc
      have hdock : ((Machine.refuseClaimRemoved d s).dock d).state ≠ .releasing := by
        obtain ⟨e, he, -⟩ := h.good.authAt hc
        unfold Machine.refuseClaimRemoved
        rw [he]
        dsimp only
        rw [raise_dock]
        have : (s.dock d).state ≠ .releasing := by simp [hc]
        exact this
      exact h1.becomeVacant .apart (by rw [installed_acting.refuseClaimRemoved]; exact hd) (.inr rfl) hdock
    · rename_i hc
      have hh := hs.resolve_right hc
      exact h.becomeVacant .plain hd (.inl hc) (by simp [hh])
  unfold Machine.forcedRemoval
  dsimp only
  refine (hvacant.calm (calm_enterRecord _ _)).reportDock .lockFault true .plain ?_ (.inl rfl)
  rw [enterRecord_installed, installed_acting.becomeVacant]
  split
  · rw [installed_acting.refuseClaimRemoved]
    exact hd
  · exact hd

/-- A REMOVED event at a dock (R53, R57, R60, R61, R62). -/
theorem Inv.bikeRemoved (h : Inv l w none none s) (hd : d < s.installed) : Inv l w none none (bikeRemoved d s) := by
  unfold Machine.bikeRemoved
  split
  case h_1 => exact h
  case h_2 => exact h
  case h_3 hs => exact h.operationVacant (.inl hs)
  case h_4 hs => exact h.forcedRemoval (.inl hs)
  case h_5 hs => exact h.forcedRemoval (.inr hs)
  case h_6 hs => exact h.pull hs
  case h_7 hs => exact h.operationVacant (.inr hs)
  case h_8 hs => exact h.strandedGone hs
  case h_9 hs => exact h.resolveByEvent hs hd none

/-! ## The comparison of the Patrol Unit -/

theorem Inv.compareFree (h : Inv l w none none s) (hd : d < s.installed) (f : Found) :
    Inv l w none none (compareFree d f s) := by
  refine Inv.reportDock (Inv.arrive (h.calm (calm_enterRecord _ _)) ?_ f.tag f.kind) .auditMismatch false .plain ?_ (.inl rfl)
  · rw [enterRecord_installed]
    exact hd
  · rw [installed_acting.arrive, enterRecord_installed]
    exact hd

theorem Inv.compareGone (h : Inv l w none y s) (hs : (s.dock d).state = .held) : Inv l w none y (compareGone d s) := by
  have hd : d < s.installed := h.good.rest.lt_of_state (by simp [hs])
  have h1 := h.calm (calm_enterRecord (.bikeMissing ((recordedId (s.dock d)).getD 0) d) s)
  refine (h1.becomeVacant (d := d) .plain ?_ (.inl ?_) ?_).reportDock .auditMismatch false .plain ?_ (.inl rfl)
  · rw [enterRecord_installed]
    exact hd
  · rw [enterRecord_dock, hs]
    exact nofun
  · rw [enterRecord_dock, hs]
    exact nofun
  · rw [installed_acting.becomeVacant, enterRecord_installed]
    exact hd

theorem Inv.compareClaimGone (h : Inv l w none y s) (hs : (s.dock d).state = .claimed) :
    Inv l w none y (compareClaimGone d s) := by
  have h1 := h.refuseClaim hs
  have hstate := h.good.refuseClaim_state hs
  unfold Machine.compareClaimGone
  exact .ite _ (fun hr => h1.strandedGone hr) fun hr => h1.compareGone (hstate.resolve_right hr)

theorem Inv.compareRetired (h : Inv l w none none s) (hs : (s.dock d).state = .retired) (f : Found) :
    Inv l w none none (compareRetired d f s) := by
  obtain ⟨h1, hspares, helse⟩ := h.clearIfRead (d := d) (.inl rfl) f.tag
  have hs1 := (hspares.state (by simp [Dock.Free, hs])).trans hs
  show Inv l w none none (Machine.closeIfRead d f.tag (enterRecord (.auditMismatch d (recordedId (s.dock d)) (foundId f.tag))
    (modDock d (fun k => { k with bike := some (newBike f.tag f.kind (Machine.clearIfRead d f.tag s).now) })
      (Machine.clearIfRead d f.tag s))))
  generalize Machine.clearIfRead d f.tag s = u at *
  have hd : d < u.installed := h1.good.rest.lt_of_state (by simp [hs1])
  have ha := h1.good.agrees (d := d) nofun
  have hin : Inv l w none (foundId f.tag) (setDock d { u.dock d with bike := some (newBike f.tag f.kind u.now) } u) := by
    refine h1.enterBike hd .rfl (fun _ _ => .rfl) ?_ (by simp [hs1]) (fun ht => ht) (h1.good.vans d)
      (h1.good.owner_none (by simp [hs1])) rfl helse
    rw [Dock.Fits, if_neg nofun]
    simp_all [Dock.agrees, Dock.plain]
  exact (hin.calm (calm_enterRecord _ _)).closeIfRead d

theorem agrees_tag {k : Dock} {f : Found} (h : ¬ agrees k f = true) : f.tag ≠ 0 := by
  intro h0
  simp [agrees, h0] at h

theorem Inv.compareRow (h : Inv l w none none s) (hd : d < s.installed) (found : Option Found) :
    Inv l w none none (compareRow d found s).1 := by
  unfold Machine.compareRow
  split
  case h_1 => exact h
  case h_2 => exact h
  case h_3 => exact h.compareFree hd _
  case h_4 => exact h.compareFree hd _
  case h_5 hs => exact h.compareGone hs
  case h_6 hs => exact h.compareClaimGone hs
  case h_7 hs =>
    split
    · exact h
    · exact h.mismatch (.inl hs) (agrees_tag ‹_›) _
  case h_8 hs =>
    split
    · exact h
    · exact h.mismatch (.inr hs) (agrees_tag ‹_›) _
  case h_9 hs =>
    split
    · exact h.strandedGone hs
    · exact h
  case h_10 hs =>
    split
    · exact h
    · exact h.compareRetired hs _
  case h_11 => exact h
  case h_12 => exact h
  case h_13 => exact h
  case h_14 => exact h

/-- A STATUS reply compared with the dock record (R141, R142, R150). -/
theorem Inv.compare (h : Inv l w none none s) (hd : d < s.installed) (found : Option Found) :
    Inv l w none none (compare d found s).1 := by
  have h1 := h.compareRow hd found
  have hd1 : d < (Machine.compareRow d found s).1.installed := by
    rw [installed_acting.compareRow]
    exact hd
  unfold Machine.compare afterRow
  split
  · split
    · exact (h1.calm (calm_placeLock patrolLock hd1)).calm (calm_senseCheck (by
        rw [installed_acting.placeLock]
        exact hd1))
    · exact h1.calm (calm_senseCheck hd1)
  · exact h1

theorem Inv.compareLock (h : Inv l w none none s) (hd : d < s.installed) (found : Option Found) :
    Inv l w none none (compareLock d found s) := by
  unfold Machine.compareLock
  exact .ite _ (fun _ => h) fun _ => h.compare hd found

theorem Inv.auditFinding (h : Inv l w none none s) (hd : d < s.installed) (found : Option Found) :
    Inv l w none none (auditFinding d found s) := by
  unfold Machine.auditFinding
  split
  · refine (h.compare hd found).calm (calm_countMismatch _ ?_)
    rw [installed_acting.compare]
    exact hd
  · exact .ite _ (fun hs => h.resolve hs hd found) fun _ => h.compare hd found
  · exact h.compare hd found

/-- A STATUS of the Patrol Unit ends with a REPLY (R141, R146, R147). -/
theorem Inv.patrolStatusReply (h : Inv l w none none s) (hd : d < s.installed) (found : Option Found) :
    Inv l w none none (patrolStatusReply d found s) := by
  unfold Machine.patrolStatusReply
  exact .ite _ (fun _ => ((h.calm (calm_leaveOutstanding d s)).auditFinding hd found).calm (calm_auditStep _)) fun _ =>
    h.compare hd found

/-- A STATUS of the Patrol Unit ends with NO_REPLY (R143, R146, R147, R148). -/
theorem Inv.patrolStatusSilent (h : Inv l w none none s) (hd : d < s.installed) :
    Inv l w none none (patrolStatusSilent d s) := by
  have h1 := h.calm (calm_leaveOutstanding d s)
  unfold Machine.patrolStatusSilent
  refine .ite _ (fun _ => Inv.calm ?_ (calm_auditStep _)) fun _ => h
  exact .ite _ (fun hc => h1.resolveSilent hc.2 hd) fun _ => h1

end

end Sys2Proof.Machine
end

section
/-! PROOFS. The outcomes of dock-bus commands (R36, R37), the events fetched by a poll (R26) and the expiries of a second
tick (R183) keep the laws. -/

namespace Sys2Proof.Machine

section
variable {l w : Bool} {s : State} {d : Nat} {c : Cmd}

/-! ## The dock of a command -/

/-- The command in flight is at an installed dock (R1, R27). -/
theorem Rest.lt_of_command (h : Rest s) {f : InFlight} (hf : s.bus.inFlight = some f) (hc : f.what = .command c) :
    c.dock < s.installed := h.bus.near _ (mem_busy.mpr (.inr ⟨f, c, hf, hc, rfl⟩))

theorem Rest.lt_of_accepted (h : Rest s) {dock code : Byte} (hc : acceptedBy dock code s = some c) :
    c.dock < s.installed := by
  unfold acceptedBy commandInFlight at hc
  split at hc
  · rename_i hin
    split at hc
    · cases hc
      split at hin
      · rename_i f hf
        split at hin
        · rename_i hw
          cases hin
          exact h.lt_of_command hf hw
        · cases hin
      · cases hin
    · cases hc
  · cases hc

/-! ## Reports against bikes -/

theorem calm_makeBikeFault (b : Nat) (s : State) : Calm s (makeBikeFault b s) := by
  have hadd (L : List BikeFault) (t : State) : Calm t { t with bikeFaults := L } := calm_aside rfl rfl rfl rfl rfl id
  unfold makeBikeFault
  refine .ite _ (fun _ => .refl s) fun _ => ?_
  dsimp only
  split
  · exact hadd _ s
  · split
    · exact Calm.trans (t := dropBikeFault _ s) (hadd _ s) (hadd _ _)
    · exact hadd _ s

theorem calm_reportBike (b : Nat) (c : Category) (severe : Bool) (s : State) : Calm s (reportBike b c severe s) := by
  have hmod (f : BikeFault → BikeFault) (t : State) : Calm t (modBikeFault b f t) := calm_aside rfl rfl rfl rfl rfl id
  unfold reportBike
  refine .ite _ (fun _ => .refl s) fun _ => ?_
  have hreport (f : BikeFault → BikeFault) (e : Entry) :
      Calm s (enterRecord e (modBikeFault b f (makeBikeFault b s))) :=
    ((calm_makeBikeFault b s).trans (hmod f _)).trans (calm_enterRecord e _)
  exact .ite _ (fun _ => (((hreport _ _).trans (hmod _ _)).trans (calm_enterRecord _ _)).trans (calm_raise _ _)) fun _ =>
    hreport _ _

/-! ## Replies and silence -/

theorem calm_releaseOpened (hd : d < s.installed) : Calm s (releaseOpened d s) := by
  have hopen := calm_modDock (f := fun k => { k with phase := some .opened, window := some (startWindow s) }) hd
    ⟨rfl, rfl, rfl, rfl, rfl, .inl rfl⟩
  unfold releaseOpened
  dsimp only
  split
  · exact hopen.trans (calm_raise _ _)
  · exact hopen.trans (calm_raise _ _)
  · exact hopen

theorem calm_openedFor (hd : c.dock < s.installed) : Calm s (openedFor c s) := by
  unfold openedFor
  dsimp only
  exact .ite _ (fun _ => calm_releaseOpened hd) fun _ => .ite _ (fun _ => calm_modDock hd ⟨rfl, rfl, rfl, rfl, rfl, .inl rfl⟩)
    fun _ => .refl s

theorem closesRelease_state (h : closesRelease c s = true) : (s.dock c.dock).state = .releasing := by
  simp only [closesRelease, Bool.and_eq_true, beq_iff_eq] at h
  exact h.1.2

theorem closesEjection_state (h : closesEjection c s = true) : (s.dock c.dock).state = .ejecting := by
  simp only [closesEjection, Bool.and_eq_true, beq_iff_eq] at h
  exact h.1.2

theorem ownReread_state (h : ownReread c s = true) : (s.dock c.dock).state = .latching := by
  simp only [ownReread, Bool.and_eq_true, beq_iff_eq] at h
  exact h.2

theorem Inv.lockedWithFor (h : Inv l w none none s) (hd : c.dock < s.installed) (T : Nat) (kind : BikeKind) :
    Inv l w none none (lockedWithFor c T kind s) := by
  unfold Machine.lockedWithFor
  refine .ite _ (fun _ => h.compareLock hd _) fun _ => .ite _ (fun hc => .ite _ (fun _ => h.lapse (closesRelease_state hc))
    fun _ => (h.pull (closesRelease_state hc)).arrive ?_ T kind) fun _ => .ite _ (fun _ => h.arrive hd T kind) fun _ =>
    .ite _ (fun _ => h) fun _ => h.arrive hd T kind
  rw [installed_acting.pull]
  exact hd

theorem Inv.lockedEmptyFor (h : Inv l w none none s) (hd : c.dock < s.installed) :
    Inv l w none none (lockedEmptyFor c s) := by
  unfold Machine.lockedEmptyFor
  exact .ite _ (fun _ => h.compareLock hd _) fun _ => .ite _ (fun hc => h.pull (closesRelease_state hc)) fun _ =>
    .ite _ (fun hc => h.operationVacant (.inr (closesEjection_state hc))) fun _ => h

theorem Inv.rereadReply (h : Inv l w none none s) (hs : (s.dock d).state = .latching) (found : Option Found) :
    Inv l w none none (rereadReply d found s) := by
  cases found with
  | none => exact h.operationVacant (.inl hs)
  | some f => exact .ite _ (fun _ => h.rereadUnread hs) fun hT => h.identified hs hT f.kind

theorem Inv.statusFor (h : Inv l w none none s) (hd : c.dock < s.installed) (found : Option Found) :
    Inv l w none none (statusFor c found s) := by
  unfold Machine.statusFor
  exact .ite _ (fun _ => h.patrolStatusReply hd found) fun _ =>
    .ite _ (fun hc => h.rereadReply (ownReread_state hc) found) fun _ => h.compare hd found

theorem calm_senseStartedAt (hd : d < s.installed) : Calm s (senseStartedAt d s) := by
  unfold senseStartedAt
  split
  · rename_i b hb
    exact .ite _ (fun _ => calm_modDock hd ⟨rfl, rfl, rfl, rfl, by simp [hb], .inl rfl⟩) fun _ => .refl s
  · exact .refl s

theorem calm_senseDoneAt (level : Nat) (hd : d < s.installed) : Calm s (senseDoneAt d level s) := by
  unfold senseDoneAt
  split
  · rename_i b hb
    refine .ite _ (fun _ => ?_) fun _ => .refl s
    have hsensed : Calm s (modDock d (fun k => { k with bike := some { b with
        charge := some { level := level, minute := s.now }, sense := none } }) s) :=
      calm_modDock hd ⟨rfl, rfl, rfl, rfl, by simp [hb], .inl rfl⟩
    dsimp only
    split
    · exact .ite _ (fun _ => hsensed.trans (calm_reportBike _ _ _ _)) fun _ => hsensed
    · exact hsensed
  · exact .refl s

theorem Inv.noReplyFor (h : Inv l w none none s) (hd : c.dock < s.installed) : Inv l w none none (noReplyFor c s) := by
  unfold Machine.noReplyFor
  dsimp only
  split
  · exact h.patrolStatusSilent hd
  · exact .ite _ (fun _ => h.calm (calm_closeWith _ hd)) fun _ => h
  · exact .ite _ (fun hc => h.closingLockSilent (closesRelease_state hc)) fun _ =>
      .ite _ (fun hc => h.operationVacant (.inr (closesEjection_state hc))) fun _ => h
  · exact .ite _ (fun hc => h.operationVacant (.inr hc.2.1)) fun _ => h
  · exact .ite _ (fun hc => h.rereadUnread (ownReread_state hc)) fun _ => h
  · exact h

/-! ## The rows of the dock bus -/

theorem Inv.replied (h : Inv l w none none s) {act : State → State}
    (ha : Inv l w none none (endExchange s) → Inv l w none none (act (endExchange s))) : Inv l w none none (replied act s) :=
  (ha (h.calm (calm_endExchange s))).calm (calm_moveOn _)

theorem Inv.onOpened (h : Inv l w none none s) (dock : Byte) : Inv l w none none (onOpened dock s) := by
  unfold Machine.onOpened
  split
  · rename_i hc
    exact h.replied fun he => he.calm (calm_openedFor (h.good.rest.lt_of_accepted hc))
  · exact h.calm (calm_ignoreFrame s)

theorem Inv.onLockedWith (h : Inv l w none none s) (dock : Byte) (tag : BitVec 24) (kind : Byte) :
    Inv l w none none (onLockedWith dock tag kind s) := by
  unfold Machine.onLockedWith
  split
  · rename_i hc
    exact h.replied fun he => he.lockedWithFor (h.good.rest.lt_of_accepted hc) _ _
  · exact h.calm (calm_ignoreFrame s)

theorem Inv.onLockedEmpty (h : Inv l w none none s) (dock : Byte) : Inv l w none none (onLockedEmpty dock s) := by
  unfold Machine.onLockedEmpty
  split
  · rename_i hc
    exact h.replied fun he => he.lockedEmptyFor (h.good.rest.lt_of_accepted hc)
  · exact h.calm (calm_ignoreFrame s)

theorem Inv.onStatusIs (h : Inv l w none none s) (dock : Byte) (tag : BitVec 24) (flags : Byte) :
    Inv l w none none (onStatusIs dock tag flags s) := by
  unfold Machine.onStatusIs
  split
  · rename_i hc
    exact h.replied fun he => he.statusFor (h.good.rest.lt_of_accepted hc) _
  · exact h.calm (calm_ignoreFrame s)

theorem Inv.onSenseStarted (h : Inv l w none none s) (dock : Byte) : Inv l w none none (onSenseStarted dock s) := by
  unfold Machine.onSenseStarted
  split
  · rename_i hc
    exact h.replied fun he => he.calm (calm_senseStartedAt (h.good.rest.lt_of_accepted hc))
  · exact h.calm (calm_ignoreFrame s)

theorem calm_onNoEvent (dock : Byte) (s : State) : Calm s (onNoEvent dock s) :=
  .ite _ (fun _ => calm_pollEnded s) fun _ => calm_ignoreFrame s

theorem Inv.timedOutOnBus (h : Inv l w none none s) {f : InFlight} (hf : s.bus.inFlight = some f) :
    Inv l w none none (timedOutOnBus f s) := by
  unfold Machine.timedOutOnBus
  split
  · exact h.calm (calm_pollEnded s)
  · rename_i c hc
    have hd := h.good.rest.lt_of_command hf hc
    have hsilent := (h.calm (calm_endExchange s)).noReplyFor (c := c) hd
    refine (hsilent.reportDock (d := c.dock) .dockSilent (c.kind == .lock) .plain ?_ (.inl rfl)).calm (calm_moveOn _)
    rw [installed_acting.noReplyFor]
    exact hd

theorem Inv.onDockResponseTimeout (h : Inv l w none none s) : Inv l w none none (onDockResponseTimeout s) := by
  unfold Machine.onDockResponseTimeout
  split
  · exact .ite _ (fun _ => h.timedOutOnBus ‹_›) fun _ => h
  · exact h

/-- An accepted event acts at an installed dock, once the poll has ended (R21, R26). -/
theorem Inv.eventIs (h : Inv l w none none s) {dock : Byte} {low : Bool} {act : Nat → State → State}
    (ha : ∀ d t, d < t.installed → Inv l w none none t → Inv l w none none (act d t)) :
    Inv l w none none (eventIs dock low act s) := by
  unfold Machine.eventIs
  refine .ite _ (fun he => ?_) fun _ => (h.calm (calm_ignoreFrame s)).calm (calm_sampleWire low _)
  have hd : dock.toNat < s.installed := by
    simp only [eventAccepted, Bool.and_eq_true, decide_eq_true_eq] at he
    exact he.2
  have hstill := ((calm_endExchange s).trans (calm_sampleWire low _)).trans (calm_pollIfLow _) h.good.rest
  exact (ha _ _ (hstill.installed ▸ hd) (h.still hstill)).calm (calm_moveOn _)

theorem Inv.onInserted (h : Inv l w none none s) (dock : Byte) (tag : BitVec 24) (kind : Byte) (low : Bool) :
    Inv l w none none (onInserted dock tag kind low s) := h.eventIs fun _ _ hd ht => ht.arrive hd _ _

theorem Inv.onRemoved (h : Inv l w none none s) (dock : Byte) (low : Bool) : Inv l w none none (onRemoved dock low s) :=
  h.eventIs fun _ _ hd ht => ht.bikeRemoved hd

theorem Inv.onLockFault (h : Inv l w none none s) (dock : Byte) (low : Bool) : Inv l w none none (onLockFault dock low s) :=
  h.eventIs fun _ _ hd ht => ht.reportDock .lockFault true .plain hd (.inl rfl)

theorem Inv.onSenseDone (h : Inv l w none none s) (dock level : Byte) (low : Bool) :
    Inv l w none none (onSenseDone dock level low s) := h.eventIs fun _ _ hd ht => ht.calm (calm_senseDoneAt _ hd)

theorem calm_onDockAttentionLow (s : State) : Calm s (onDockAttentionLow s) :=
  (calm_sampleWire true s).trans (calm_pollIfLow _)

theorem calm_inFlight (g : InFlight → InFlight) (hg : ∀ f, (g f).what = f.what) (s : State) :
    Calm s (modBus (fun b => { b with inFlight := b.inFlight.map g }) s) := by
  refine calm_modBus fun hb => hb.sub ?_ le_rfl
  have hbusy : ({ s.bus with inFlight := s.bus.inFlight.map g } : Bus).busy = s.bus.busy := by
    unfold Bus.busy
    cases hf : s.bus.inFlight with
    | none => simp
    | some f => simp [hg f]
  rw [hbusy]

theorem calm_onDockCommandSent (s : State) : Calm s (onDockCommandSent s) := 
  calm_inFlight (fun f => { f with ticks := f.ticks.orElse fun _ => some 0 }) (fun _ => rfl) s

theorem calm_onDockFrameIgnored (bytes : List Byte) (low : Bool) (s : State) : Calm s (onDockFrameIgnored bytes low s) :=
  .ite _ (fun _ => .refl s) fun _ => (calm_ignoreFrame s).trans (calm_sampleWire low _)

theorem calm_onDockFrameKindDiscarded (dock kind : Byte) (s : State) : Calm s (onDockFrameKindDiscarded dock kind s) :=
  .ite _ (fun _ => .refl s) fun _ => calm_modBus fun hb => hb.congr rfl rfl

/-! ## Expiries -/

theorem calm_onReleaseWindowExpiry (d : Nat) (s : State) : Calm s (onReleaseWindowExpiry d s) :=
  .ite _ (fun hc => .given fun hr => calm_closeWith _ (hr.lt_of_state (by simp [hc.1]))) fun _ => .refl s

theorem calm_onEjectWindowExpiry (d : Nat) (s : State) : Calm s (onEjectWindowExpiry d s) :=
  .ite _ (fun hc => .given fun hr => calm_closeWith _ (hr.lt_of_state (by simp [hc.1]))) fun _ => .refl s

theorem senseAborted_id (b : Bike) : b.senseAborted.id = b.id := rfl

/-- A dock whose sense timer runs has a bike, so it is installed. -/
theorem Rest.lt_of_sense (h : Rest s) (hd : senseDue (s.dock d) = true) : d < s.installed := by
  by_contra hn
  rw [h.high d (by omega)] at hd
  cases hd

theorem calm_onSenseTimerExpiry (d : Nat) (s : State) : Calm s (onSenseTimerExpiry d s) :=
  .ite _ (fun hs => .given fun hr => calm_modDock (hr.lt_of_sense hs)
    ⟨rfl, rfl, rfl, rfl, by simp [Function.comp_def, senseAborted_id], .inl rfl⟩) fun _ => .refl s

theorem Inv.onAuthTimeout (h : Inv l w none none s) : Inv l w none none (onAuthTimeout s) := by
  unfold Machine.onAuthTimeout
  split
  · exact h.endAuth (List.mem_of_find?_eq_some ‹_›) .authTimeout
  · exact h

theorem Inv.authTimeouts (h : Inv l w none none s) : Inv l w none none (authTimeouts s) := by
  unfold Machine.authTimeouts
  generalize s.authQueue.filter (fun e => e.timedOut) = L
  induction L generalizing s with
  | nil => exact h
  | cons e L ih => exact ih h.onAuthTimeout

/-- A batch changed in its idle timer alone. -/
theorem calm_modBatch {f : Batch → Batch} (hf : ∀ b, (f b).face = b.face) (s : State) : Calm s (modBatch f s) := by
  refine calm_aside ?_ rfl rfl rfl rfl id
  have hplan : (modBatch f s).plan = s.plan := by
    unfold State.plan modBatch
    rw [Option.map_map]
    exact congrArg (fun g => s.batch.map g) (funext hf)
  unfold State.face
  rw [hplan]
  rfl

theorem Inv.onBatchIdleExpiry (h : Inv l w none none s) : Inv l w none none (onBatchIdleExpiry s) := by
  unfold Machine.onBatchIdleExpiry
  refine .ite _ (fun _ => ?_) fun _ => h
  have hdue := h.calm (calm_modDue (fun d => { d with idle := false }) s)
  exact .ite _ (fun hb => hdue.endBatch hb .timedOut) fun _ =>
    hdue.calm (calm_modBatch (f := fun b => { b with expiryWaiting := true }) (fun _ => rfl) _)

theorem calm_advanceCursor (s : State) : Calm s (advanceCursor s) := by
  refine .given fun hr => ?_
  have hpos : 0 < s.installed := Nat.lt_of_le_of_lt (Nat.zero_le _) hr.cursor
  exact .ite _ (fun hc => calm_patrol hc s.due) fun _ => calm_patrol hpos _

theorem calm_visit (s : State) : Calm s (visit s) := by
  refine .given fun hr => ?_
  have hplace := calm_placeQuiet .status .patrol hr.cursor
  unfold visit
  refine .ite _ (fun _ => calm_advanceCursor s) fun _ => ?_
  split
  · rename_i hp
    rw [hp] at hplace
    exact hplace.trans (calm_advanceCursor _)
  · rename_i hp
    rw [hp] at hplace
    exact hplace

theorem calm_onPatrolIntervalExpiry (s : State) : Calm s (onPatrolIntervalExpiry s) :=
  .ite _ (fun _ => Calm.trans (.given fun hr => calm_patrol (p := { s.patrol with interval := 0 }) hr.cursor _)
    (calm_visit _)) fun _ => .refl s

theorem calm_onPatrolPostscalerExpiry (s : State) : Calm s (onPatrolPostscalerExpiry s) :=
  .ite _ (fun _ => Calm.trans (.given fun hr => calm_patrol (p := { s.patrol with postscaler := 0 }) hr.cursor _)
    (calm_raise _ _)) fun _ => .refl s

theorem leakDock_alike (n : Nat) (k : Dock) : k.Alike (leakDock n k) := by
  unfold leakDock
  split
  · exact ⟨rfl, rfl, rfl, rfl, rfl, .inl rfl⟩
  · exact .refl k

theorem calm_onLeak (s : State) : Calm s (onLeak s) := by
  refine .ite _ (fun _ => Calm.trans (.foldl s.installedDocks s fun t d hd ht => ?_) (calm_aside rfl rfl rfl rfl rfl id))
    fun _ => .refl s
  exact calm_modDock (f := leakDock s.settings.dockThreshold) (ht ▸ List.mem_range.mp hd) (leakDock_alike _ _)

theorem calm_onPollHoldoffClear (low : Bool) (s : State) : Calm s (onPollHoldoffClear low s) :=
  .ite _ (fun _ => (((calm_modDue _ s).trans (calm_modBus fun hb => hb.congr rfl rfl)).trans (calm_sampleWire low _)).trans
    (calm_pollIfLow _)) fun _ => .refl s

theorem calm_onIdentRereadRetry (s : State) : Calm s (onIdentRereadRetry s) := by
  refine .ite _ (fun _ => (calm_modDue _ s).trans (.foldl s.installedDocks _ fun t d hd ht => ?_)) fun _ => .refl s
  have hd' : d < t.installed := ht ▸ List.mem_range.mp hd
  exact .ite _ (fun _ => calm_tryReread hd') fun _ => .refl t

theorem calm_onAuditPass (s : State) : Calm s (onAuditPass s) :=
  .ite _ (fun _ => (calm_modDue _ s).trans (calm_auditStep _)) fun _ => .refl s

/-! ## The second tick -/

theorem calm_foldDocks {f : State → Nat → State} (s : State) (h : ∀ t d, d < t.installed → Calm t (f t d)) :
    Calm s (s.installedDocks.foldl f s) := .foldl _ s fun t d hd ht => h t d (ht ▸ List.mem_range.mp hd)

theorem Inv.serveDue (h : Inv l w none none s) : Inv l w none none (serveDue s) := by
  have h2 := (h.calm (calm_foldDocks s fun t d _ => calm_onReleaseWindowExpiry d t)).calm
    (calm_foldDocks _ fun t d _ => calm_onEjectWindowExpiry d t)
  have h4 := h2.authTimeouts.onBatchIdleExpiry.calm (calm_foldDocks _ fun t d _ => calm_onSenseTimerExpiry d t)
  have h5 := ((h4.calm (calm_onPatrolIntervalExpiry _)).calm (calm_onPatrolPostscalerExpiry _)).calm (calm_onLeak _)
  exact (((h5.calm (calm_onPollHoldoffClear _ _)).calm (calm_onIdentRereadRetry _)).calm
    (calm_onAuditPass _)).onDockResponseTimeout

theorem Inv.endMinute (h : Inv l w none none s) : Inv l w none none (endMinute s) :=
  (h.calm (t := { s with clock := { minute := s.clock.minute + 1, second := 0 } })
    (calm_aside rfl rfl rfl rfl rfl id)).overdueCheck

theorem Inv.tickClock (h : Inv l w none none s) : Inv l w none none (tickClock s) :=
  .ite _ (fun _ => h) fun _ => .ite _ (fun _ => h.endMinute) fun _ => h.calm (calm_aside rfl rfl rfl rfl rfl id)

theorem Inv.onStationMinuteIncrease (h : Inv l w none none s) : Inv l w none none (onStationMinuteIncrease s) :=
  .ite _ (fun _ => h.endMinute.calm (calm_modDue _ _)) fun _ => h

theorem tickDock_alike (k : Dock) : k.Alike (tickDock k) :=
  ⟨rfl, rfl, rfl, rfl, by simp [tickDock, Function.comp_def], .inl rfl⟩

theorem tickAuth_face (e : AuthEntry) : (tickAuth e).face = e.face := by
  unfold tickAuth
  split <;> rfl

theorem tickBatch_face (b : Batch) : (tickBatch b).face = b.face := by
  unfold tickBatch
  split <;> rfl

theorem tickPatrol_cursor (runs : Bool) (p : Patrol) : (tickPatrol runs p).cursor = p.cursor := by
  unfold tickPatrol
  split <;> rfl

theorem countTick_dock (s : State) (d : Nat) : (countTick s).dock d = tickDock (s.dock d) := by
  unfold State.dock countTick
  rw [Vector.getElem?_map]
  cases s.docks[d]? <;> rfl

theorem calm_countTick (s : State) : Calm s (countTick s) := by
  intro hr
  have hbus := (calm_inFlight tickInFlight (fun _ => rfl) s hr).rest.bus
  refine ⟨?_, fun d => ?_, id, hbus, hr.few, fun d hd => ?_, ?_, hr.toDo, hr.outstanding, hr.counted⟩
  · simp only [State.face, State.claims, State.plan, countTick, List.map_map, Option.map_map]
    congr 2
    · exact funext tickAuth_face
    · exact funext tickBatch_face
  · rw [countTick_dock]
    exact tickDock_alike _
  · rw [countTick_dock, hr.high d hd]
    rfl
  · exact (tickPatrol_cursor _ _).symm ▸ hr.cursor

theorem Inv.onSecondTick (h : Inv l w none none s) : Inv l w none none (onSecondTick s) :=
  h.serveDue.tickClock.calm (calm_countTick _)

end

end Sys2Proof.Machine
end

section
/-! PROOFS. The rule of every request but the reset keeps the laws (R169). -/

namespace Sys2Proof.Machine

section
variable {l w : Bool} {s : State} {d : Nat}

/-! ## The dock and the card of a hire -/

theorem namedDock_none {k : BikeKind} (h : namedDock d k s = none) : verdict d s = .hireable := by
  unfold namedDock at h
  split at h
  · cases h
  · split at h
    case h_5 hv => exact hv
    all_goals cases h

/-- The dock step passes a HIREABLE dock (R41, R42). -/
theorem dockStep_hireable {dock : Nat} {k : BikeKind} (h : dockStep dock k s = .inl d) : verdict d s = .hireable := by
  unfold dockStep at h
  split at h
  · split at h
    · rename_i hb
      cases h
      have := (List.mem_filter.mp (bestBy_mem hb)).2
      simp only [Bool.and_eq_true, beq_iff_eq] at this
      exact this.1
    · cases h
  · split at h
    · rename_i hn
      cases h
      exact namedDock_none hn
    · cases h

theorem cardStep_pass {id : Nat} {k : BikeKind} {c : Card} (h : cardStep id k s = .pass c) : c ∈ s.cards := by
  unfold cardStep at h
  split at h
  · rename_i hf
    split at h
    · cases h
    · cases h
      exact (findCard_mem hf).1
  · split at h
    · cases h
    · split at h
      · cases h
      · split at h <;> cases h

/-- An authorization is asked for while the link is ONLINE, with a place free and none for the card (R71). -/
theorem cardStep_pending {id : Nat} {k : BikeKind} (h : cardStep id k s = .pending) :
    s.link = .online ∧ s.authQueue.length < Config.authPlaces ∧ id ∉ s.authQueue.map AuthEntry.card := by
  unfold cardStep at h
  split at h
  · split at h <;> cases h
  · split at h
    · cases h
    · rename_i hlink
      split at h
      · cases h
      · rename_i hlen
        split at h
        · cases h
        · rename_i hany
          refine ⟨?_, Nat.lt_of_not_le hlen, fun hm => hany ?_⟩
          · cases hs : s.link
            · exact absurd hs hlink
            · rfl
          · obtain ⟨e, he, hc⟩ := List.mem_map.mp hm
            exact List.any_eq_true.mpr ⟨e, he, beq_iff_eq.mpr hc⟩

/-! ## Requests on hires -/

theorem Inv.hireStart (h : Inv l w none none s) (fields : List Byte) (p : Port) :
    Inv l w none none (hireStart fields p s).1 := by
  unfold Machine.hireStart
  dsimp only
  split
  · exact h
  split
  · exact h
  split
  · exact h
  rename_i hfull
  split
  · exact h
  · rename_i d hdock
    have hv := dockStep_hireable hdock
    split
    · exact h
    · rename_i hcard
      obtain ⟨hlink, hlen, hnew⟩ := cardStep_pending hcard
      exact h.claimDock hv hlink hlen hnew _
    · rename_i c hcard
      have hstart := h.startHire (cardStep_pass hcard) (Nat.lt_of_not_le hfull) hv
      split
      · rename_i hs
        rwa [hs] at hstart
      · exact h

theorem Inv.resumeHire (h : Inv l w none none s) (card d : Nat) (k : BikeKind) :
    Inv l w none none (resumeHire card d k s).1 := by
  unfold Machine.resumeHire
  split
  · exact h
  · rename_i hdock
    split
    · exact h
    · exact h
    · rename_i c hcard
      split
      · exact h
      · rename_i hfull
        have hstart := h.startHire (cardStep_pass hcard) (Nat.lt_of_not_le hfull) (namedDock_none hdock)
        split
        · rename_i hs
          rwa [hs] at hstart
        · exact h

theorem Inv.hireCloseRemote (h : Inv l w none none s) (fields : List Byte) (p : Port) :
    Inv l w none none (hireCloseRemote fields p s).1 := by
  unfold Machine.hireCloseRemote
  dsimp only
  split
  · exact h
  · split
    · exact h
    · rename_i hf
      split
      · exact h
      · exact h.closeHire (findHire_mem hf).1 ‹_› _ _

/-- A hire that passes R100: its number and bike are free, its card is in the table, no dock holds its bike. -/
theorem restoreRefusal_none {f : Restore} (h : restoreRefusal f s = none) :
    f.hire ∉ s.hires.map Hire.number ∧ f.bike ∉ s.hires.map Hire.bike ∧ (∃ c ∈ s.cards, c.id = f.card) ∧
      bikeDocked f.bike s = false ∧ s.hires.length < Config.hirePlaces := by
  unfold restoreRefusal at h
  split at h
  · cases h
  split at h
  · cases h
  split at h
  · cases h
  rename_i hnumber
  split at h
  · cases h
  rename_i hbike
  split at h
  · cases h
  rename_i c hcard
  split at h
  · cases h
  rename_i hdocked
  split at h
  · cases h
  rename_i hfull
  refine ⟨fun hm => ?_, fun hm => ?_, ⟨c, findCard_mem hcard⟩, by simpa using hdocked, Nat.lt_of_not_le hfull⟩
  · obtain ⟨r, hr, hn⟩ := List.mem_map.mp hm
    exact hnumber (List.find?_isSome.mpr ⟨r, hr, beq_iff_eq.mpr hn⟩)
  · obtain ⟨r, hr, hb⟩ := List.mem_map.mp hm
    exact hbike (List.any_eq_true.mpr ⟨r, hr, beq_iff_eq.mpr hb⟩)

theorem Rest.ids_of_not_docked (h : Rest s) {b : Nat} (hb : bikeDocked b s = false) (d : Nat) : s.ids d ≠ some b := by
  intro hid
  have hd : d < s.installed := by
    by_contra hn
    rw [State.ids, h.high d (by omega)] at hid
    cases hid
  refine absurd (List.any_eq_false.mp hb d (List.mem_range.mpr hd)) ?_
  rw [show recordedId (s.dock d) = some b from hid]
  simp

/-- A hire is entered in the register as HIRE_RESTORE gives it (R101). -/
theorem Inv.restored (h : Inv l w none none s) {f : Restore} (hf : restoreRefusal f s = none) (policy last : Nat) :
    Inv l w none none { Machine.placeHold f.card f.hold s with
      hires := (Machine.placeHold f.card f.hold s).hires ++ [restoredHire f policy], lastHire := last } := by
  obtain ⟨hnumber, hbike, hcard, hdocked, hfew⟩ := restoreRefusal_none hf
  have hperm : (restoredHire f policy :: s.hires).Perm (s.hires ++ [restoredHire f policy]) :=
    List.perm_append_comm (l₁ := [restoredHire f policy])
  exact h.money last fun _ hh ha =>
    ⟨(hh.restore (r := restoredHire f policy) hfew hnumber hbike nofun rfl (h.good.rest.ids_of_not_docked hdocked)).perm hperm,
      (ha.add (r := restoredHire f policy) (g := fun k => { k with
        held := k.held + f.hold, openCount := k.openCount + 1, lastUse := s.now })
        (fun _ => rfl) (fun _ => rfl) (fun _ => rfl) (fun _ => rfl) hcard).perm hperm⟩

theorem Inv.hireRestore (h : Inv l w none none s) (fields : List Byte) (p : Port) :
    Inv l w none none (hireRestore fields p s).1 := by
  unfold Machine.hireRestore
  dsimp only
  split
  · exact h
  · rename_i hf
    have hin := h.restored hf (policyIndexOf (restoreFields fields).card s)
      (max (placeHold (restoreFields fields).card (restoreFields fields).hold s).lastHire (restoreFields fields).hire)
    split
    · refine hin.makeOverdue fun _ a ha hn => ?_
      rcases List.mem_append.mp ha with ha | ha
      · exact absurd (List.mem_map.mpr ⟨a, ha, hn⟩) (restoreRefusal_none hf).1
      · rw [List.mem_singleton.mp ha]
        nofun
    · exact hin

/-! ## Requests on cards and authorizations -/

theorem Inv.cardSet (h : Inv l w none none s) (fields : List Byte) (p : Port) :
    Inv l w none none (cardSet fields p s).1 := by
  unfold Machine.cardSet
  dsimp only
  split
  · exact h
  · rename_i hcount
    split
    · exact h
    · refine h.writeCards (cardSettings fields) _ ?_
      simp only [List.length_nil, cardSettings, List.length_map, List.length_range]
      omega

theorem Inv.cardRemove (h : Inv l w none none s) (fields : List Byte) (p : Port) :
    Inv l w none none (cardRemove fields p s).1 := by
  unfold Machine.cardRemove
  dsimp only
  split
  · exact h
  · rename_i c hc
    split
    · exact h
    · rename_i ho
      obtain ⟨hm, hi⟩ := findCard_mem hc
      rw [← hi]
      exact h.money s.lastHire fun _ hh ha => ⟨hh, ha.remove hm (Nat.eq_zero_of_not_pos ho)⟩

theorem writeCard_authQueue (written : List Nat) (c : CardSetting) (s : State) :
    (writeCard written c s).1.authQueue = s.authQueue := by
  unfold writeCard
  split
  · rfl
  · dsimp only
    rw [makeCardRoom_eq]

theorem Inv.installGrant (h : Inv l w none none s) (c : CardSetting) {e : AuthEntry} (he : e ∈ s.authQueue) :
    Inv l w none none (installGrant c e s).1 :=
  (h.writeCard (written := []) (Nat.zero_le 8) c).endClaim (by rwa [writeCard_authQueue])

theorem Inv.authGrant (h : Inv l w none none s) (fields : List Byte) (p : Port) :
    Inv l w none none (authGrant fields p s).1 := by
  unfold Machine.authGrant
  dsimp only
  split
  · exact h
  · split
    · exact h
    · rename_i e he
      have hgrant := h.installGrant (grantCard fields e.card) (List.mem_of_find?_eq_some he)
      exact (hgrant.resumeHire e.card e.dock e.wanted).calm (calm_raise (.authDone (numAt fields 0 1) _) _)

theorem Inv.authDeny (h : Inv l w none none s) (fields : List Byte) (p : Port) :
    Inv l w none none (authDeny fields p s).1 := by
  unfold Machine.authDeny
  split
  · exact h
  · exact h.endAuth (List.mem_of_find?_eq_some ‹_›) _

/-- The link changed, where the Auth Queue admits it (R81). -/
theorem Inv.relink {l' : Bool} (h : Inv l w none none s) (k : Link) (hl : l' = true → k = .online ∨ s.claims = []) :
    Inv l' w none none { s with link := k } := by
  obtain ⟨hg, hw⟩ := h
  refine ⟨⟨hg.settings, ⟨hg.rest.bus, hg.rest.few, hg.rest.high, hg.rest.cursor, hg.rest.toDo, hg.rest.outstanding,
    hg.rest.counted⟩, hg.fits, hg.ids, hg.auths, hl, hg.claims, hg.vans, hg.reservations, hg.manifest⟩,
    fun hw1 => ⟨(hw hw1).ready, (hw hw1).hiring, (hw hw1).accounts⟩⟩

theorem endAuths_authQueue (r : Result) (L : List AuthEntry) (s : State) :
    (L.foldl (fun t e => endAuth e r t) s).authQueue =
      s.authQueue.filter fun a => L.all fun e => a.tag != e.tag := by
  induction L generalizing s with
  | nil => simp
  | cons e L ih =>
    rw [List.foldl_cons, ih, endAuth_authQueue, List.filter_filter]
    exact List.filter_congr fun a _ => by rw [List.all_cons, Bool.and_comm]

/-- Once every authorization has ended the Auth Queue is empty (R81). -/
theorem endAllAuths_authQueue (s : State) : (endAllAuths s).authQueue = [] := by
  unfold endAllAuths
  rw [endAuths_authQueue]
  refine List.filter_eq_nil_iff.mpr fun a ha hall => ?_
  simpa using List.all_eq_true.mp hall a ha

theorem Inv.endAllAuths (h : Inv false w none none s) : Inv l w none none (endAllAuths s) := by
  have hn : (s.authQueue.map AuthEntry.tag).Nodup := by
    have := h.good.auths.tags
    rwa [State.claims, List.map_map] at this
  have hall := h.endAuths .offline s.authQueue (fun _ he => he) hn
  refine hall.relink (Machine.endAllAuths s).link fun _ => .inr ?_
  show (Machine.endAllAuths s).claims = []
  unfold State.claims
  rw [endAllAuths_authQueue]
  rfl

theorem Inv.linkState (h : Inv l w none none s) (fields : List Byte) (p : Port) :
    Inv l w none none (linkState fields p s).1 := by
  unfold Machine.linkState
  dsimp only
  split
  · exact h
  · split
    · exact h.relink .online fun _ => .inl rfl
    · split
      · exact (h.relink (l' := false) .offline nofun).endAllAuths
      · exact h

/-! ## Requests on faults -/

theorem Inv.reportFault (h : Inv l w none none s) (fields : List Byte) (p : Port) :
    Inv l w none none (reportFault fields p s).1 := by
  unfold Machine.reportFault
  dsimp only
  split
  · exact h
  · split
    · exact h
    · split
      · unfold reportBikeFault
        split
        · exact h
        · split
          · exact h
          · exact h.calm (calm_reportBike _ _ _ s)
      · unfold reportDockFault
        split
        · exact h
        · rename_i hn
          exact h.reportDock _ _ .plain (Nat.lt_of_not_le hn) (.inl rfl)

theorem Inv.restoreDock (h : Inv l w none none s) (hs : (s.dock d).state = .retired) :
    Inv l w none none (restoreDock d s) := by
  have hd := h.good.rest.lt_of_state (d := d) (by simp [hs])
  have hcalm : Calm s (modDock d (fun k => { k with faultCount := 0 }) s) :=
    calm_modDock hd ⟨rfl, rfl, rfl, rfl, rfl, .inl rfl⟩
  have hs1 := ((hcalm h.good.rest).state d).trans hs
  unfold Machine.restoreDock
  exact .ite _ (fun hb => (h.calm hcalm).becomeHeld .plain hd (.inl (by simp [hs1])) (by simp [hs1]) hb) fun _ =>
    (h.calm hcalm).becomeVacant .plain hd (.inl (by simp [hs1])) (by simp [hs1])

theorem Inv.dockRestore (h : Inv l w none none s) (fields : List Byte) (p : Port) :
    Inv l w none none (dockRestore fields p s).1 := by
  unfold Machine.dockRestore
  dsimp only
  split
  · exact h
  · split
    · exact h
    · exact h.restoreDock (by simpa using ‹¬(s.dock (numAt fields 0 1)).state ≠ .retired›)

theorem Inv.bikeClear (h : Inv l w none none s) (fields : List Byte) (p : Port) :
    Inv l w none none (bikeClear fields p s).1 := by
  unfold Machine.bikeClear
  dsimp only
  split
  · exact h
  · split
    · exact h
    · exact h.calm (calm_aside rfl rfl rfl rfl rfl id)

/-! ## Batch requests -/

/-- A batch is opened: none was, so that no dock stands reserved or held for the van (R103, R104). -/
theorem Inv.openBatch (h : Inv l w none none s) (hb : s.batch = none) {b : Batch}
    (hm : b.kind = .deliver → b.target = 0 ∧ (b.manifest.map ManifestEntry.bike).Nodup) :
    Inv l w none none { s with batch := some b } := by
  have hplan : s.plan = none := by
    unfold State.plan
    rw [hb]
    rfl
  obtain ⟨hg, hw⟩ := h
  refine ⟨⟨hg.settings, ⟨hg.rest.bus, hg.rest.few, hg.rest.high, hg.rest.cursor, hg.rest.toDo, hg.rest.outstanding,
    hg.rest.counted⟩, hg.fits, hg.ids, hg.auths, hg.link, hg.claims, fun d hv => ?_, ?_, fun c hc hk => ?_⟩, fun hw1 => ?_⟩
  · obtain ⟨c, hc, -⟩ := hg.vans d hv
    rw [hplan] at hc
    cases hc
  · have hnone : (reservedDocks s).length ≤ 0 := by
      have := hg.reservations
      unfold State.places at this
      rwa [hplan] at this
    exact hnone.trans (Nat.zero_le _)
  · cases hc
    exact hm hk
  · obtain ⟨hready, hh, ha⟩ := hw hw1
    exact ⟨hready, ⟨hh.few, hh.numbers, hh.bikes, hh.started, hh.away, hh.starting, hh.owned, fun _ _ => rfl⟩, ha⟩

theorem BatchFields.record_good {f : BatchFields} (h : f.good = true) (now : Nat)
    (hk : (f.record now).kind = .deliver) :
    (f.record now).target = 0 ∧ ((f.record now).manifest.map ManifestEntry.bike).Nodup := by
  have h1 : f.kind = 1 := by
    by_contra hn
    simp [record, hn] at hk
  simp only [good, h1, Bool.and_eq_true, decide_eq_true_eq, if_pos] at h
  obtain ⟨⟨-, hnodup⟩, htarget⟩ := h
  refine ⟨by simpa [record] using htarget.2, ?_⟩
  simpa [record, Function.comp_def] using hnodup

theorem holdDock_state (d e : Nat) (s : State) : ((holdDock d s).dock e).state = (s.dock e).state := by
  rcases dock_modDock_or d (fun k => { k with vanHold := true }) s e with h | ⟨-, h⟩ <;> rw [holdDock, h]

/-- Van holds are placed at HELD docks under COLLECT (R107, R108). -/
theorem Inv.holdDocks (L : List Nat) (h : Inv l w none none s) (hL : ∀ d ∈ L, (s.dock d).state = .held) (hc : s.collects) :
    Inv l w none none (L.foldl (fun t d => Machine.holdDock d t) s) := by
  induction L generalizing s with
  | nil => exact h
  | cons d L ih =>
    have hk := h.good.holdDock (hL d List.mem_cons_self) hc
    refine ih (h.keeps hk) (fun e he => ?_) ?_
    · rw [holdDock_state]
      exact hL e (List.mem_cons_of_mem d he)
    · unfold State.collects
      rw [hk.plan]
      exact hc

theorem manifestDocks_held {bikes : List Nat} (h : d ∈ manifestDocks bikes s) : (s.dock d).state = .held := by
  have := (List.mem_filter.mp h).2
  simp only [Bool.and_eq_true, beq_iff_eq] at this
  exact this.1.1

theorem pickable_held (h : pickable d s = true) : (s.dock d).state = .held := by
  simp only [pickable, Bool.and_eq_true, beq_iff_eq] at h
  exact h.1

theorem pickOthers_subset (L : List Nat) (left n : Nat) : pickOthers s L left n ⊆ L := by
  induction L generalizing left n with
  | nil => exact List.Subset.refl _
  | cons d L ih =>
    unfold pickOthers
    split
    · exact List.nil_subset _
    · split
      · split
        · exact List.cons_subset_cons d (ih _ _)
        · exact List.nil_subset _
      · exact List.cons_subset_cons d (ih _ _)

/-- The van holds of a selection are at HELD docks (R108). -/
theorem selection_held {target : Nat} (h : d ∈ (selection target s).1) : (s.dock d).state = .held := by
  rcases List.mem_append.mp h with h | h
  · have := (List.mem_filter.mp (List.mem_of_mem_take h)).2
    rw [Bool.and_eq_true] at this
    exact pickable_held this.1
  · have := (List.mem_filter.mp (mem_sortBy (pickOthers_subset _ _ _ h))).2
    rw [Bool.and_eq_true] at this
    exact pickable_held this.1

theorem Inv.openingWork (h : Inv l w none none s) {f : BatchFields} (hc : f.kind ≠ 1 → s.collects) :
    Inv l w none none (openingWork f s).1 := by
  unfold Machine.openingWork
  split
  · exact h.keeps h.good.topUp
  · rename_i hk
    split
    · exact h.holdDocks _ (fun _ => manifestDocks_held) (hc hk)
    · exact h.holdDocks _ (fun _ => selection_held) (hc hk)

theorem Inv.batchOpen (h : Inv l w none none s) (fields : List Byte) (p : Port) :
    Inv l w none none (batchOpen fields p s).1 := by
  unfold Machine.batchOpen
  dsimp only
  split
  · exact h.calm (calm_restartIdle s)
  · rename_i hnone
    split
    · exact h
    · rename_i hgood
      have hb : s.batch = none := by simpa using hnone
      have hrecord := BatchFields.record_good (f := batchFields fields) (by simpa using hgood) s.now
      refine ((h.openBatch hb hrecord).calm (calm_restartIdle _)).openingWork fun hk => ?_
      unfold State.collects
      rw [show (restartIdle _).plan = _ from congrArg Face.plan (restartIdle_face _)]
      exact ⟨_, rfl, if_neg hk⟩

theorem takeStep_takeable {dock : Nat} (h : takeStep dock s = .inl d) : takeable d s = true := by
  unfold takeStep at h
  split at h
  · split at h
    · rename_i hf
      cases h
      exact List.find?_some (p := fun d => takeable d s) hf
    · cases h
  · split at h
    · cases h
    · split at h
      · cases h
        assumption
      · cases h

theorem takeable_state (h : takeable d s = true) : (s.dock d).state = .held ∨
    (s.dock d).state = .retired ∧ (s.dock d).bike.isSome = true := by
  simp only [takeable, Bool.or_eq_true, Bool.and_eq_true, beq_iff_eq] at h
  exact h.imp (fun h => h.1) fun h => h.1

/-- The record of a dock that begins to release for the batch (R112). -/
theorem beginBatchRelease_eq (hd : d < Config.docks) (s : State) :
    beginBatchRelease d s = setDock d { s.dock d with
      state := .releasing, owner := some .batch, bike := (s.dock d).bike.map Bike.senseAborted, phase := some .unlatching
      window := none
      retirePending := if (s.dock d).state = .retired then true else (s.dock d).retirePending } s := by
  unfold beginBatchRelease beginRelease
  rw [modDock_modDock hd]
  unfold modDock
  congr 1
  split <;> simp [*]

/-- A takeable dock begins to release for the batch (R112). -/
theorem Inv.beginBatchRelease (h : Inv l w none none s) (hb : s.batch.isSome = true)
    (hs : (s.dock d).state = .held ∨ (s.dock d).state = .retired ∧ (s.dock d).bike.isSome = true) :
    Inv l w none none (beginBatchRelease d s) := by
  have hd : d < s.installed := h.good.rest.lt_of_state (by rcases hs with hs | ⟨hs, -⟩ <;> simp [hs])
  have ha := h.good.agrees (d := d) nofun
  have hrest : (s.dock d).reserved = false ∧ (s.dock d).bike.isSome = true := by
    rcases hs with hs | ⟨hs, hbike⟩
    · exact (h.good.held hs).2.imp_right And.left
    · simp only [Dock.agrees, hs, Dock.plain, Bool.and_eq_true, Bool.not_eq_true'] at ha
      exact ⟨ha.1.1.2, hbike⟩
  have hown : s.owners d = none := h.good.owner_none (by rcases hs with hs | ⟨hs, -⟩ <;> simp [hs])
  rw [beginBatchRelease_eq (h.good.lt_docks hd)]
  refine h.acts (h.good.release (o := .batch) hd (by rcases hs with hs | ⟨hs, -⟩ <;> simp [hs]) hrest.1 hrest.2 nofun)
    fun _ hh => hh.turn (fun e => ?_) (fun _ _ _ => rfl) (fun _ _ hi => .inl hi) fun _ hy => hy
  by_cases he : e = d
  · subst he
    rw [Function.update_self, hown]
    refine .inr ⟨nofun, nofun, fun _ => ?_⟩
    unfold State.plan
    rwa [Option.isSome_map]
  · rw [Function.update_of_ne he]
    exact .inl rfl

theorem Still.batch {t : State} (h : Still s t) : t.batch.isSome = s.batch.isSome := by
  have := congrArg Option.isSome h.plan
  simpa [State.plan] using this

theorem Inv.batchTake (h : Inv l w none none s) (fields : List Byte) (p : Port) :
    Inv l w none none (batchTake fields p s).1 := by
  have hidle := calm_restartIdle s h.good.rest
  have h1 := h.still hidle
  unfold Machine.batchTake
  split
  · exact h
  · rename_i hb
    dsimp only
    split
    · exact h1
    · rename_i d hdock
      have hs := takeable_state (takeStep_takeable hdock)
      split
      · exact h1
      · rename_i t ht
        have hstill := calm_placeUnlatch ht (h1.good.rest.lt_of_state (d := d)
          (by rcases hs with hs | ⟨hs, -⟩ <;> simp [hs])) h1.good.rest
        refine (h1.still hstill).beginBatchRelease ?_ ?_
        · rw [hstill.batch, hidle.batch]
          simpa [Option.isSome_iff_ne_none] using hb
        · rwa [hstill.state, (hstill.alike d).isSome]

theorem Inv.batchClose (h : Inv l w none none s) (fields : List Byte) (p : Port) :
    Inv l w none none (batchClose fields p s).1 := by
  have h1 := h.calm (calm_restartIdle s)
  unfold Machine.batchClose
  split
  · exact h
  · dsimp only
    split
    · exact h1.endBatch ‹_› _
    · exact h1

theorem Inv.batchRead (h : Inv l w none none s) (fields : List Byte) (p : Port) :
    Inv l w none none (batchRead fields p s).1 := by
  unfold Machine.batchRead
  split
  · exact h
  · exact h.calm (calm_restartIdle s)

/-! ## Requests on the station -/

theorem calm_evalHeld (s : State) : Calm s (evalHeld s) := calm_tells (evalHeld_tells s)

theorem calm_patrolTurned (old new : Nat) (s : State) : Calm s (patrolTurned old new s) := by
  unfold patrolTurned
  refine .ite _ (fun _ => (calm_onPatrolPostscalerExpiry s).trans (.given fun hr => ?_)) fun _ => .ite _ (fun _ => ?_) fun _ =>
    .refl s
  · exact calm_patrol (Nat.lt_of_le_of_lt (Nat.zero_le _) hr.cursor) _
  · exact .given fun hr => calm_patrol (p := { s.patrol with interval := 0 }) hr.cursor _

theorem Inv.settings (h : Inv l w none none s) {c : Settings} (hc : settingsLaw { s with settings := c } = true) :
    Inv l w none none { s with settings := c } := by
  obtain ⟨hg, hw⟩ := h
  exact ⟨⟨hc, ⟨hg.rest.bus, hg.rest.few, hg.rest.high, hg.rest.cursor, hg.rest.toDo, hg.rest.outstanding,
    hg.rest.counted⟩, hg.fits, hg.ids, hg.auths, hg.link, hg.claims, hg.vans, hg.reservations, hg.manifest⟩,
    fun hw1 => ⟨(hw hw1).ready, (hw hw1).hiring, (hw hw1).accounts⟩⟩

theorem Inv.configSet (h : Inv l w none none s) (fields : List Byte) (p : Port) :
    Inv l w none none (configSet fields p s).1 := by
  obtain ⟨hr, -, hn⟩ := (settingsLaw_iff s).mp h.good.settings
  unfold Machine.configSet
  dsimp only
  split
  · exact h
  rename_i hpass
  obtain ⟨hr', hlow'⟩ := configRefusal_none hr hpass
  have hset : Inv l w none none { s with settings := writeSettings (configSettings fields) s.settings } :=
    h.settings ((settingsLaw_iff _).mpr ⟨hr', hlow', hn⟩)
  have hturned := hset.calm (calm_patrolTurned s.settings.patrolEnable
    (writeSettings (configSettings fields) s.settings).patrolEnable _)
  unfold applySettings
  exact .ite _ (fun _ => hturned.calm (calm_evalHeld _)) fun _ => hturned

theorem Inv.journalRelease (h : Inv l w none none s) (fields : List Byte) (p : Port) :
    Inv l w none none (journalRelease fields p s).1 := by
  unfold Machine.journalRelease
  dsimp only
  split
  · exact h
  · refine Inv.calm (s := { s with journal := { s.journal with
      records := s.journal.records.drop (numAt fields 0 2) } }) (h.calm ?_) (calm_evalHeld _)
    exact calm_aside rfl rfl rfl rfl rfl id

theorem Inv.timeSet (h : Inv l w none none s) (fields : List Byte) (p : Port) :
    Inv l w none none (timeSet fields p s).1 := by
  unfold Machine.timeSet
  dsimp only
  split
  · exact h
  · exact (h.calm (t := { s with clock := { minute := numAt fields 0 4, second := 0 } })
      (calm_aside rfl rfl rfl rfl rfl id)).overdueCheck

theorem Inv.fullAudit (h : Inv l w none none s) (fields : List Byte) (p : Port) :
    Inv l w none none (fullAudit fields p s).1 := by
  unfold Machine.fullAudit
  split
  · exact h
  · refine (h.calm (calm_modAudit (f := fun _ =>
      { kind := .full p, toDo := s.installedDocks, outstanding := [], mismatches := 0, counted := [] })
      (fun d hd => .inr (List.mem_range.mp hd)) nofun nofun)).calm (calm_auditStep _)

/-! ## Requests that leave the laws alone -/

theorem calm_setPort (p : Port) (x : PortState) (s : State) : Calm s (setPort p x s) := calm_modPort p (fun _ => x) s

theorem aside_calm : Aside Calm :=
  ⟨Calm.refl, fun _ _ _ _ => calm_aside rfl rfl rfl rfl rfl id, calm_setPort⟩

/-- Every request's rule but that of STATION_RESET, by its code (R169). -/
theorem Inv.rule (h : Inv l w none none s) {code : Byte} {rule : List Byte → Port → State → Answer}
    (hr : blockRule code = some rule) (hcode : code ≠ 0x36#8) (fields : List Byte) (p : Port) :
    Inv l w none none (rule fields p s).1 := by
  obtain ⟨take, endN, mask⟩ := aside_calm.notices fields p s
  obtain ⟨query, read, card, peek, dock⟩ := aside_calm.onlyReads fields p s
  obtain ⟨policy, tariff, attr⟩ := aside_calm.tableOnly fields p s
  have orElse {c : Prop} [Decidable c] {a : List Byte → Port → State → Answer}
      {o : Option (List Byte → Port → State → Answer)} (ha : Inv l w none none (a fields p s).1)
      (ho : ∀ r, o = some r → Inv l w none none (r fields p s).1) :
      ∀ r, (if c then some a else o) = some r → Inv l w none none (r fields p s).1 := by
    intro r hr
    split at hr
    · cases hr
      exact ha
    · exact ho r hr
  have orReset {o : Option (List Byte → Port → State → Answer)} (ho : ∀ r, o = some r → Inv l w none none (r fields p s).1) :
      ∀ r, (if code = 0x36#8 then some stationResetRequest else o) = some r → Inv l w none none (r fields p s).1 := by
    rw [if_neg hcode]
    exact ho
  suffices hall : ∀ r, blockRule code = some r → Inv l w none none (r fields p s).1 from hall rule hr
  exact orElse (h.calm take) <| orElse h <| orElse (h.calm endN) <| orElse (h.calm mask) <| orElse (h.calm dock) <|
    orElse h <| orElse (h.hireStart fields p) <| orElse (h.calm query) <| orElse (h.reportFault fields p) <| orElse h <|
    orElse (h.cardSet fields p) <| orElse (h.cardRemove fields p) <| orElse (h.calm card) <| orElse h <|
    orElse (h.authGrant fields p) <| orElse (h.authDeny fields p) <| orElse (h.linkState fields p) <|
    orElse (h.calm policy) <| orElse (h.calm tariff) <| orElse (h.calm attr) <| orElse (h.hireCloseRemote fields p) <|
    orElse (h.hireRestore fields p) <| orElse (h.calm read) <| orElse (h.calm peek) <| orElse (h.journalRelease fields p) <|
    orElse (h.configSet fields p) <| orElse (h.timeSet fields p) <| orReset <|
    orElse (h.fullAudit fields p) <| orElse (h.batchOpen fields p) <| orElse (h.batchTake fields p) <|
    orElse (h.batchClose fields p) <| orElse (h.batchRead fields p) <| orElse (h.dockRestore fields p) <|
    orElse (h.bikeClear fields p) fun _ h => absurd h nofun

end

end Sys2Proof.Machine
end

section
/-! PROOFS. The two starts of the station leave the laws of the Dock Table, the Auth Queue and the batch, and a station that
is not READY (R185, R186, R187). -/

namespace Sys2Proof.Machine

section
variable {l : Bool} {s t : State} {d : Nat} {c : Settings}

/-! ## The start-up audit does not end with its first pass -/

/-- The station is STARTING, and its audit has docks to do or outstanding (R147, R185). -/
structure Auditing (s : State) : Prop where
  station : s.station = .starting
  kind : s.audit.kind = .startUp
  owing : s.audit.toDo ≠ [] ∨ s.audit.outstanding ≠ []

theorem BusOnly.auditing (h : BusOnly s t) (ha : Auditing s) : Auditing t := by
  rw [h.1]
  exact ⟨ha.station, ha.kind, ha.owing⟩

theorem insertDock_ne_nil (d : Nat) (L : List Nat) : insertDock d L ≠ [] := by
  cases L with
  | nil => exact nofun
  | cons e L =>
    unfold insertDock
    split
    · exact nofun
    · split <;> exact nofun

theorem auditing_passOver (L : List Nat) (s : State) (h : Auditing s) : Auditing (passOver L s) := by
  induction L generalizing s with
  | nil => exact h
  | cons d L ih =>
    have hfull : s.audit.isFull = false := by
      unfold Audit.isFull
      rw [h.kind]
    have hplace := (placeQuiet_busOnly .status .patrol d s).auditing h
    unfold passOver
    rw [hfull]
    simp only [Bool.false_and, Bool.false_eq_true, if_false]
    split
    · exact ih s h
    · split
      · rename_i hp
        rw [hp] at hplace
        exact ih _ ⟨hplace.station, hplace.kind, .inr (insertDock_ne_nil d _)⟩
      · rename_i hp
        rw [hp] at hplace
        exact hplace

theorem auditStep_station (h : Auditing s) : (auditStep s).station = .starting := by
  have hpass : Auditing (auditPass s) := by
    unfold auditPass
    split
    · exact h
    · exact auditing_passOver _ s h
  unfold auditStep auditEnd
  rw [if_neg fun hn => hpass.owing.elim (fun h1 => h1 hn.1) fun h2 => h2 hn.2]
  exact hpass.station

/-! ## What a station reset leaves -/

/-- STARTING, with the dock bus and the Auth Queue emptied and the settings as they were (R187, steps 1 to 4). -/
structure Cleared (c : Settings) (s : State) : Prop where
  station : s.station = .starting
  settings : s.settings = c
  auths : s.authQueue = []
  bus : s.bus.busy = []

theorem Cleared.tells (h : Cleared c s) (ht : Tells s t) : Cleared c t :=
  ⟨ht.station.trans h.station, ht.settings.trans h.settings, ht.authQueue.trans h.auths, by rw [ht.bus]; exact h.bus⟩

/-- With the queue empty and no command in flight, the controller takes nothing but a poll (R28). -/
theorem pollIfLow_quiet (hq : s.bus.queue = []) (hi : s.bus.inFlight = none) :
    (pollIfLow s).docks = s.docks ∧ (pollIfLow s).bus.busy = [] := by
  have hbusy : s.bus.busy = [] := by
    unfold Bus.busy
    rw [hq, hi]
    rfl
  unfold pollIfLow
  split
  · unfold kick
    split
    · unfold takeNext
      split
      · exact ⟨rfl, hbusy⟩
      · refine ⟨rfl, ?_⟩
        unfold Bus.busy
        simp [modBus, hq]
      · rename_i hn
        have := nextOnBus_mem hn
        rw [show (modBus (fun b => { b with pollSlot := true }) s).bus.queue = [] from hq] at this
        cases this
    · exact ⟨rfl, hbusy⟩
  · exact ⟨rfl, hbusy⟩

theorem resetFirst_quiet (s : State) :
    (resetFirst s).docks = s.docks.map (fun k => { k with owed := none }) ∧ (resetFirst s).bus.busy = [] :=
  pollIfLow_quiet (s := resetBus { s with station := .starting, docks := s.docks.map fun k => { k with owed := none } })
    rfl rfl

theorem resetFirst_cleared (s : State) : Cleared s.settings (resetFirst s) := by
  have hpoll := (pollIfLow_busOnly
    (resetBus { s with station := .starting, docks := s.docks.map fun k => { k with owed := none } })).1
  have hstation := congrArg State.station hpoll
  have hsettings := congrArg State.settings hpoll
  exact ⟨hstation, hsettings, rfl, (resetFirst_quiet s).2⟩

theorem resetFirst_installed (s : State) : (resetFirst s).installed = s.installed := by
  have hpoll := (pollIfLow_busOnly
    (resetBus { s with station := .starting, docks := s.docks.map fun k => { k with owed := none } })).1
  have hinstalled := congrArg State.installed hpoll
  exact hinstalled

theorem resetFirst_dock (s : State) (d : Nat) : (resetFirst s).dock d = { s.dock d with owed := none } := by
  unfold State.dock
  rw [(resetFirst_quiet s).1, Vector.getElem?_map]
  cases s.docks[d]? <;> rfl

/-- An open batch ends at a reset (R119). -/
theorem abortBatch_spec (h : Cleared c s) : Cleared c (abortBatch s) ∧ (abortBatch s).batch = none ∧
    (abortBatch s).docks = s.docks ∧ (abortBatch s).installed = s.installed := by
  unfold abortBatch
  split
  · rename_i b _
    have ht := enterRecord_tells (.batchClosed b.crew b.kind .reset b.done b.pendingCount) s
    have hc := h.tells ht
    exact ⟨⟨hc.station, hc.settings, hc.auths, hc.bus⟩, rfl, ht.docks, ht.installed⟩
  · exact ⟨h, ‹_›, rfl, rfl⟩

/-! ## The docks installed -/

theorem missedWhenDropped_tells (d : Nat) (s : State) : Tells s (missedWhenDropped d s) := by
  unfold missedWhenDropped
  split
  · exact enterRecord_tells _ s
  · exact .refl s

theorem dropDock_dock (hd : d < Config.docks) (e : Nat) (s : State) :
    (dropDock d s).dock e = if e = d then Dock.powerOn else s.dock e := by
  rw [dropDock_eq]
  split
  · subst e
    exact dock_setDock_self hd _ _
  · rename_i he
    rw [dock_setDock_other (Ne.symm he)]
    unfold State.dock
    rw [hireWhenGone_docks, (missedWhenDropped_tells d s).docks]

theorem dropDock_cleared (h : Cleared c s) (hb : s.batch = none) (d : Nat) :
    Cleared c (dropDock d s) ∧ (dropDock d s).batch = none := by
  have ht := missedWhenDropped_tells d s
  have hc := h.tells ht
  rw [dropDock_eq]
  unfold hireWhenGone
  split
  · exact ⟨⟨hc.station, hc.settings, hc.auths, hc.bus⟩, ht.batch.trans hb⟩
  · exact ⟨⟨hc.station, hc.settings, hc.auths, hc.bus⟩, ht.batch.trans hb⟩

theorem dock_foldl_powerOn {f : State → Nat → State}
    (hf : ∀ t d e, d < Config.docks → (f t d).dock e = if e = d then Dock.powerOn else t.dock e) (L : List Nat)
    (hL : ∀ d ∈ L, d < Config.docks) (s : State) (e : Nat) :
    (L.foldl f s).dock e = if e ∈ L then Dock.powerOn else s.dock e := by
  induction L generalizing s with
  | nil => simp
  | cons d L ih =>
    rw [List.foldl_cons, ih (fun a ha => hL a (List.mem_cons_of_mem d ha)), hf s d e (hL d List.mem_cons_self)]
    by_cases he : e = d <;> simp [he]

theorem mem_docksFrom {a b : Nat} : d ∈ docksFrom a b ↔ a ≤ d ∧ d < b := by
  simp [docksFrom, and_comm]

theorem setDock_powerOn_dock (t : State) (d e : Nat) (hd : d < Config.docks) :
    (setDock d Dock.powerOn t).dock e = if e = d then Dock.powerOn else t.dock e := by
  split
  · subst e
    exact dock_setDock_self hd _ _
  · rename_i he
    exact dock_setDock_other (Ne.symm he) _ _

/-- Below the number of docks installed from now on the records are as they were; the rest stand at power-on (R9). -/
theorem renumberDocks_dock (hn : s.installed ≤ Config.docks) (hm : s.settings.docksNext ≤ Config.docks)
    (hhigh : ∀ d, s.installed ≤ d → s.dock d = Dock.powerOn) (d : Nat) :
    (renumberDocks s).dock d = if d < s.settings.docksNext then s.dock d else Dock.powerOn := by
  have hsame (hd : s.installed ≤ d) : s.dock d = Dock.powerOn := hhigh d hd
  unfold renumberDocks
  split
  · rw [dock_foldl_powerOn (fun t a e ha => dropDock_dock ha e t) _ fun a ha => (mem_docksFrom.mp ha).2.trans_le hn]
    simp only [mem_docksFrom]
    split
    · rw [if_neg (by omega)]
    · split
      · rfl
      · exact hsame (by omega)
  · rw [dock_foldl_powerOn (fun t a e ha => setDock_powerOn_dock t a e ha) _
      fun a ha => (mem_docksFrom.mp ha).2.trans_le hm]
    simp only [mem_docksFrom]
    split
    · rename_i hd
      rw [if_pos hd.2, hsame hd.1]
    · split
      · rfl
      · exact hsame (by omega)

theorem renumberDocks_cleared (h : Cleared c s) (hb : s.batch = none) :
    Cleared c (renumberDocks s) ∧ (renumberDocks s).batch = none := by
  have hfold (f : State → Nat → State)
      (hf : ∀ t d, Cleared c t ∧ t.batch = none → Cleared c (f t d) ∧ (f t d).batch = none) (L : List Nat) :
      Cleared c (L.foldl f s) ∧ (L.foldl f s).batch = none := by
    exact List.foldlRecOn L f ⟨h, hb⟩ fun t ht d _ => hf t d ht
  unfold renumberDocks
  split
  · exact hfold _ (fun t d ht => dropDock_cleared ht.1 ht.2 d) _
  · exact hfold (fun t d => setDock d Dock.powerOn t) (fun t d ht => ⟨⟨ht.1.station, ht.1.settings, ht.1.auths, ht.1.bus⟩, ht.2⟩) _

/-! ## The records of the docks -/

theorem resetDock_agrees (k : Dock) : (resetDock k).agrees = true := by
  unfold resetDock
  split <;> simp [Dock.agrees, Dock.powerOn, Dock.plain]

theorem resetDock_id {k : Dock} {i : Nat} (h : recordedId (resetDock k) = some i) : recordedId k = some i := by
  unfold resetDock at h
  split at h
  · exact (recordedId_senseAborted k.bike).symm.trans h
  · cases h

theorem resetDock_state (k : Dock) : (resetDock k).state = .retired ∨ (resetDock k).state = .unverified := by
  unfold resetDock
  split
  · exact .inl rfl
  · exact .inr rfl

theorem resetDock_vanHold (k : Dock) : (resetDock k).vanHold = false := by
  unfold resetDock
  split <;> rfl

theorem resetDocks_dock (hm : s.installed ≤ Config.docks) (d : Nat) :
    (resetDocks s).dock d = if d < s.installed then resetDock (s.dock d) else s.dock d := by
  unfold resetDocks
  have hdock := dock_foldl_modDock (f := resetDock) (List.nodup_range (n := s.installed))
    (fun a ha => (List.mem_range.mp ha).trans_le hm) s d
  simp only [List.mem_range] at hdock
  exact hdock

/-- The state of a station reset up to its first audit pass: no dock is CLAIMED or RESERVED, none is held for the van,
and every bike id stands where it stood (R8, R9). -/
structure Restarted (s t : State) : Prop where
  cleared : Cleared s.settings t
  installed : t.installed = s.settings.docksNext
  batch : t.batch = none
  docks : ∀ d, t.dock d = resetDock (s.dock d) ∨ t.dock d = Dock.powerOn
  high : ∀ d, t.installed ≤ d → t.dock d = Dock.powerOn
  cursor : t.patrol.cursor = 0
  audit : t.audit = startUpAudit t

theorem Restarted.state (h : Restarted s t) (d : Nat) : (t.dock d).state = .retired ∨ (t.dock d).state = .unverified := by
  rcases h.docks d with hd | hd
  · rw [hd]
    exact resetDock_state _
  · rw [hd]
    exact .inr rfl

theorem Restarted.id (h : Restarted s t) {i : Nat} (hd : recordedId (t.dock d) = some i) : recordedId (s.dock d) = some i := by
  rcases h.docks d with hk | hk
  · exact resetDock_id (hk ▸ hd)
  · rw [hk] at hd
    cases hd

/-- A station reset leaves the laws of the Dock Table, the Auth Queue and the batch. -/
theorem Restarted.good (h : Restarted s t) (hg : Good l none s) : Good true none t := by
  obtain ⟨hr, hmarks, -⟩ := (settingsLaw_iff s).mp hg.settings
  have hset : t.settings = s.settings := h.cleared.settings
  have hclaims : t.claims = [] := by
    unfold State.claims
    rw [h.cleared.auths]
    rfl
  have hplan : t.plan = none := by
    unfold State.plan
    rw [h.batch]
    rfl
  have hrange := hr.docksNext
  rw [← h.installed] at hrange
  have haudit := h.audit
  refine ⟨(settingsLaw_iff t).mpr ?_, ⟨⟨?_, ?_, ?_⟩, hrange.2, h.high, ?_, ?_, ?_, ?_⟩, fun d => ?_, fun d e i hd he => ?_, ?_,
    fun _ => .inr hclaims, fun d => ?_, fun d hv => ?_, ?_, fun b hb => ?_⟩
  · rw [hset]
    exact ⟨hr, hmarks, hrange⟩
  · have hq := (List.append_eq_nil_iff.mp h.cleared.bus).1
    rw [List.map_eq_nil_iff.mp hq]
    exact Nat.zero_le _
  · rw [h.cleared.bus]
    exact List.nodup_nil
  · rw [h.cleared.bus]
    nofun
  · rw [h.cursor]
    omega
  · rw [haudit]
    exact fun d hd => List.mem_range.mp hd
  · rw [haudit]
    nofun
  · rw [haudit]
    nofun
  · rw [Dock.Fits, if_neg nofun]
    rcases h.docks d with hd | hd
    · rw [hd]
      exact resetDock_agrees _
    · rw [hd]
      rfl
  · exact hg.ids d e i (h.id hd) (h.id he)
  · rw [hclaims]
    exact ⟨Nat.zero_le _, List.nodup_nil, nofun, List.nodup_nil, List.nodup_nil⟩
  · rw [hclaims]
    refine ⟨fun ⟨e, he, _⟩ => absurd he List.not_mem_nil, fun ⟨hc, _⟩ => ?_⟩
    rcases h.state d with hs | hs <;> rw [hs] at hc <;> cases hc
  · have hnone : (t.dock d).vanHold = false := by
      rcases h.docks d with hd | hd
      · rw [hd]
        exact resetDock_vanHold _
      · rw [hd]
        rfl
    rw [hnone] at hv
    cases hv
  · refine Nat.le_of_eq (List.length_eq_zero_iff.mpr (List.filter_eq_nil_iff.mpr fun d _ ht => ?_)) |>.trans (Nat.zero_le _)
    rw [Bool.and_eq_true, beq_iff_eq] at ht
    rcases h.state d with hs | hs <;> rw [hs] at ht <;> cases ht.1
  · rw [hplan] at hb
    cases hb

/-! ## The two starts -/

/-- The steps of a station reset before its start-up audit (R187). -/
def resetSteps (s : State) : State := resetPorts (resetPatrol (resetDocks (applyInstalled (abortBatch (resetFirst s)))))

theorem stationReset_eq (s : State) :
    stationReset s = auditStep { resetSteps s with audit := startUpAudit (resetSteps s) } := rfl

theorem journalNotices_tells (s : State) : Tells s (journalNotices s) := by
  have hhigh (t : State) : Tells t (if t.journal.held then raise (.journalHigh t.depth) t else t) := by
    split
    · exact raise_tells _ t
    · exact .refl t
  have hdata : Tells s (if 0 < s.depth then raise (.journalData s.depth) s else s) := by
    split
    · exact raise_tells _ s
    · exact .refl s
  exact hdata.trans (hhigh _)

theorem Cleared.applied (h : Cleared c (renumberDocks s)) : Cleared c (applyInstalled s) :=
  ⟨h.station, h.settings, h.auths, h.bus⟩

theorem resetDocks_cleared (h : Cleared c s) (hb : s.batch = none) :
    Cleared c (resetDocks s) ∧ (resetDocks s).batch = none ∧ (resetDocks s).installed = s.installed := by
  refine List.foldlRecOn (motive := fun t => Cleared c t ∧ t.batch = none ∧ t.installed = s.installed) s.installedDocks _
    ⟨h, hb, rfl⟩ fun t ht d _ => ?_
  obtain ⟨hc, hbatch, hn⟩ := ht
  exact ⟨⟨hc.station, hc.settings, hc.auths, hc.bus⟩, hbatch, hn⟩

theorem resetPorts_spec (h : Cleared c s) :
    Cleared c (resetPorts (resetPatrol s)) ∧ (resetPorts (resetPatrol s)).docks = s.docks ∧
      (resetPorts (resetPatrol s)).installed = s.installed ∧ (resetPorts (resetPatrol s)).batch = s.batch ∧
      (resetPorts (resetPatrol s)).patrol.cursor = 0 := by
  let t : State := { resetPatrol s with
    terminal := resetPort s.terminal
    uplink := resetPort s.uplink
    service := resetPort s.service }
  have hc : Cleared c t := ⟨h.station, h.settings, h.auths, h.bus⟩
  have ht : Tells t (resetPorts (resetPatrol s)) := journalNotices_tells t
  exact ⟨hc.tells ht, ht.docks, ht.installed, ht.batch,
    congrArg Patrol.cursor ht.patrol⟩

/-- The start-up audit begins over the records that the reset has left (R147). -/
theorem restarted_startUp (hc : Cleared s.settings t) (hn : t.installed = s.settings.docksNext) (hb : t.batch = none)
    (hd : ∀ d, t.dock d = if d < s.settings.docksNext then resetDock (s.dock d) else Dock.powerOn)
    (hp : t.patrol.cursor = 0) : Restarted s { t with audit := startUpAudit t } := by
  refine ⟨⟨hc.station, hc.settings, hc.auths, hc.bus⟩, hn, hb, fun d => ?_, fun d hle => ?_, hp, rfl⟩
  · have hdock : ({ t with audit := startUpAudit t } : State).dock d = _ := hd d
    rw [hdock]
    split
    · exact .inl rfl
    · exact .inr rfl
  · have hle' : s.settings.docksNext ≤ d := hn ▸ hle
    exact (hd d).trans (if_neg (Nat.not_lt.mpr hle'))

theorem restarted_resetSteps (h : Good l none s) :
    Restarted s { resetSteps s with audit := startUpAudit (resetSteps s) } := by
  unfold resetSteps
  obtain ⟨hr, -, -⟩ := (settingsLaw_iff s).mp h.settings
  obtain ⟨hc1, hb1, hd1, hn1⟩ := abortBatch_spec (resetFirst_cleared s)
  have hdock1 (d : Nat) : (abortBatch (resetFirst s)).dock d = { s.dock d with owed := none } := by
    unfold State.dock
    rw [hd1]
    exact resetFirst_dock s d
  have hnext : (abortBatch (resetFirst s)).settings.docksNext ≤ Config.docks := by
    rw [hc1.settings]
    exact hr.docksNext.2
  have hn2 : (abortBatch (resetFirst s)).installed = s.installed := hn1.trans (resetFirst_installed s)
  have hdock2 := renumberDocks_dock (s := abortBatch (resetFirst s)) (hn2 ▸ h.rest.few) hnext
    fun d hd => by
      rw [hdock1, h.rest.high d (hn2 ▸ hd)]
      rfl
  obtain ⟨hc3, hb3, hn3⟩ := resetDocks_cleared (s := applyInstalled (abortBatch (resetFirst s)))
    (renumberDocks_cleared hc1 hb1).1.applied (renumberDocks_cleared hc1 hb1).2
  have hm : (applyInstalled (abortBatch (resetFirst s))).installed = s.settings.docksNext :=
    congrArg Settings.docksNext hc1.settings
  have hdock3 := resetDocks_dock (s := applyInstalled (abortBatch (resetFirst s))) hnext
  have hdocks (d : Nat) : (resetDocks (applyInstalled (abortBatch (resetFirst s)))).dock d =
      if d < s.settings.docksNext then resetDock (s.dock d) else Dock.powerOn := by
    have hd2 : (applyInstalled (abortBatch (resetFirst s))).dock d = _ := hdock2 d
    rw [hdock3, hm, hd2, hc1.settings, hdock1]
    split <;> rfl
  generalize resetDocks (applyInstalled (abortBatch (resetFirst s))) = u at *
  obtain ⟨hc, hd, hn, hb, hp⟩ := resetPorts_spec hc3
  refine restarted_startUp hc (hn.trans (hn3.trans hm)) (hb.trans hb3) (fun d => ?_) hp
  rw [← hdocks d]
  unfold State.dock
  rw [hd]

/-- A station reset leaves the laws, and a station that is STARTING (R185, R187). -/
theorem Good.stationReset (h : Good l none s) : Good true none (stationReset s) ∧ (stationReset s).station = .starting := by
  have hr := restarted_resetSteps h
  have hg := hr.good h
  rw [stationReset_eq]
  refine ⟨(hg.calm (calm_auditStep _)).good, auditStep_station ⟨hr.cleared.station, rfl, .inl fun hn => ?_⟩⟩
  have hpos := hg.rest.cursor
  have hlen := congrArg List.length hn
  simp only [startUpAudit, State.installedDocks, List.length_range, List.length_nil] at hlen
  have hi : (resetSteps s).installed = 0 := hlen
  have hpos' : (resetSteps s).patrol.cursor < (resetSteps s).installed := hpos
  omega

end

end Sys2Proof.Machine
end

section
/-! PROOFS. The frames of a port (R166, R168) and every step keep the laws. A frame that asks for a station reset leaves its
own reply in transmission, so that the frames after it in one event only wait. -/

namespace Sys2Proof.Machine

section
variable {w : Bool} {s t : State} {p : Port}

/-- What an event leaves: the laws of the Dock Table, the Auth Queue and the batch, and those of hires and cards where it
began with them and the station is READY after it. -/
structure Stays (w : Bool) (t : State) : Prop where
  good : Good true none t
  whole : w = true → t.station = .ready → Whole none t

theorem Inv.stays (h : Inv true w none none t) : Stays w t := ⟨h.good, fun hw _ => h.whole hw⟩

theorem Stays.of_starting (h : Good true none t) (hs : t.station = .starting) : Stays w t :=
  ⟨h, fun _ hr => absurd (hs.symm.trans hr) nofun⟩

/-! ## Frames -/

/-- The laws in the middle of the frames of a port: kept, or the station has been reset by one of them (R168, R187). -/
inductive Served (w : Bool) (p : Port) (t : State) : Prop where
  | kept (h : Inv true w none none t)
  | restarted (h : Good true none t) (hs : t.station = .starting) (hr : (t.port p).reply.isSome = true)

theorem Served.stays (h : Served w p t) : Stays w t := by
  cases h with
  | kept h => exact h.stays
  | restarted h hs _ => exact .of_starting h hs

theorem modPort_port (p : Port) (f : PortState → PortState) (s : State) : (modPort p f s).port p = f (s.port p) := by
  cases p <;> rfl

/-- A change of the port that leaves its reply. -/
theorem Served.modPort (h : Served w p s) {f : PortState → PortState} (hf : ∀ x, (f x).reply = x.reply) :
    Served w p (modPort p f s) := by
  cases h with
  | kept h => exact .kept (h.calm (calm_modPort p f s))
  | restarted h hs hr =>
    refine .restarted (h.calm (calm_modPort p f s)).good ((modPort_station p f s).trans hs) ?_
    rw [modPort_port, hf]
    exact hr

theorem Served.partialFrame (h : Served w p s) (bytes : List Byte) :
    Served w p (Machine.modPort p (fun x => { x with partialFrame := bytes }) s) := h.modPort fun _ => rfl

/-- A frame is taken: STATION_RESET restarts the station, every other keeps the laws (R168, R169). -/
theorem Inv.takeFrame (h : Inv true w none none s) (fr : Frame) (p : Port) : Served w p (takeFrame fr p s) := by
  have hsend (a : Answer) (ha : Inv true w none none a.1) : Served w p (sendReply p fr.code fr.tag a) :=
    .kept (ha.calm (calm_modPort p _ a.1))
  unfold Machine.takeFrame answerTo
  split
  · exact hsend _ h
  · split
    · rename_i rule hrule
      by_cases hcode : fr.code = 0x36#8
      · rw [hcode] at hrule
        have hreset : rule = stationResetRequest := (Option.some.inj hrule).symm
        rw [hreset]
        obtain ⟨hg, hs⟩ := h.good.stationReset
        refine .restarted (hg.calm (calm_modPort p _ (stationReset s))).good ((modPort_station p _ _).trans hs) ?_
        rw [sendReply, modPort_port]
        rfl
      · exact hsend _ (h.rule hrule hcode fr.fields p)
    · exact hsend _ h

theorem Served.frameCompletes (h : Served w p s) (fr : Frame) : Served w p (frameCompletes fr p s) := by
  unfold Machine.frameCompletes
  split
  · exact h
  · split
    · exact h.modPort fun _ => rfl
    · rename_i hn
      cases h with
      | kept h => exact h.takeFrame fr p
      | restarted _ _ hr => exact absurd hr hn

theorem Served.searchOn (n : Nat) (h : Served w p s) : Served w p (searchOn n p s) := by
  induction n generalizing s with
  | zero => exact h
  | succ n ih =>
    unfold Machine.searchOn
    dsimp only
    split
    · exact ih ((h.partialFrame _).frameCompletes _)
    · exact h.modPort fun _ => rfl

theorem Inv.frameArrives (h : Inv true w none none s) (p : Port) (code tag : Byte) (fields : List Byte) :
    Stays w (frameArrives p code tag fields s) := by
  unfold Machine.frameArrives
  split
  · exact h.stays
  · exact (((Served.kept h).partialFrame _).frameCompletes _).stays

theorem Inv.onRequestFrameBadCheck (h : Inv true w none none s) (p : Port) (bytes : List Byte) :
    Stays w (onRequestFrameBadCheck p bytes s) := by
  unfold Machine.onRequestFrameBadCheck
  split
  · exact h.stays
  · exact (((Served.kept h).partialFrame _).searchOn _).stays

theorem Inv.onReplySent (h : Inv true w none none s) (p : Port) : Stays w (onReplySent p s) := by
  have hport (f : PortState → PortState) : Inv true w none none (modPort p f s) := h.calm (calm_modPort p f s)
  unfold Machine.onReplySent
  split
  · exact h.stays
  · dsimp only
    split
    · exact ((hport _).takeFrame _ p).stays
    · exact (hport _).stays

/-- The rows that change nothing but their port's line (R166, R167). -/
theorem calm_line (p : Port) (length : Byte) (s : State) :
    Calm s (onInterByteTimeout p s) ∧ Calm s (onFrameAttemptEnded p length s) ∧ Calm s (onPortReset p s) ∧
      Calm s (onLineReturnsToMarking p s) :=
  ⟨.ite _ (fun _ => .refl s) fun _ => calm_modPort p _ s, .ite _ (fun _ => .refl s) fun _ => calm_modPort p _ s,
    .ite _ (fun _ => .refl s) fun _ => calm_setPort p _ s, .ite _ (fun _ => calm_modPort p _ s) fun _ => .refl s⟩

/-! ## The pins and every command -/

theorem calm_outside (q : List Instr) (low : Bool) (s : State) : Calm s { s with pending := q, pinLow := low } :=
  calm_aside rfl rfl rfl rfl rfl id

theorem Inv.onResetPinLow (h : Inv true w none none s) : Stays w (onResetPinLow s) := by
  unfold Machine.onResetPinLow
  split
  · exact h.stays
  · obtain ⟨hg, hs⟩ := (h.calm (calm_outside s.pending true s)).good.stationReset
    exact .of_starting hg hs

theorem calm_onResetPinHigh (low : Bool) (s : State) : Calm s (onResetPinHigh low s) :=
  .ite _ (fun _ => (((calm_outside s.pending false s).trans (calm_sampleWire low _)).trans (calm_pollIfLow _)).trans
    (calm_auditStep _)) fun _ => .refl s

/-- POWER_ON starts from the reset values (R186). -/
theorem Good.onPowerOn (h : Good true none State.reset) (low : Bool) (s : State) : Stays w (onPowerOn low s) := by
  have hstart : Auditing (pollIfLow (sampleWire low { State.reset with pending := s.pending })) :=
    ((sampleWire_busOnly low _).trans (pollIfLow_busOnly _)).auditing ⟨rfl, rfl, .inl nofun⟩
  have hcalm := ((calm_outside s.pending false State.reset).trans (calm_sampleWire low _)).trans (calm_pollIfLow _)
  exact .of_starting (h.calm (hcalm.trans (calm_auditStep _))).good (auditStep_station hstart)

/-- Every command keeps the laws. -/
theorem Inv.exec (hreset : Good true none State.reset) (h : Inv true w none none s) {c : Instr}
    (he : exec c s = .next t) : Stays w t := by
  have frame (p : Port) (code tag : Byte) (fields : List Byte) : Stays w (Machine.frameArrives p code tag fields s) :=
    h.frameArrives p code tag fields
  cases c <;> cases he
  case powerOn low => exact hreset.onPowerOn low s
  case resetPinLow => exact h.onResetPinLow
  case resetPinHigh low => exact (h.calm (calm_onResetPinHigh low s)).stays
  case secondTick => exact h.onSecondTick.stays
  case stationMinuteIncrease => exact h.onStationMinuteIncrease.stays
  case releaseWindowExpiry d => exact (h.calm (calm_onReleaseWindowExpiry d s)).stays
  case ejectWindowExpiry d => exact (h.calm (calm_onEjectWindowExpiry d s)).stays
  case authTimeout => exact h.onAuthTimeout.stays
  case batchIdleExpiry => exact h.onBatchIdleExpiry.stays
  case senseTimerExpiry d => exact (h.calm (calm_onSenseTimerExpiry d s)).stays
  case patrolIntervalExpiry => exact (h.calm (calm_onPatrolIntervalExpiry s)).stays
  case patrolPostscalerExpiry => exact (h.calm (calm_onPatrolPostscalerExpiry s)).stays
  case leak => exact (h.calm (calm_onLeak s)).stays
  case pollHoldoffClear low => exact (h.calm (calm_onPollHoldoffClear low s)).stays
  case identRereadRetry => exact (h.calm (calm_onIdentRereadRetry s)).stays
  case auditPass => exact (h.calm (calm_onAuditPass s)).stays
  case dockAttentionLow => exact (h.calm (calm_onDockAttentionLow s)).stays
  case dockCommandSent => exact (h.calm (calm_onDockCommandSent s)).stays
  case dockResponseTimeout => exact h.onDockResponseTimeout.stays
  case dockFrameIgnored bytes low => exact (h.calm (calm_onDockFrameIgnored bytes low s)).stays
  case opened dock => exact (h.onOpened dock).stays
  case lockedWith dock tag kind => exact (h.onLockedWith dock tag kind).stays
  case lockedEmpty dock => exact (h.onLockedEmpty dock).stays
  case statusIs dock tag flags => exact (h.onStatusIs dock tag flags).stays
  case senseStarted dock => exact (h.onSenseStarted dock).stays
  case noEvent dock => exact (h.calm (calm_onNoEvent dock s)).stays
  case inserted dock tag kind low => exact (h.onInserted dock tag kind low).stays
  case removed dock low => exact (h.onRemoved dock low).stays
  case lockFault dock low => exact (h.onLockFault dock low).stays
  case senseDone dock level low => exact (h.onSenseDone dock level low).stays
  case requestFrameBadCheck p bytes => exact h.onRequestFrameBadCheck p bytes
  case interByteTimeout p => exact (h.calm (calm_line p 0 s).1).stays
  case framingError p => exact (h.calm (calm_line p 0 s).1).stays
  case frameAttemptEnded p length => exact (h.calm (calm_line p length s).2.1).stays
  case portReset p => exact (h.calm (calm_line p 0 s).2.2.1).stays
  case lineReturnsToMarking p => exact (h.calm (calm_line p 0 s).2.2.2).stays
  case replySent p => exact h.onReplySent p
  case dockFrameKindDiscarded dock kind => exact (h.calm (calm_onDockFrameKindDiscarded dock kind s)).stays
  all_goals exact frame _ _ _ _

/-- Every step keeps the laws: it takes a command off the queue and carries it out. -/
theorem Inv.step (hreset : Good true none State.reset) (h : Inv true w none none s) (hs : step s = .next t) :
    Stays w t := by
  unfold Machine.step at hs
  split at hs
  · cases hs
    exact h.stays
  · exact (h.calm (calm_outside _ s.pinLow s)).exec hreset hs

end

end Sys2Proof.Machine
end

section
/-! PROOFS. The laws as the statements write them, and the same laws as the proofs use them; and with that the return
permission check and the laws of the Dock Table, the Auth Queue, the batch, the bikes and the hires (R4, R6, R16, R63, R76,
R81, R83 to R85, R103). -/

namespace Sys2Proof.Machine

section
variable {s : State} {d : Nat}

/-! ## The Dock Table -/

theorem dock_high (hd : Config.docks ≤ d) (s : State) : s.dock d = Dock.powerOn := by
  unfold State.dock
  rw [Vector.getElem?_eq_none hd]
  rfl

/-- Every dock record agrees with its state (R4). -/
theorem dockLaw_iff (s : State) : dockLaw s = true ↔ ∀ d, (s.dock d).agrees = true := by
  unfold dockLaw
  rw [List.all_eq_true]
  constructor
  · intro h d
    by_cases hd : d < Config.docks
    · refine h _ ?_
      unfold State.dock
      rw [Vector.getElem?_eq_getElem hd]
      exact Vector.mem_toList_iff.mpr (Vector.getElem_mem hd)
    · rw [dock_high (Nat.le_of_not_lt hd)]
      rfl
  · intro h k hk
    obtain ⟨i, hi, rfl⟩ := Vector.getElem_of_mem (Vector.mem_toList_iff.mp hk)
    have := h i
    unfold State.dock at this
    rwa [Vector.getElem?_eq_getElem hi] at this

/-- What the queue law and the law of the docks at or above N say (R1, R27). -/
theorem rest_iff (hn : s.installed ≤ Config.docks) : queueLaw s = true ∧ installedLaw s = true ↔ Rest s := by
  rw [queueLaw_iff]
  simp only [installedLaw, Bool.and_eq_true, List.all_eq_true, List.mem_range, Bool.or_eq_true, decide_eq_true_eq,
    beq_iff_eq]
  constructor
  · rintro ⟨hbus, ⟨⟨⟨hhigh, hcursor⟩, htoDo⟩, hout⟩, hcounted⟩
    refine ⟨hbus, hn, fun d hd => ?_, hcursor, htoDo, hout, hcounted⟩
    by_cases h64 : d < Config.docks
    · exact (hhigh d h64).resolve_left (Nat.not_lt.mpr hd)
    · exact dock_high (Nat.le_of_not_lt h64) s
  · intro h
    refine ⟨h.bus, ⟨⟨⟨fun d _ => ?_, h.cursor⟩, h.toDo⟩, h.outstanding⟩, h.counted⟩
    by_cases hd : d < s.installed
    · exact .inl hd
    · exact .inr (h.high d (Nat.le_of_not_lt hd))

theorem Rest.lt_of_id (h : Rest s) {i : Nat} (hi : s.ids d = some i) : d < s.installed := by
  by_contra hn
  rw [State.ids, h.high d (Nat.le_of_not_lt hn)] at hi
  cases hi

theorem mem_dockedIds (h : Rest s) {i : Nat} : i ∈ dockedIds s ↔ ∃ d, s.ids d = some i := by
  unfold dockedIds
  rw [List.mem_filterMap]
  exact ⟨fun ⟨d, _, hi⟩ => ⟨d, hi⟩, fun ⟨d, hi⟩ => ⟨d, List.mem_range.mpr (h.lt_of_id hi), hi⟩⟩

/-- No two installed docks hold one bike (R6). -/
theorem dockedIds_nodup_iff (h : Rest s) :
    (dockedIds s).Nodup ↔ ∀ d e i, recordedId (s.dock d) = some i → recordedId (s.dock e) = some i → d = e := by
  unfold dockedIds List.Nodup
  rw [List.pairwise_filterMap]
  constructor
  · intro hp d e i hd he
    by_contra hne
    have hsymm : Std.Symm fun a b => ∀ x, (s.dock a).bike.bind Bike.id = some x →
        ∀ y, (s.dock b).bike.bind Bike.id = some y → x ≠ y := ⟨fun a b hab x hx y hy hxy => hab y hy x hx hxy.symm⟩
    exact hp.forall (List.mem_range.mpr (h.lt_of_id hd)) (List.mem_range.mpr (h.lt_of_id he)) hne i hd i he rfl
  · intro hinj
    refine List.nodup_range.pairwise_of_forall_ne fun a _ b _ hab x hx y hy hxy => ?_
    subst hxy
    exact hab (hinj a b x hx hy)

/-! ## The Auth Queue -/

theorem authTable_iff (s : State) : AuthTable s.claims ↔ s.authQueue.length ≤ Config.authPlaces ∧
    (s.authQueue.map AuthEntry.tag).Nodup ∧ (∀ e ∈ s.authQueue, 1 ≤ e.tag ∧ e.tag ≤ 255) ∧
      (s.authQueue.map AuthEntry.card).Nodup ∧ (s.authQueue.map AuthEntry.dock).Nodup := by
  have hmap {α : Type} (f : AuthEntry → α) (hf : ∀ e, f e.face = f e) : s.claims.map f = s.authQueue.map f := by
    unfold State.claims
    rw [List.map_map]
    exact List.map_congr_left fun e _ => hf e
  have htags := hmap AuthEntry.tag fun _ => rfl
  have hcards := hmap AuthEntry.card fun _ => rfl
  have hdocks := hmap AuthEntry.dock fun _ => rfl
  have hlen : s.claims.length = s.authQueue.length := List.length_map _
  have hrange : (∀ e ∈ s.claims, 1 ≤ e.tag ∧ e.tag ≤ 255) ↔ ∀ e ∈ s.authQueue, 1 ≤ e.tag ∧ e.tag ≤ 255 :=
    List.forall_mem_map
  constructor
  · intro h
    exact ⟨hlen ▸ h.few, htags ▸ h.tags, hrange.mp h.range, hcards ▸ h.cards, hdocks ▸ h.docks⟩
  · rintro ⟨hfew, ht, hr, hc, hd⟩
    exact ⟨hlen.symm ▸ hfew, htags.symm ▸ ht, hrange.mpr hr, hcards.symm ▸ hc, hdocks.symm ▸ hd⟩

theorem exists_claim_iff (s : State) (d : Nat) : (∃ e ∈ s.claims, e.dock = d) ↔ ∃ e ∈ s.authQueue, e.dock = d := by
  unfold State.claims
  simp [AuthEntry.face]

/-- The Auth Queue names exactly the CLAIMED docks, and is empty while the link is OFFLINE (R76, R81). -/
theorem authLaw_iff (h : Rest s) : authLaw s = true ↔ AuthTable s.claims ∧
    (∀ d, (∃ e ∈ s.claims, e.dock = d) ↔ (s.dock d).state = .claimed) ∧ (s.link = .online ∨ s.claims = []) := by
  have hempty : s.claims = [] ↔ s.authQueue = [] := List.map_eq_nil_iff
  simp only [authLaw, authTable_iff, exists_claim_iff, hempty, Bool.and_eq_true, decide_eq_true_eq, List.all_eq_true,
    Bool.or_eq_true, bne_iff_ne, beq_iff_eq, List.any_eq_true, List.isEmpty_iff, State.installedDocks, List.mem_range,
    and_assoc]
  constructor
  · rintro ⟨hfew, ht, hr, hc, hd, hclaimed, hentries, hlink⟩
    refine ⟨hfew, ht, hr, hc, hd, fun d => ⟨?_, fun hs => ?_⟩, hlink⟩
    · rintro ⟨e, he, rfl⟩
      exact hclaimed e he
    · exact (hentries d (h.lt_of_state (by simp [hs]))).resolve_left (fun hn => hn hs)
  · rintro ⟨hfew, ht, hr, hc, hd, hclaims, hlink⟩
    refine ⟨hfew, ht, hr, hc, hd, fun e he => (hclaims e.dock).mp ⟨e, he, rfl⟩, fun d _ => ?_, hlink⟩
    by_cases hs : (s.dock d).state = .claimed
    · exact .inr ((hclaims d).mpr hs)
    · exact .inl hs

/-! ## The batch -/

theorem vanHoldDocks_nil_iff (h : Rest s) : vanHoldDocks s = [] ↔ ∀ d, (s.dock d).vanHold = false := by
  unfold vanHoldDocks
  rw [List.filter_eq_nil_iff]
  constructor
  · intro hall d
    by_cases hd : d < s.installed
    · simpa using hall d (List.mem_range.mpr hd)
    · rw [h.high d (Nat.le_of_not_lt hd)]
      rfl
  · intro hall d _
    simp [hall d]

/-- Reservations and van holds are those that the batch allows (R103). -/
theorem batchLaw_iff (h : Rest s) : batchLaw s = true ↔
    (∀ d, (s.dock d).vanHold = true → s.collects) ∧ (reservedDocks s).length ≤ s.places := by
  have hvans (hn : ¬ s.collects) : (∀ d, (s.dock d).vanHold = true → s.collects) ↔ vanHoldDocks s = [] := by
    rw [vanHoldDocks_nil_iff h]
    exact ⟨fun hv d => by_contra fun hd => hn (hv d (by simpa using hd)), fun hv d hd => by simp [hv d] at hd⟩
  unfold batchLaw
  split
  · rename_i hb
    have hplan : s.plan = none := by
      unfold State.plan
      rw [hb]
      rfl
    have hnone : ¬ s.collects := fun ⟨b, hbp, _⟩ => by
      rw [hplan] at hbp
      cases hbp
    have hplaces : s.places = 0 := by
      unfold State.places
      rw [hplan]
      rfl
    simp [hvans hnone, hplaces, and_comm]
  · rename_i b hb
    split
    · rename_i hk
      have hnone : ¬ s.collects := fun ⟨c, hc, hkc⟩ => by
        rw [plan_eq hb] at hc
        cases hc
        exact absurd (hk.symm.trans hkc) nofun
      have hplaces : s.places = b.pendingCount := (places_eq hb).trans (if_pos hk)
      simp [hvans hnone, hplaces]
    · rename_i hk
      have hplaces : s.places = 0 := (places_eq hb).trans (if_neg (by simp [hk]))
      have hcollects := collects_of hb hk
      simp [hcollects, hplaces]

/-! ## The laws of the Dock Table, the Auth Queue and the batch together -/

/-- The laws that hold at every step, as the statement writes them (R1, R4, R6, R27, R76, R81, R103). -/
def DockAndAuthLaws (s : State) : Prop :=
  settingsLaw s = true ∧ queueLaw s = true ∧ installedLaw s = true ∧ dockLaw s = true ∧ (dockedIds s).Nodup ∧
    authLaw s = true ∧ batchLaw s = true ∧
    ∀ b, s.batch = some b → b.kind = .deliver → b.target = 0 ∧ (b.manifest.map ManifestEntry.bike).Nodup

theorem manifest_iff (s : State) :
    (∀ b, s.plan = some b → b.kind = .deliver → b.target = 0 ∧ (b.manifest.map ManifestEntry.bike).Nodup) ↔
      ∀ b, s.batch = some b → b.kind = .deliver → b.target = 0 ∧ (b.manifest.map ManifestEntry.bike).Nodup := by
  unfold State.plan
  cases s.batch with
  | none => exact ⟨fun _ => nofun, fun _ => nofun⟩
  | some b =>
    constructor
    · rintro h c ⟨⟩
      exact h b.face rfl
    · rintro h c ⟨⟩
      exact h b rfl

theorem dockAndAuthLaws_iff (s : State) : DockAndAuthLaws s ↔ Good true none s := by
  unfold DockAndAuthLaws
  constructor
  · rintro ⟨hset, hqueue, hinst, hdock, hids, hauth, hbatch, hmanifest⟩
    have hn : s.installed ≤ Config.docks := ((settingsLaw_iff s).mp hset).2.2.2
    have hr := (rest_iff hn).mp ⟨hqueue, hinst⟩
    obtain ⟨htable, hclaims, hlink⟩ := (authLaw_iff hr).mp hauth
    obtain ⟨hvans, hreserved⟩ := (batchLaw_iff hr).mp hbatch
    refine ⟨hset, hr, fun d => ?_, (dockedIds_nodup_iff hr).mp hids, htable, fun _ => hlink, fun d => ?_, hvans, hreserved,
      (manifest_iff s).mpr hmanifest⟩
    · rw [Dock.Fits, if_neg nofun]
      exact (dockLaw_iff s).mp hdock d
    · rw [hclaims d]
      exact ⟨fun hs => ⟨hs, nofun⟩, And.left⟩
  · intro h
    obtain ⟨hqueue, hinst⟩ := (rest_iff h.rest.few).mpr h.rest
    refine ⟨h.settings, hqueue, hinst, (dockLaw_iff s).mpr fun d => h.agrees nofun, (dockedIds_nodup_iff h.rest).mpr h.ids,
      (authLaw_iff h.rest).mpr ⟨h.auths, fun d => ?_, h.link rfl⟩, (batchLaw_iff h.rest).mpr ⟨h.vans, h.reservations⟩,
      (manifest_iff s).mp h.manifest⟩
    rw [h.claims d]
    exact ⟨And.left, fun hs => ⟨hs, nofun⟩⟩

/-- The laws hold at power-on (R7, R186). -/
theorem good_reset : Good true none State.reset := by
  refine (dockAndAuthLaws_iff _).mp ⟨?_, ?_, ?_, ?_, ?_, ?_, ?_, nofun⟩ <;> decide +kernel

/-! ## The bikes, the hires and the cards -/

/-- No bike that a dock records has an OUT or OVERDUE hire (R6). -/
theorem bikeLaw_iff (h : Good true none s) :
    bikeLaw s = true ↔ ∀ r ∈ s.hires, r.state ≠ .starting → ∀ d, s.ids d ≠ some r.bike := by
  unfold bikeLaw
  rw [Bool.and_eq_true, decide_eq_true_eq, List.all_eq_true, and_iff_right ((dockedIds_nodup_iff h.rest).mpr h.ids)]
  constructor
  · intro hall r hr hs d hd
    have hnone := hall _ ((mem_dockedIds h.rest).mpr ⟨d, hd⟩)
    rw [Option.isNone_iff_eq_none] at hnone
    exact openHireOf_none hnone r hr hs rfl
  · intro hall b hb
    obtain ⟨d, hd⟩ := (mem_dockedIds h.rest).mp hb
    rw [Option.isNone_iff_eq_none]
    refine List.find?_eq_none.mpr fun r hr hopen => ?_
    rw [Bool.and_eq_true, beq_iff_eq, bne_iff_ne] at hopen
    exact hall r hr hopen.2 d (hopen.1 ▸ hd)

/-- A dock releases for a hire exactly when the hire is its release owner (R4). -/
theorem mem_releasingFor (h : Good true none s) {n e : Nat} : e ∈ releasingFor n s ↔ s.owners e = some (.hire n) := by
  simp only [releasingFor, State.installedDocks, List.mem_filter, List.mem_range, Bool.and_eq_true, beq_iff_eq]
  refine ⟨fun ⟨_, _, ho⟩ => ho, fun ho => ?_⟩
  have hs : (s.dock e).state = .releasing := by
    by_contra hs
    rw [State.owners, h.owner_none hs] at ho
    cases ho
  exact ⟨h.rest.lt_of_state (by simp [hs]), hs, ho⟩

theorem releasingFor_eq (h : Good true none s) (n d : Nat) :
    releasingFor n s = [d] ↔ ∀ e, s.owners e = some (.hire n) ↔ e = d := by
  constructor
  · intro heq e
    rw [← mem_releasingFor h, heq, List.mem_singleton]
  · intro hall
    have hn : (releasingFor n s).Nodup := List.nodup_range.filter _
    refine List.perm_singleton.mp ((List.perm_ext_iff_of_nodup hn (List.nodup_singleton d)).mpr fun e => ?_)
    rw [mem_releasingFor h, hall, List.mem_singleton]

theorem findCard_isSome_iff {id : Nat} : (findCard id s).isSome = true ↔ ∃ c ∈ s.cards, c.id = id := by
  unfold findCard
  simp [List.find?_isSome]

/-- Every card's range, count and held amount (R63). -/
theorem cardLaw_iff (s : State) : cardLaw s = true ↔ s.cards.length ≤ Config.cardPlaces ∧ (s.cards.map Card.id).Nodup ∧
    ∀ c ∈ s.cards, (Config.balanceLow ≤ c.balance ∧ c.balance ≤ Config.balanceHigh) ∧
      c.openCount = (cardHires c.id s.hires).length ∧ c.held = ((cardHires c.id s.hires).map Hire.holdAmount).sum := by
  simp only [cardLaw, Bool.and_eq_true, decide_eq_true_eq, List.all_eq_true, beq_iff_eq, and_assoc]
  rfl

/-- The laws of a station that is READY, as the statement writes them (R6, R63, R83, R84, R85). -/
def BikeAndHireLaws (s : State) : Prop :=
  s.station = .ready ∧ cardLaw s = true ∧ bikeLaw s = true ∧ hireLaw s = true ∧
    ∀ r ∈ s.hires, r.state = .starting → ∀ d, r.dockFrom = some d → (s.dock d).bike.bind Bike.id = some r.bike

/-- The hires of a READY station, from the laws of the statement (R6, R83, R84, R85). -/
theorem BikeAndHireLaws.hiring (hl : BikeAndHireLaws s) (h : Good true none s) :
    Hiring s.owners s.ids s.hires s.plan.isSome none := by
  obtain ⟨hready, -, hbike, hhire, hid⟩ := hl
  simp only [hireLaw, Bool.and_eq_true, decide_eq_true_eq, List.all_eq_true, and_assoc] at hhire
  obtain ⟨hfew, hnumbers, hbikes, hall, howners⟩ := hhire
  have howner (d : Nat) (o : Owner) (ho : s.owners d = some o) : d ∈ s.installedDocks := by
    refine List.mem_range.mpr (h.rest.lt_of_state fun hs => ?_)
    rw [State.owners, h.owner_none (by simp [hs])] at ho
    cases ho
  refine ⟨hfew, hnumbers, hbikes, fun r hr hs => ?_, fun r hr hs _ => (bikeLaw_iff h).mp hbike r hr hs, fun r hr hs => ?_,
    fun d n ho => ?_, fun d ho => ?_⟩
  · simpa [hs] using (hall r hr).2.1
  · have hstart := (hall r hr).2.2
    cases hfrom : r.dockFrom with
    | none => simp [hfrom, hs] at hstart
    | some d =>
      have hrel : ∀ e, s.owners e = some (.hire r.number) ↔ e = d := by
        simpa [hfrom, hs, hready, releasingFor_eq h] using hstart
      exact ⟨d, rfl, hid r hr hs d hfrom, hrel⟩
  · have hc := howners d (howner d _ ho)
    rw [show (s.dock d).owner = some (.hire n) from ho] at hc
    simpa using hc
  · have hc := howners d (howner d _ ho)
    rw [show (s.dock d).owner = some .batch from ho] at hc
    simpa [State.plan] using hc

/-- The cards of a READY station, from the laws of the statement (R63, R83). -/
theorem BikeAndHireLaws.accounts (hl : BikeAndHireLaws s) : Accounts s.hires s.cards := by
  obtain ⟨-, hcard, -, hhire, -⟩ := hl
  simp only [hireLaw, Bool.and_eq_true, decide_eq_true_eq, List.all_eq_true, and_assoc] at hhire
  obtain ⟨-, -, -, hall, -⟩ := hhire
  obtain ⟨hfew, hids, hcards⟩ := (cardLaw_iff s).mp hcard
  exact ⟨hfew, hids, fun c hc => (hcards c hc).1, fun c hc => (hcards c hc).2.1, fun c hc => (hcards c hc).2.2,
    fun r hr => findCard_isSome_iff.mp (hall r hr).1⟩

/-- The laws of the statement, from those of the hires and cards. -/
theorem Whole.laws (hw : Whole none s) (h : Good true none s) : BikeAndHireLaws s := by
  obtain ⟨hready, hh, ha⟩ := hw
  have haway : ∀ r ∈ s.hires, r.state ≠ .starting → ∀ d, s.ids d ≠ some r.bike := fun r hr hs => hh.away r hr hs nofun
  refine ⟨hready, (cardLaw_iff s).mpr ⟨ha.few, ha.ids, fun c hc => ⟨ha.balance c hc, ha.count c hc, ha.held c hc⟩⟩,
    (bikeLaw_iff h).mpr haway, ?_, fun r hr hs d hd => ?_⟩
  · simp only [hireLaw, Bool.and_eq_true, decide_eq_true_eq, List.all_eq_true, and_assoc]
    refine ⟨hh.few, hh.numbers, hh.bikes, fun r hr => ⟨findCard_isSome_iff.mpr (ha.carded r hr), ?_, ?_⟩, fun d _ => ?_⟩
    · by_cases hs : r.state = .starting
      · simp [hs]
      · simp [hh.started r hr hs]
    · by_cases hs : r.state = .starting
      · obtain ⟨d, hfrom, -, hrel⟩ := hh.starting r hr hs
        simp [hfrom, (releasingFor_eq h r.number d).mpr hrel]
      · simp [hs]
    · cases ho : (s.dock d).owner with
      | none => rfl
      | some o =>
        cases o with
        | hire n => simpa using hh.owned d n ho
        | batch => simpa [State.plan] using hh.batch d ho
  · obtain ⟨e, hfrom, hid, -⟩ := hh.starting r hr hs
    rw [hd] at hfrom
    cases hfrom
    exact hid

theorem bikeAndHireLaws_iff (h : Good true none s) : BikeAndHireLaws s ↔ Whole none s :=
  ⟨fun hl => ⟨hl.1, hl.hiring h, hl.accounts⟩, fun hw => hw.laws h⟩

end

/-- Every step keeps the laws of the Dock Table, the Auth Queue and the batch. -/
theorem dockAndAuthLaws_step {s t : State} (hl : DockAndAuthLaws s) (hs : step s = .next t) : DockAndAuthLaws t := by
  have hinv : Inv true false none none s := ⟨(dockAndAuthLaws_iff s).mp hl, nofun⟩
  exact (dockAndAuthLaws_iff t).mpr (hinv.step good_reset hs).good

/-- Every step from a READY station to a READY station keeps the laws of bikes, hires and cards too. -/
theorem bikeAndHireLaws_step {s t : State} (hl : DockAndAuthLaws s ∧ BikeAndHireLaws s) (hs : step s = .next t)
    (hready : t.station = .ready) : DockAndAuthLaws t ∧ BikeAndHireLaws t := by
  obtain ⟨hlaws, hhires⟩ := hl
  have hgood := (dockAndAuthLaws_iff s).mp hlaws
  have hinv : Inv true true none none s := ⟨hgood, fun _ => (bikeAndHireLaws_iff hgood).mp hhires⟩
  have hstays := hinv.step good_reset hs
  exact ⟨(dockAndAuthLaws_iff t).mpr hstays.good, (bikeAndHireLaws_iff hstays.good).mpr (hstays.whole rfl hready)⟩

theorem returnAllowed_iff (d : Nat) (s : State) : returnAllowed d s = true ↔
    ((effective d s).cls = .standard ∨ (effective d s).cls = .charging) ∧ (effective d s).returnPermitted = true := by
  rw [returnAllowed, Bool.and_eq_true, riderClass_iff]

end Sys2Proof.Machine

namespace Sys2Proof.Settled

open Sys2Proof.Machine

/-- Settles O9: the laws hold at power-on, every elementary act keeps them (`Inv`, with at most one dock and one bike in
the middle of an act), and a start of the station leaves them with the station STARTING. -/
theorem returnPermission : Obligations.ReturnPermission :=
  ⟨returnAllowed_iff, (dockAndAuthLaws_iff _).mpr good_reset, fun _ _ => dockAndAuthLaws_step,
    fun _ _ => bikeAndHireLaws_step⟩

end Sys2Proof.Settled
end

section
/-! PROOFS. The law of the Dock Command Queue (R27) at every step, from every state that keeps it: no dock need be
installed, and no other law is asked for. Each operation of the bus keeps it by what the queue law of a bus
(`Bus.Lawful`) says of one change of the queue; every other operation reaches the bus only through these. -/

namespace Sys2Proof.Machine

variable {s t : State} {d : Nat}

/-! ## The law -/

/-- At most 16 commands are queued, and no dock has more than one command queued or in flight (R27). -/
def Orderly (s : State) : Prop := s.bus.queue.length ≤ 16 ∧ (busyDocks s).Nodup

/-- The docks of finitely many commands lie below some number, so the queue law of a bus is that of `Orderly`. -/
theorem orderly_iff (s : State) : Orderly s ↔ ∃ n, s.bus.Lawful n := by
  constructor
  · rintro ⟨hlen, honce⟩
    obtain ⟨n, hn⟩ := Finset.exists_nat_subset_range s.bus.busy.toFinset
    exact ⟨n, hlen, honce, fun d hd => Finset.mem_range.mp (hn (List.mem_toFinset.mpr hd))⟩
  · rintro ⟨n, h⟩
    exact ⟨h.places, h.once⟩

theorem Bus.Lawful.mono {b : Bus} {n m : Nat} (h : b.Lawful n) (hnm : n ≤ m) : b.Lawful m :=
  ⟨h.places, h.once, fun d hd => Nat.lt_of_lt_of_le (h.near d hd) hnm⟩

/-- What is in flight changes in its timer alone. -/
theorem Bus.Lawful.timer {b : Bus} {n : Nat} (h : b.Lawful n) {f : InFlight → InFlight} (hf : ∀ x, (f x).what = x.what) :
    ({ b with inFlight := b.inFlight.map f } : Bus).Lawful n := by
  refine h.sub (List.Perm.subperm ?_) le_rfl
  unfold Bus.busy
  cases hb : b.inFlight with
  | none => rfl
  | some x => simp only [Option.map_some, hf]; rfl

namespace Orderly

/-- The law reads nothing but the bus. -/
theorem of_bus (h : Orderly s) (hb : t.bus = s.bus) : Orderly t := by
  unfold Orderly
  rw [busyDocks_eq, hb]
  exact h

theorem modBus (h : Orderly s) {f : Bus → Bus} (hf : ∀ n, s.bus.Lawful n → (f s.bus).Lawful n) : Orderly (modBus f s) :=
  have ⟨n, hn⟩ := (orderly_iff s).mp h
  (orderly_iff _).mpr ⟨n, hf n hn⟩

theorem tells (h : Orderly s) (ht : Tells s t) : Orderly t := h.of_bus ht.bus

theorem raise (h : Orderly s) (n : Notice) : Orderly (raise n s) := h.tells (raise_tells n s)

theorem enter (h : Orderly s) (e : Entry) : Orderly (enterRecord e s) := h.tells (enterRecord_tells e s)

theorem modDock (h : Orderly s) (d : Nat) (f : Dock → Dock) : Orderly (modDock d f s) := h

theorem modAudit (h : Orderly s) (f : Audit → Audit) : Orderly (modAudit f s) := h

theorem modDue (h : Orderly s) (f : Due → Due) : Orderly (modDue f s) := h

theorem modBatch (h : Orderly s) (f : Batch → Batch) : Orderly (modBatch f s) := h

theorem modBikeFault (h : Orderly s) (b : Nat) (f : BikeFault → BikeFault) : Orderly (modBikeFault b f s) := h

theorem setPort (h : Orderly s) (p : Port) (x : PortState) : Orderly (setPort p x s) := h.of_bus (setPort_bus p x s)

theorem modPort (h : Orderly s) (p : Port) (f : PortState → PortState) : Orderly (modPort p f s) := h.setPort p _

theorem ite {p : Prop} [Decidable p] (hs : Orderly s) (ht : Orderly t) : Orderly (if p then s else t) := by
  split
  · exact hs
  · exact ht

theorem foldl {α : Type} {f : State → α → State} (hf : ∀ t a, Orderly t → Orderly (f t a)) (l : List α) (h : Orderly s) :
    Orderly (l.foldl f s) := by
  induction l generalizing s with
  | nil => exact h
  | cons a l ih => exact ih (hf s a h)

/-! ## The operations of the bus -/

/-- A command appended for a dock with nothing queued or in flight, with a place empty. -/
theorem append (h : Orderly s) (c : Cmd) (hq : queuedAt c.dock s = none) (hf : inFlightAt c.dock s = none)
    (hroom : queueFull s = false) : Orderly (Machine.modBus (fun b => { b with queue := b.queue ++ [c] }) s) := by
  obtain ⟨n, hn⟩ := (orderly_iff s).mp h
  have hlaw := hn.mono (Nat.le_max_left n (c.dock + 1))
  exact (orderly_iff _).mpr ⟨_, hlaw.add ((not_mem_busy_iff _ s).mpr ⟨hq, hf⟩) (Nat.le_max_right n (c.dock + 1))
    (room_of_not_full hroom)⟩

/-- A queued command gives its place up to another of its dock, at the end. -/
theorem swap (h : Orderly s) {q c : Cmd} (hq : queuedAt c.dock s = some q) :
    Orderly (Machine.modBus (fun b => { b with queue := b.queue.erase q ++ [c] }) s) :=
  h.modBus fun _ hb => hb.swap (queuedAt_mem hq) (queuedAt_dock hq).symm

theorem placeOwedAt (h : Orderly s) (d : Nat) : Orderly (placeOwedAt d s) := by
  unfold Machine.placeOwedAt
  split
  · exact h
  · rename_i o _
    split
    · exact h
    · rename_i hfree
      simp only [Bool.or_eq_true, not_or, Bool.not_eq_true, Option.isSome_eq_false_iff, Option.isNone_iff_eq_none] at hfree
      obtain ⟨⟨hroom, hq⟩, hf⟩ := hfree
      exact (h.modDock d _).append ⟨o.kind, d, o.owner, o.live⟩ hq hf hroom

theorem placeOwed (h : Orderly s) : Orderly (placeOwed s) := h.foldl (fun _ d ht => ht.placeOwedAt d) _

theorem takeNext (h : Orderly s) : Orderly (takeNext s) := by
  unfold Machine.takeNext
  split
  · exact h
  · refine h.modBus fun _ hb => hb.idle rfl fun f k hf => ?_
    cases hf
    exact nofun
  · rename_i hc
    refine placeOwed ?_
    exact h.modBus fun _ hb => hb.take (nextOnBus_mem hc) none

theorem kick (h : Orderly s) : Orderly (kick s) := h.takeNext.ite h

theorem pollIfLow (h : Orderly s) : Orderly (pollIfLow s) :=
  ite (kick (h.modBus fun _ hb => hb.congr rfl rfl)) h

theorem placeQuiet (h : Orderly s) (kind : CmdKind) (owner : PlacingUnit) (d : Nat) :
    Orderly (placeQuiet kind owner d s).1 := by
  unfold Machine.placeQuiet
  split
  · rename_i hfree
    simp only [nothingInHand, Bool.and_eq_true, Option.isNone_iff_eq_none, Bool.not_eq_true'] at hfree
    obtain ⟨⟨⟨hq, hf⟩, -⟩, hroom⟩ := hfree
    exact (h.append ⟨kind, d, owner, true⟩ hq hf hroom).kick
  · exact h

theorem lockChange (h : Orderly s) (o : Owed) (d : Nat) : Orderly (lockChange o d s).1 := by
  unfold Machine.lockChange
  dsimp only
  split
  · exact h
  · split
    · exact h
    · rename_i hf
      split
      · rename_i q hq
        split
        · refine h.modBus fun _ hb => hb.mapQueue fun c _ => ?_
          split
          · rename_i hc
            exact (beq_iff_eq.mp hc).symm
          · rfl
        · exact h.swap (c := ⟨o.kind, d, o.owner, o.live⟩) hq
      · rename_i hq
        split
        · exact h
        · rename_i hroom
          exact h.append ⟨o.kind, d, o.owner, o.live⟩ hq hf (by simpa using hroom)

theorem unlatchChange {c : Option Cmd} (h : Orderly s) (hu : unlatchChange d s = some (t, c)) : Orderly t := by
  unfold Machine.unlatchChange at hu
  dsimp only at hu
  split at hu
  · cases hu
  · rename_i hf
    simp only [Bool.or_eq_true, not_or, Bool.not_eq_true, Option.isSome_eq_false_iff, Option.isNone_iff_eq_none] at hf
    split at hu
    · rename_i hq
      split at hu <;> cases hu
      exact h.swap (c := ⟨.unlatch, d, .release, true⟩) hq
    · rename_i hq
      split at hu <;> cases hu
      rename_i hroom
      exact h.append ⟨.unlatch, d, .release, true⟩ hq hf.2 (by simpa using hroom)

theorem withdraw (h : Orderly s) (d : Nat) : Orderly (withdraw d s) := by
  unfold Machine.withdraw
  dsimp only
  split
  · refine placeOwed ?_
    exact (h.modDock d _).modBus fun _ hb => hb.subQueue List.filter_sublist
  · exact h

theorem orphan (h : Orderly s) (d : Nat) : Orderly (orphan d s) :=
  (h.modDock d _).modBus fun _ hb => hb.sub (by rw [busy_orphan]) (by simp)

theorem endOperation (h : Orderly s) (d : Nat) : Orderly (endOperation d s) := (h.withdraw d).orphan d

theorem endExchange (h : Orderly s) : Orderly (endExchange s) := h.modBus fun _ hb => hb.idle rfl (by simp)

theorem sampleWire (h : Orderly s) (low : Bool) : Orderly (sampleWire low s) := h

theorem ignoreFrame (h : Orderly s) : Orderly (ignoreFrame s) := ite h h

theorem moveOn (h : Orderly s) : Orderly (moveOn s) := by
  refine kick ?_
  exact h.placeOwed.modBus fun _ hb => hb.congr rfl rfl

theorem pollEnded (h : Orderly s) : Orderly (pollEnded s) := by
  refine moveOn ?_
  exact h.endExchange.modBus fun _ hb => hb.congr rfl rfl

end Orderly

end Sys2Proof.Machine
end


section
/-! PROOFS. The law of the Dock Command Queue in the operations of the blocks: cards, hires, the batch, dock states,
reports, audits, placements and the release. -/

namespace Sys2Proof.Machine

variable {s t : State} {d : Nat}

namespace Orderly

/-! ## Cards, hires and the batch -/

theorem blockIfNegative (h : Orderly s) (id : Nat) : Orderly (blockIfNegative id s) := by
  unfold Machine.blockIfNegative
  split
  · refine ite (enter ?_ _) h
    exact h
  · exact h

theorem makeCardRoom (h : Orderly s) (w : List Nat) : Orderly (makeCardRoom w s).1 := by
  unfold Machine.makeCardRoom
  split
  · split <;> exact h
  · exact h

theorem writeCard (h : Orderly s) (w : List Nat) (c : CardSetting) : Orderly (writeCard w c s).1 := by
  unfold Machine.writeCard
  split
  · exact h
  · exact h.makeCardRoom w

theorem writeCards (h : Orderly s) (l : List CardSetting) (x : CardTally) : Orderly (writeCards l x s).1 := by
  induction l generalizing x s with
  | nil => exact h
  | cons c l ih => exact ih (h.writeCard x.written c) _

theorem closeHire (h : Orderly s) (r : Hire) (m : Nat) (p : Place) : Orderly (closeHire r m p s) := by
  refine blockIfNegative (enter ?_ _) _
  exact h

theorem closeBikeHire (h : Orderly s) (b d : Nat) : Orderly (closeBikeHire b d s).1 := by
  unfold Machine.closeBikeHire
  split
  · exact h.closeHire _ _ _
  · exact h

theorem makeOverdue (h : Orderly s) (r : Hire) : Orderly (makeOverdue r s) := by
  refine raise (enter ?_ _) _
  exact h

theorem overdueCheck (h : Orderly s) : Orderly (overdueCheck s) := h.foldl (fun _ r ht => ht.makeOverdue r) _

theorem topUp (h : Orderly s) : Orderly (topUp s) := by
  unfold Machine.topUp
  split
  · exact ite (h.foldl (fun _ d ht => ht.modDock d _) _) h
  · exact h

theorem moveReservation (h : Orderly s) (d : Nat) : Orderly (moveReservation d s) := by
  unfold Machine.moveReservation
  dsimp only
  split <;> exact h

theorem holdIfWanted (h : Orderly s) (d : Nat) : Orderly (holdIfWanted d s) := by
  unfold Machine.holdIfWanted
  split
  · exact ite h h
  · exact h

theorem restartIdle (h : Orderly s) : Orderly (restartIdle s) := h

theorem giveBackSurplus (h : Orderly s) : Orderly (giveBackSurplus s) := by
  unfold Machine.giveBackSurplus
  split
  · split
    · split <;> exact h
    · exact h
  · exact h

theorem deliver (h : Orderly s) (d T : Nat) : Orderly (deliver d T s) := by
  rw [deliver_eq]
  exact (h.of_bus (delivered_rest d T s).1).giveBackSurplus

theorem released (h : Orderly s) : Orderly (released s) :=
  foldl (fun _ d ht => modDock ht d _) _ (foldl (fun _ d ht => modDock ht d _) _ h)

/-- The record of the batch removed and a mark set beside it (R116). -/
theorem batchOver (h : Orderly s) (due : Due) : Orderly { s with batch := none, due := due } := h

theorem endBatch (h : Orderly s) (o : BatchOutcome) : Orderly (endBatch o s) := by
  unfold Machine.endBatch
  split
  · exact h
  · rename_i b _
    exact ((h.released.enter (.batchClosed b.crew b.kind o b.done b.pendingCount)).raise (.batchEnded o)).batchOver _

theorem batchReleaseEnded (h : Orderly s) : Orderly (batchReleaseEnded s) := by
  unfold Machine.batchReleaseEnded
  split
  · exact ite (h.endBatch _) h
  · exact h

/-! ## Dock states and reports -/

theorem enterRetired (h : Orderly s) (d : Nat) : Orderly (enterRetired d s) :=
  (((h.modDock d _).orphan d).enter _).raise _

theorem enterRetiredEmpty (h : Orderly s) (d : Nat) : Orderly (enterRetiredEmpty d s) := (h.modDock d _).enterRetired d

theorem becomeVacant (h : Orderly s) (d : Nat) : Orderly (becomeVacant d s) :=
  ite (h.enterRetiredEmpty d) (h.modDock d _).topUp

theorem becomeHeld (h : Orderly s) (d : Nat) : Orderly (becomeHeld d s) :=
  ite (h.enterRetired d) ((h.modDock d _).holdIfWanted d)

theorem applyPending (h : Orderly s) (d : Nat) : Orderly (applyPending d s) := ite (h.enterRetired d) h

theorem retireAtThreshold (h : Orderly s) (d : Nat) : Orderly (retireAtThreshold d s) := by
  unfold Machine.retireAtThreshold
  split
  · exact h.enterRetired d
  · exact h.enterRetired d
  · exact (h.moveReservation d).enterRetired d
  all_goals exact h

theorem reportDock (h : Orderly s) (d : Nat) (c : Category) (severe : Bool) : Orderly (reportDock d c severe s) := by
  have hcounted := (h.modDock d fun k => { k with
    faultCount := countAfter severe s.settings.dockThreshold (s.dock d).faultCount }).enter
      (.dockFault d c (countAfter severe s.settings.dockThreshold (s.dock d).faultCount))
  exact ite h (ite (hcounted.retireAtThreshold d) hcounted)

theorem makeBikeFault (h : Orderly s) (b : Nat) : Orderly (makeBikeFault b s) := by
  unfold Machine.makeBikeFault
  dsimp only
  split
  · exact h
  · split
    · exact h
    · split <;> exact h

theorem reportBike (h : Orderly s) (b : Nat) (c : Category) (severe : Bool) : Orderly (reportBike b c severe s) := by
  unfold Machine.reportBike
  dsimp only
  split
  · exact h
  · have hcounted (f : BikeFault → BikeFault) (e : Entry) :=
      ((h.makeBikeFault b).modBikeFault b f).enter e
    exact ite ((((hcounted _ _).modBikeFault b _).enter _).raise _) (hcounted _ _)

theorem endAuth (h : Orderly s) (e : AuthEntry) (r : Result) : Orderly (endAuth e r s) :=
  (becomeHeld (s := dropAuth e.tag s) h e.dock).raise _

theorem refuseClaim (h : Orderly s) (d : Nat) : Orderly (refuseClaim d s) := by
  unfold Machine.refuseClaim
  split
  · exact h.endAuth _ _
  · exact h.becomeHeld d

theorem refuseClaimRemoved (h : Orderly s) (d : Nat) : Orderly (refuseClaimRemoved d s) := by
  unfold Machine.refuseClaimRemoved
  split
  · refine raise ?_ _
    exact h
  · exact h

/-! ## Audits and placements -/

theorem passOver (h : Orderly s) (l : List Nat) : Orderly (passOver l s) := by
  induction l generalizing s with
  | nil => exact h
  | cons d rest ih =>
    unfold Machine.passOver
    split
    · exact ih (h.modAudit _)
    · split
      · exact ih h
      · have hp := h.placeQuiet .status .patrol d
        split
        · rename_i heq
          rw [heq] at hp
          exact ih (hp.modAudit _)
        · rename_i heq
          rw [heq] at hp
          exact hp

theorem auditPass (h : Orderly s) : Orderly (auditPass s) := ite h (h.passOver _)

theorem startInterval (h : Orderly s) : Orderly (startInterval s) := ite (s := { s with patrol := _, due := _ }) h h

theorem auditEnd (h : Orderly s) : Orderly (auditEnd s) := by
  unfold Machine.auditEnd
  split
  · split
    · exact h
    · exact ((h.modAudit _).raise _).startInterval
    · refine startInterval (raise ?_ _)
      exact h
  · exact h

theorem auditStep (h : Orderly s) : Orderly (auditStep s) := h.auditPass.auditEnd

theorem tryReread (h : Orderly s) (d : Nat) : Orderly (tryReread d s) := by
  have hp := h.placeQuiet .status .release d
  unfold Machine.tryReread
  split
  all_goals
    rename_i heq
    rw [heq] at hp
    exact hp

theorem handDropped (h : Orderly s) (c : Cmd) : Orderly (handDropped c s) := by
  unfold Machine.handDropped
  split
  · exact ite (h.modAudit _).auditStep h
  · exact ite ((h.modDock c.dock _).tryReread c.dock) h
  · exact h

theorem dropped (h : Orderly s) (c : Cmd) : Orderly (dropped c s) := by
  have hl := h.lockChange { kind := .lock, owner := .release, live := true } c.dock
  unfold Machine.dropped
  split
  · split
    · rename_i heq
      rw [heq] at hl
      exact (hl.modDock c.dock _).handDropped _
    · rename_i heq
      rw [heq] at hl
      exact hl
  · exact h.handDropped c

theorem placeLock (h : Orderly s) (o : Owed) (d : Nat) : Orderly (placeLock o d s) := by
  have hl := h.lockChange o d
  unfold Machine.placeLock
  split
  · rename_i heq
    rw [heq] at hl
    exact (hl.dropped _).kick
  · rename_i heq
    rw [heq] at hl
    exact hl.kick

theorem placeUnlatch (h : Orderly s) (hp : placeUnlatch d s = some t) : Orderly t := by
  unfold Machine.placeUnlatch at hp
  split at hp
  · cases hp
  · rename_i hu
    cases hp
    exact ((h.unlatchChange hu).dropped _).kick
  · rename_i hu
    cases hp
    exact (h.unlatchChange hu).kick

theorem senseCheck (h : Orderly s) (d : Nat) : Orderly (senseCheck d s) := ite (h.placeQuiet _ _ d) h

/-! ## The release -/

theorem releaseOpened (h : Orderly s) (d : Nat) : Orderly (releaseOpened d s) := by
  have hopen := h.modDock d fun k => { k with phase := some .opened, window := some (startWindow s) }
  unfold Machine.releaseOpened
  dsimp only
  split
  · exact hopen.raise _
  · exact hopen.raise _
  · exact hopen

theorem dropFaultOf (h : Orderly s) (i : Option Nat) : Orderly (dropFaultOf i s) := by
  unfold Machine.dropFaultOf
  split <;> exact h

theorem collect (h : Orderly s) (k : Option Bike) (d : Nat) : Orderly (collect k d s) := by
  have hc : Orderly (collected k d s) := (((h.modBatch _).dropFaultOf _).enter _).raise _
  rw [collect_eq]
  split
  · exact ite hc hc.restartIdle
  · exact hc

theorem pull (h : Orderly s) (d : Nat) : Orderly (pull d s) := by
  have he := h.endOperation d
  unfold Machine.pull
  dsimp only
  split
  · rename_i n _
    have hv := becomeVacant (s := hireOut n (Machine.endOperation d s)) he d
    refine raise ?_ _
    split
    · exact hv.enter _
    · exact hv
  · exact ((he.becomeVacant d).collect _ d).batchReleaseEnded
  · exact he.becomeVacant d

theorem lapseHire (h : Orderly s) (d n : Nat) : Orderly (lapseHire d n s) := by
  unfold Machine.lapseHire
  refine raise ?_ _
  split <;> exact h

theorem releaseOver (h : Orderly s) (d : Nat) (o : Option Owner) : Orderly (releaseOver d o s) := by
  unfold Machine.releaseOver
  split
  · exact h.lapseHire d _
  · exact h.batchReleaseEnded
  · exact h

theorem lapse (h : Orderly s) (d : Nat) : Orderly (lapse d s) :=
  ((h.endOperation d).becomeHeld d).releaseOver d (s.dock d).owner

theorem closingLockSilent (h : Orderly s) (d : Nat) : Orderly (closingLockSilent d s) :=
  ((h.endOperation d).enterRetired d).releaseOver d (s.dock d).owner

theorem closeWith (h : Orderly s) (p : Phase) (d : Nat) : Orderly (closeWith p d s) :=
  ((h.modDock d _).placeLock ownLock d).modDock d _

theorem clearElsewhere (h : Orderly s) (d T : Nat) : Orderly (clearElsewhere d T s) := by
  unfold Machine.clearElsewhere
  split
  · exact h
  · rename_i e _
    split
    · exact (h.modDock e _).reportDock e _ _
    · exact (h.modDock e _).reportDock e _ _
    · exact h
    · exact h.pull e
    all_goals exact h

end Orderly

end Sys2Proof.Machine
end


section
/-! PROOFS. The law of the Dock Command Queue in arrivals and removals, the comparison of the Patrol Unit and the outcomes
of dock-bus commands. -/

namespace Sys2Proof.Machine

variable {s t : State} {d : Nat}

namespace Orderly

/-! ## Arrivals and removals -/

theorem tellReturn (d : Nat) {x : State × Option (Nat × Nat)} (h : Orderly x.1) : Orderly (tellReturn d x) := by
  unfold Machine.tellReturn
  split
  · exact h.raise _
  · exact h

theorem riderReturn (h : Orderly s) (d T : Nat) (c : Option (Nat × Nat)) : Orderly (riderReturn d T c s) := by
  unfold Machine.riderReturn
  split
  · exact h.raise _
  · exact (h.enter _).raise _

theorem takeIn (h : Orderly s) (d T : Nat) (k : BikeKind) : Orderly (takeIn d T k s) := (h.modDock d _).holdIfWanted d

theorem tellArrival (d T : Nat) (delivery : Bool) {x : State × Option (Nat × Nat)} (h : Orderly x.1) :
    Orderly (tellArrival d T delivery x) := ite (h.deliver d T) (h.riderReturn d T _)

theorem acceptArrival (h : Orderly s) (d T : Nat) (k : BikeKind) (delivery : Bool) :
    Orderly (acceptArrival d T k delivery s) := by
  have hclear := h.clearElsewhere d T
  have haside : Orderly (reservationAside d delivery (Machine.clearElsewhere d T s)) :=
    ite (hclear.moveReservation d) hclear
  have htold := tellArrival d T delivery ((haside.takeIn d T k).closeBikeHire T d)
  rw [acceptArrival_eq]
  exact applyPending (ite (htold.placeQuiet _ _ d) htold) d

theorem enterLatching (h : Orderly s) (d : Nat) : Orderly (enterLatching d s) :=
  (tryReread (s := setDock d _ s) h d).applyPending d

theorem refuseArrival (h : Orderly s) (d : Nat) : Orderly (refuseArrival d s) :=
  (((h.placeLock ownReject d).modDock d _).raise _).applyPending d

theorem arriveFree (h : Orderly s) (d T : Nat) (k : BikeKind) : Orderly (arriveFree d T k s) := by
  have hlost : Orderly (reservationLost d s) := ite (h.moveReservation d) h
  rw [arriveFree_eq]
  exact ite (h.acceptArrival d T k true)
    (ite (ite (hlost.enterLatching d) (hlost.acceptArrival d T k false)) (hlost.refuseArrival d))

theorem identified (h : Orderly s) (d T : Nat) (k : BikeKind) : Orderly (identified d T k s) :=
  (h.endOperation d).acceptArrival d T k _

theorem unidentified (h : Orderly s) (d : Nat) : Orderly (unidentified d s) :=
  (((h.endOperation d).becomeHeld d).reportDock d _ _).enter _

theorem rereadUnread (h : Orderly s) (d : Nat) : Orderly (rereadUnread d s) := ite (h.unidentified d) (h.tryReread d)

theorem restartIdentification (h : Orderly s) (d : Nat) : Orderly (restartIdentification d s) :=
  applyPending (ite (h.modDock d _) ((h.modDock d _).tryReread d)) d

theorem replaceBike (h : Orderly s) (d T : Nat) (k : BikeKind) : Orderly (replaceBike d T k s) :=
  tellReturn d ((((((h.clearElsewhere d T).modDock d _).holdIfWanted d).enter _).reportDock d _ _).closeBikeHire T d)

theorem mismatch (h : Orderly s) (d T : Nat) (k : BikeKind) : Orderly (mismatch d T k s) :=
  (ite (h.refuseClaim d) h).replaceBike d T k

theorem strandedGone (h : Orderly s) (d : Nat) : Orderly (strandedGone d s) := by
  unfold Machine.strandedGone
  split
  · exact (h.modDock d _).enter _
  · exact h

theorem arriveRetired (h : Orderly s) (d T : Nat) : Orderly (arriveRetired d T s) := by
  have hreject := (h.placeLock retiredReject d).raise (.returnRefused d)
  unfold Machine.arriveRetired
  refine ite h ?_
  dsimp only
  split
  · exact (hreject.modDock d _).enter _
  · exact hreject

theorem startAtAudit (h : Orderly s) (r : Hire) (d : Nat) : Orderly (startAtAudit r d s) :=
  enter (s := hireOut r.number s) h _

theorem afterResolution (h : Orderly s) (d : Nat) : Orderly (afterResolution d s) :=
  ite (h.enterRetired d) (ite (h.retireAtThreshold d) h)

theorem resolveEmpty (h : Orderly s) (d : Nat) : Orderly (resolveEmpty d s) := by
  have hstarted : Orderly (startedWhenGone d s) := by
    unfold startedWhenGone
    split
    · exact h.startAtAudit _ d
    · exact h
  rw [resolveEmpty_eq]
  exact afterResolution (ite (hstarted.modDock d _) (hstarted.modDock d _).topUp) d

theorem clearIfRead (h : Orderly s) (d T : Nat) : Orderly (clearIfRead d T s) := ite h (h.clearElsewhere d T)

theorem closeIfRead (h : Orderly s) (d T : Nat) : Orderly (closeIfRead d T s) := ite h (h.closeBikeHire T d)

theorem resolveFound (h : Orderly s) (d : Nat) (f : Found) : Orderly (resolveFound d f s) := by
  have hhire : Orderly (hireWhenFound d f s) := by
    unfold hireWhenFound
    split
    · exact ite (s := cancelHire _ s) h (h.startAtAudit _ d)
    · exact h
  have hin := ((hhire.clearIfRead d f.tag).takeIn d f.tag f.kind).closeIfRead d f.tag
  have hlocked := ite (p := f.closed = true) hin (hin.placeLock patrolLock d)
  rw [resolveFound_eq]
  exact (hlocked.senseCheck d).afterResolution d

theorem resolve (h : Orderly s) (d : Nat) (found : Option Found) : Orderly (resolve d found s) := by
  unfold Machine.resolve
  split
  · exact h.resolveFound d _
  · exact h.resolveEmpty d

theorem hireWhenGone (h : Orderly s) (d : Nat) : Orderly (hireWhenGone d s) := by
  unfold Machine.hireWhenGone
  split <;> exact h

theorem resolveSilent (h : Orderly s) (d : Nat) : Orderly (resolveSilent d s) := (h.hireWhenGone d).enterRetiredEmpty d

theorem resolveByEvent (h : Orderly s) (d : Nat) (found : Option Found) : Orderly (resolveByEvent d found s) :=
  ((h.resolve d found).modAudit _).auditEnd

theorem arriveSettled (h : Orderly s) (d T : Nat) (k : BikeKind) : Orderly (arriveSettled d T k s) := by
  unfold Machine.arriveSettled
  split
  · exact h.arriveFree d T k
  · exact h.arriveFree d T k
  · exact ((h.modDock d _).endOperation d).arriveFree d T k
  · exact ite (h.restartIdentification d) (h.identified d T k)
  · exact ite h (h.mismatch d T k)
  · exact ite h (h.mismatch d T k)
  · exact h.arriveRetired d T
  · exact h.resolveByEvent d _
  · exact h

theorem arrive (h : Orderly s) (d T : Nat) (k : BikeKind) : Orderly (arrive d T k s) :=
  ite (ite (ite h (h.lapse d)) ((h.pull d).arriveSettled d T k)) (h.arriveSettled d T k)

theorem forcedRemoval (h : Orderly s) (d : Nat) : Orderly (forcedRemoval d s) :=
  (((ite (h.refuseClaimRemoved d) h).becomeVacant d).enter _).reportDock d _ _

theorem bikeRemoved (h : Orderly s) (d : Nat) : Orderly (bikeRemoved d s) := by
  have hvacant := (h.endOperation d).becomeVacant d
  unfold Machine.bikeRemoved
  split
  · exact h
  · exact h
  · exact hvacant
  · exact h.forcedRemoval d
  · exact h.forcedRemoval d
  · exact h.pull d
  · exact hvacant
  · exact h.strandedGone d
  · exact h.resolveByEvent d _

/-! ## The comparison and the replies -/

theorem compareFree (h : Orderly s) (d : Nat) (f : Found) : Orderly (compareFree d f s) :=
  ((h.enter _).arrive d _ _).reportDock d _ _

theorem compareGone (h : Orderly s) (d : Nat) : Orderly (compareGone d s) :=
  ((h.enter _).becomeVacant d).reportDock d _ _

theorem compareRetired (h : Orderly s) (d : Nat) (f : Found) : Orderly (compareRetired d f s) :=
  (((h.clearIfRead d f.tag).modDock d _).enter _).closeIfRead d f.tag

theorem compareRow (h : Orderly s) (d : Nat) (found : Option Found) : Orderly (compareRow d found s).1 := by
  unfold Machine.compareRow
  split
  · exact h
  · exact h
  · exact h.compareFree d _
  · exact h.compareFree d _
  · exact h.compareGone d
  · exact ite ((h.refuseClaim d).strandedGone d) ((h.refuseClaim d).compareGone d)
  · split
    · exact h
    · exact h.mismatch d _ _
  · split
    · exact h
    · exact h.mismatch d _ _
  · split
    · exact h.strandedGone d
    · exact h
  · split
    · exact h
    · exact h.compareRetired d _
  all_goals exact h

theorem compare (h : Orderly s) (d : Nat) (found : Option Found) : Orderly (compare d found s).1 := by
  have hrow := h.compareRow d found
  unfold Machine.compare Machine.afterRow
  split
  · split
    · exact (hrow.placeLock _ d).senseCheck d
    · exact hrow.senseCheck d
  · exact hrow

theorem compareLock (h : Orderly s) (d : Nat) (found : Option Found) : Orderly (compareLock d found s) :=
  ite h (h.compare d found)

theorem countMismatch (h : Orderly s) (d : Nat) (m : Bool) : Orderly (countMismatch d m s) := ite (h.modAudit _) h

theorem auditFinding (h : Orderly s) (d : Nat) (found : Option Found) : Orderly (auditFinding d found s) := by
  have hc := h.compare d found
  unfold Machine.auditFinding
  split
  · exact hc.countMismatch d _
  · exact ite (h.resolve d found) hc
  · exact hc

theorem patrolStatusReply (h : Orderly s) (d : Nat) (found : Option Found) : Orderly (patrolStatusReply d found s) :=
  ite ((h.modAudit _).auditFinding d found).auditStep (h.compare d found)

theorem patrolStatusSilent (h : Orderly s) (d : Nat) : Orderly (patrolStatusSilent d s) :=
  ite (ite ((h.modAudit _).resolveSilent d) (h.modAudit _)).auditStep h

theorem openedFor (h : Orderly s) (c : Cmd) : Orderly (openedFor c s) :=
  ite (h.releaseOpened _) (ite (h.modDock _ _) h)

theorem lockedWithFor (h : Orderly s) (c : Cmd) (T : Nat) (k : BikeKind) : Orderly (lockedWithFor c T k s) :=
  ite (h.compareLock _ _) (ite (ite (h.lapse _) ((h.pull _).arrive _ T k))
    (ite (h.arrive _ T k) (ite h (h.arrive _ T k))))

theorem lockedEmptyFor (h : Orderly s) (c : Cmd) : Orderly (lockedEmptyFor c s) :=
  ite (h.compareLock _ _) (ite (h.pull _) (ite ((h.endOperation _).becomeVacant _) h))

theorem rereadReply (h : Orderly s) (d : Nat) (found : Option Found) : Orderly (rereadReply d found s) := by
  unfold Machine.rereadReply
  split
  · exact (h.endOperation d).becomeVacant d
  · exact ite (h.rereadUnread d) (h.identified d _ _)

theorem statusFor (h : Orderly s) (c : Cmd) (found : Option Found) : Orderly (statusFor c found s) :=
  ite (h.patrolStatusReply _ found) (ite (h.rereadReply _ found) (h.compare _ found))

theorem senseStartedAt (h : Orderly s) (d : Nat) : Orderly (senseStartedAt d s) := by
  unfold Machine.senseStartedAt
  split
  · exact ite (h.modDock d _) h
  · exact h

theorem senseDoneAt (h : Orderly s) (d level : Nat) : Orderly (senseDoneAt d level s) := by
  unfold Machine.senseDoneAt
  dsimp only
  split
  · split
    · split
      · exact ite ((h.modDock d _).reportBike _ _ _) (h.modDock d _)
      · exact h
    · exact h
  · exact h

theorem noReplyFor (h : Orderly s) (c : Cmd) : Orderly (noReplyFor c s) := by
  have hvacant := (h.endOperation c.dock).becomeVacant c.dock
  unfold Machine.noReplyFor
  dsimp only
  split
  · exact h.patrolStatusSilent _
  · exact ite (h.closeWith _ _) h
  · exact ite (h.closingLockSilent _) (ite hvacant h)
  · exact ite hvacant h
  · exact ite (h.rereadUnread _) h
  · exact h

end Orderly

end Sys2Proof.Machine
end


section
/-! PROOFS. The law of the Dock Command Queue in every row of the table, in every request, at both starts of the station,
and with that at every step. -/

namespace Sys2Proof.Machine

variable {s t : State} {d : Nat}

namespace Orderly

/-! ## The rows of the dock bus and of the timers -/

theorem onDockCommandSent (h : Orderly s) : Orderly (onDockCommandSent s) := h.modBus fun _ hb => hb.timer fun _ => rfl

theorem onDockResponseTimeout (h : Orderly s) : Orderly (onDockResponseTimeout s) := by
  unfold Machine.onDockResponseTimeout
  split
  · refine ite ?_ h
    unfold timedOutOnBus
    split
    · exact h.pollEnded
    · exact ((h.endExchange.noReplyFor _).reportDock _ _ _).moveOn
  · exact h

/-- A frame taken as the reply of the command in flight, or ignored (R21, R36). -/
theorem repliedOrIgnored (h : Orderly s) {act : Cmd → State → State} (ha : ∀ c {t}, Orderly t → Orderly (act c t))
    (dock code : Byte) : Orderly (match acceptedBy dock code s with
      | some c => replied (act c) s
      | none => Machine.ignoreFrame s) := by
  split
  · exact (ha _ h.endExchange).moveOn
  · exact h.ignoreFrame

theorem eventIs (h : Orderly s) {act : Nat → State → State} (ha : ∀ d {t}, Orderly t → Orderly (act d t)) (dock : Byte)
    (low : Bool) : Orderly (eventIs dock low act s) :=
  ite (moveOn (ha _ (pollIfLow (sampleWire h.endExchange low)))) (h.ignoreFrame.sampleWire low)

theorem onNoEvent (h : Orderly s) (dock : Byte) : Orderly (onNoEvent dock s) := ite h.pollEnded h.ignoreFrame

theorem onDockFrameIgnored (h : Orderly s) (bytes : List Byte) (low : Bool) : Orderly (onDockFrameIgnored bytes low s) :=
  ite h (h.ignoreFrame.sampleWire low)

theorem onDockFrameKindDiscarded (h : Orderly s) (dock kind : Byte) : Orderly (onDockFrameKindDiscarded dock kind s) :=
  ite h (h.modBus fun _ hb => hb.congr rfl rfl)

theorem onReleaseWindowExpiry (h : Orderly s) (d : Nat) : Orderly (onReleaseWindowExpiry d s) := ite (h.closeWith _ d) h

theorem onEjectWindowExpiry (h : Orderly s) (d : Nat) : Orderly (onEjectWindowExpiry d s) := ite (h.closeWith _ d) h

theorem onAuthTimeout (h : Orderly s) : Orderly (onAuthTimeout s) := by
  unfold Machine.onAuthTimeout
  split
  · exact h.endAuth _ _
  · exact h

theorem onBatchIdleExpiry (h : Orderly s) : Orderly (onBatchIdleExpiry s) :=
  ite (ite ((h.modDue _).endBatch _) ((h.modDue _).modBatch _)) h

theorem onSenseTimerExpiry (h : Orderly s) (d : Nat) : Orderly (onSenseTimerExpiry d s) := ite (h.modDock d _) h

theorem advanceCursor (h : Orderly s) : Orderly (advanceCursor s) := by
  unfold Machine.advanceCursor
  dsimp only
  split <;> exact h

theorem visit (h : Orderly s) : Orderly (visit s) := by
  have hp := h.placeQuiet .status .patrol s.patrol.cursor
  unfold Machine.visit
  dsimp only
  split
  · exact h.advanceCursor
  · split
    · rename_i heq
      rw [heq] at hp
      exact hp.advanceCursor
    · rename_i heq
      rw [heq] at hp
      exact hp

theorem onPatrolIntervalExpiry (h : Orderly s) : Orderly (onPatrolIntervalExpiry s) := by
  refine ite (visit ?_) h
  exact h

theorem onPatrolPostscalerExpiry (h : Orderly s) : Orderly (onPatrolPostscalerExpiry s) := by
  refine ite (raise ?_ _) h
  exact h

theorem onLeak (h : Orderly s) : Orderly (onLeak s) :=
  ite (of_bus (foldl (fun _ d ht => modDock ht d _) _ h) rfl) h

theorem onPollHoldoffClear (h : Orderly s) (low : Bool) : Orderly (onPollHoldoffClear low s) := by
  refine ite (pollIfLow (sampleWire ?_ low)) h
  exact (h.modDue _).modBus fun _ hb => hb.congr rfl rfl

theorem onIdentRereadRetry (h : Orderly s) : Orderly (onIdentRereadRetry s) :=
  ite (foldl (fun _ d ht => ite (ht.tryReread d) ht) _ (h.modDue _)) h

theorem onAuditPass (h : Orderly s) : Orderly (onAuditPass s) := ite (h.modDue _).auditStep h

/-! ## The second tick -/

theorem serveDue (h : Orderly s) : Orderly (serveDue s) := by
  have hrelease := h.foldl (fun _ d ht => onReleaseWindowExpiry ht d) s.installedDocks
  have heject {t : State} (ht : Orderly t) := ht.foldl (fun _ d hu => onEjectWindowExpiry hu d) t.installedDocks
  have hauth {t : State} (ht : Orderly t) : Orderly (authTimeouts t) := ht.foldl (fun _ _ hu => onAuthTimeout hu) _
  have hsense {t : State} (ht : Orderly t) := ht.foldl (fun _ d hu => onSenseTimerExpiry hu d) t.installedDocks
  have htimers := hsense (hauth (heject hrelease)).onBatchIdleExpiry
  have hpatrol := htimers.onPatrolIntervalExpiry.onPatrolPostscalerExpiry.onLeak
  exact (hpatrol.onPollHoldoffClear _).onIdentRereadRetry.onAuditPass.onDockResponseTimeout

theorem endMinute (h : Orderly s) : Orderly (endMinute s) := by
  refine overdueCheck ?_
  exact h

theorem tickClock (h : Orderly s) : Orderly (tickClock s) := by
  refine ite h (ite h.endMinute ?_)
  exact h

theorem countTick (h : Orderly s) : Orderly (countTick s) :=
  of_bus (h.modBus (f := fun b => { b with inFlight := b.inFlight.map tickInFlight })
    fun _ hb => hb.timer fun _ => rfl) rfl

theorem onSecondTick (h : Orderly s) : Orderly (onSecondTick s) := h.serveDue.tickClock.countTick

theorem onStationMinuteIncrease (h : Orderly s) : Orderly (onStationMinuteIncrease s) := ite (h.endMinute.modDue _) h

/-! ## The requests -/

theorem openingWork (h : Orderly s) (f : BatchFields) : Orderly (openingWork f s).1 := by
  unfold Machine.openingWork
  dsimp only
  split
  · exact h.topUp
  · split
    · exact h.foldl (fun _ d ht => modDock ht d _) _
    · exact h.foldl (fun _ d ht => modDock ht d _) _

theorem batchOpen (h : Orderly s) (fields : List Byte) (p : Port) : Orderly (batchOpen fields p s).1 := by
  unfold Machine.batchOpen
  dsimp only
  split
  · exact h
  · split
    · exact h
    · refine openingWork ?_ _
      exact h

theorem batchTake (h : Orderly s) (fields : List Byte) (p : Port) : Orderly (batchTake fields p s).1 := by
  unfold Machine.batchTake
  dsimp only
  split
  · exact h
  · split
    · exact h
    · split
      · exact h
      · rename_i hu
        have hplaced := h.restartIdle.placeUnlatch hu
        exact hplaced

theorem batchClose (h : Orderly s) (fields : List Byte) (p : Port) : Orderly (batchClose fields p s).1 := by
  unfold Machine.batchClose
  dsimp only
  split
  · exact h
  · split
    · exact h.restartIdle.endBatch _
    · exact h

theorem batchRead (h : Orderly s) (fields : List Byte) (p : Port) : Orderly (batchRead fields p s).1 := by
  unfold Machine.batchRead
  split <;> exact h

theorem startHire (h : Orderly s) (c : Card) (d : Nat) : Orderly (startHire c d s).1 := by
  unfold Machine.startHire
  split
  · exact h
  · split
    · exact h
    · rename_i hu
      have hplaced := h.placeUnlatch hu
      exact hplaced

theorem startHire_of (h : Orderly s) {c : Card} {n : Option Nat} (hs : Machine.startHire c d s = (t, n)) : Orderly t := by
  have := h.startHire c d
  rwa [hs] at this

theorem hireStart (h : Orderly s) (fields : List Byte) (p : Port) : Orderly (hireStart fields p s).1 := by
  unfold Machine.hireStart
  dsimp only
  split
  · exact h
  split
  · exact h
  split
  · exact h
  split
  · exact h
  · split
    · exact h
    · refine raise (s := Machine.modDock _ _ _) ?_ _
      exact h
    · split
      · rename_i hs
        exact h.startHire_of hs
      · exact h

theorem resumeHire (h : Orderly s) (card d : Nat) (k : BikeKind) : Orderly (resumeHire card d k s).1 := by
  unfold Machine.resumeHire
  split
  · exact h
  · split
    · exact h
    · exact h
    · split
      · exact h
      · split
        · rename_i hs
          exact h.startHire_of hs
        · exact h

theorem hireCloseRemote (h : Orderly s) (fields : List Byte) (p : Port) : Orderly (hireCloseRemote fields p s).1 := by
  unfold Machine.hireCloseRemote
  dsimp only
  split
  · exact h
  · split
    · exact h
    · split
      · exact h
      · exact h.closeHire _ _ _

theorem hireRestore (h : Orderly s) (fields : List Byte) (p : Port) : Orderly (hireRestore fields p s).1 := by
  unfold Machine.hireRestore
  dsimp only
  split
  · exact h
  · split
    · refine makeOverdue ?_ _
      exact h
    · exact h

theorem cardSet (h : Orderly s) (fields : List Byte) (p : Port) : Orderly (cardSet fields p s).1 := by
  unfold Machine.cardSet
  dsimp only
  split
  · exact h
  · split
    · exact h
    · exact h.writeCards _ _

theorem cardRemove (h : Orderly s) (fields : List Byte) (p : Port) : Orderly (cardRemove fields p s).1 := by
  unfold Machine.cardRemove
  dsimp only
  split
  · exact h
  · split <;> exact h

theorem authGrant (h : Orderly s) (fields : List Byte) (p : Port) : Orderly (authGrant fields p s).1 := by
  unfold Machine.authGrant
  dsimp only
  split
  · exact h
  · split
    · exact h
    · rename_i e _
      have hgrant : Orderly (installGrant (grantCard fields e.card) e s).1 :=
        
        becomeHeld (s := dropAuth e.tag (Machine.writeCard [] (grantCard fields e.card) s).1) (h.writeCard [] _) e.dock
      exact (hgrant.resumeHire e.card e.dock e.wanted).raise _

theorem authDeny (h : Orderly s) (fields : List Byte) (p : Port) : Orderly (authDeny fields p s).1 := by
  unfold Machine.authDeny
  split
  · exact h
  · exact h.endAuth _ _

theorem linkState (h : Orderly s) (fields : List Byte) (p : Port) : Orderly (linkState fields p s).1 := by
  unfold Machine.linkState
  dsimp only
  split
  · exact h
  · split
    · exact h
    · split
      · refine foldl (fun _ e ht => endAuth ht e _) _ ?_
        exact h
      · exact h

theorem reportFault (h : Orderly s) (fields : List Byte) (p : Port) : Orderly (reportFault fields p s).1 := by
  unfold Machine.reportFault
  dsimp only
  split
  · exact h
  · split
    · exact h
    · split
      · unfold reportBikeFault
        split
        · exact h
        · split
          · exact h
          · exact h.reportBike _ _ _
      · unfold reportDockFault
        split
        · exact h
        · exact h.reportDock _ _ _

theorem restoreDock (h : Orderly s) (d : Nat) : Orderly (restoreDock d s) := by
  unfold Machine.restoreDock
  dsimp only
  split
  · exact (h.modDock d _).becomeHeld d
  · exact (h.modDock d _).becomeVacant d

theorem dockRestore (h : Orderly s) (fields : List Byte) (p : Port) : Orderly (dockRestore fields p s).1 := by
  unfold Machine.dockRestore
  dsimp only
  split
  · exact h
  · split
    · exact h
    · exact h.restoreDock _

theorem bikeClear (h : Orderly s) (fields : List Byte) (p : Port) : Orderly (bikeClear fields p s).1 := by
  unfold Machine.bikeClear
  dsimp only
  split
  · exact h
  · split <;> exact h

theorem configSet (h : Orderly s) (fields : List Byte) (p : Port) : Orderly (configSet fields p s).1 := by
  have hturned (old new : Nat) {t : State} (ht : Orderly t) : Orderly (patrolTurned old new t) := by
    unfold patrolTurned
    split
    · exact of_bus ht.onPatrolPostscalerExpiry rfl
    · split <;> exact ht
  unfold Machine.configSet
  dsimp only
  split
  · exact h
  · have hset := hturned s.settings.patrolEnable (writeSettings (configSettings fields) s.settings).patrolEnable
      (t := { s with settings := writeSettings (configSettings fields) s.settings }) h
    exact ite (hset.tells (evalHeld_tells _)) hset

theorem journalRelease (h : Orderly s) (fields : List Byte) (p : Port) : Orderly (journalRelease fields p s).1 := by
  unfold Machine.journalRelease
  dsimp only
  split
  · exact h
  · exact of_bus h (evalHeld_tells _).bus

theorem timeSet (h : Orderly s) (fields : List Byte) (p : Port) : Orderly (timeSet fields p s).1 := by
  unfold Machine.timeSet
  dsimp only
  split
  · exact h
  · refine overdueCheck ?_
    exact h

theorem fullAudit (h : Orderly s) (fields : List Byte) (p : Port) : Orderly (fullAudit fields p s).1 := by
  unfold Machine.fullAudit
  split
  · exact h
  · refine auditStep ?_
    exact h

/-! ## The starts of the station -/

/-- The bus is emptied (R39). -/
theorem resetBus (h : Orderly s) : Orderly (resetBus s) := h.modBus fun _ hb => hb.sub (List.nil_subperm) (Nat.zero_le _)

theorem resetFirst (h : Orderly s) : Orderly (resetFirst s) := by
  refine of_bus (pollIfLow (resetBus ?_)) rfl
  exact h

theorem abortBatch (h : Orderly s) : Orderly (abortBatch s) := by
  unfold Machine.abortBatch
  split
  · exact of_bus (h.enter _) rfl
  · exact h

theorem dropDock (h : Orderly s) (d : Nat) : Orderly (dropDock d s) := by
  rw [dropDock_eq]
  exact hireWhenGone (h.tells (missedWhenDropped_tells d s)) d

theorem renumberDocks (h : Orderly s) : Orderly (renumberDocks s) :=
  ite (foldl (fun _ d ht => dropDock ht d) _ h) (foldl (f := fun t d => setDock d Dock.powerOn t) (fun _ _ ht => ht) _ h)

theorem applyInstalled (h : Orderly s) : Orderly (applyInstalled s) := by
  rw [applyInstalled_eq]
  exact h.renumberDocks

theorem resetDocks (h : Orderly s) : Orderly (resetDocks s) := foldl (fun _ d ht => modDock ht d _) _ h

theorem resetPorts (h : Orderly s) : Orderly (resetPorts s) := by
  refine tells ?_ (journalNotices_tells _)
  exact h

theorem resetPatrol (h : Orderly s) : Orderly (resetPatrol s) := h

theorem resetSteps (h : Orderly s) : Orderly (resetSteps s) :=
  h.resetFirst.abortBatch.applyInstalled.resetDocks.resetPatrol.resetPorts

theorem audit (h : Orderly s) (a : Audit) : Orderly { s with audit := a } := h

theorem stationReset (h : Orderly s) : Orderly (stationReset s) := by
  rw [stationReset_eq]
  exact (h.resetSteps.audit _).auditStep

theorem reset : Orderly State.reset := (orderly_iff _).mpr ⟨_, good_reset.rest.bus⟩

theorem onPowerOn (low : Bool) (s : State) : Orderly (onPowerOn low s) := by
  refine auditStep (pollIfLow (sampleWire ?_ low))
  exact reset

theorem onResetPinLow (h : Orderly s) : Orderly (onResetPinLow s) := by
  refine ite h (stationReset ?_)
  exact h

theorem onResetPinHigh (h : Orderly s) (low : Bool) : Orderly (onResetPinHigh low s) := by
  refine ite (auditStep (pollIfLow (sampleWire ?_ low))) h
  exact h

/-! ## Frames -/

theorem aside : Aside fun s t => Orderly s → Orderly t := ⟨fun _ => id, fun _ _ _ _ => id, fun p x _ h => h.setPort p x⟩

/-- Every request's rule, by its code (R169). -/
theorem rule (h : Orderly s) {code : Byte} {rule : List Byte → Port → State → Answer} (hr : blockRule code = some rule)
    (fields : List Byte) (p : Port) : Orderly (rule fields p s).1 := by
  obtain ⟨take, endN, mask⟩ := aside.notices fields p s
  obtain ⟨query, read, card, peek, dock⟩ := aside.onlyReads fields p s
  obtain ⟨policy, tariff, attr⟩ := aside.tableOnly fields p s
  have orElse {c : Prop} [Decidable c] {a : List Byte → Port → State → Answer}
      {o : Option (List Byte → Port → State → Answer)} (ha : Orderly (a fields p s).1)
      (ho : ∀ r, o = some r → Orderly (r fields p s).1) :
      ∀ r, (if c then some a else o) = some r → Orderly (r fields p s).1 := by
    intro r hr
    split at hr
    · cases hr
      exact ha
    · exact ho r hr
  suffices hall : ∀ r, blockRule code = some r → Orderly (r fields p s).1 from hall rule hr
  exact orElse (take h) <| orElse h <| orElse (endN h) <| orElse (mask h) <| orElse (dock h) <| orElse h <|
    orElse (h.hireStart fields p) <| orElse (query h) <| orElse (h.reportFault fields p) <| orElse h <|
    orElse (h.cardSet fields p) <| orElse (h.cardRemove fields p) <| orElse (card h) <| orElse h <|
    orElse (h.authGrant fields p) <| orElse (h.authDeny fields p) <| orElse (h.linkState fields p) <|
    orElse (policy h) <| orElse (tariff h) <| orElse (attr h) <| orElse (h.hireCloseRemote fields p) <|
    orElse (h.hireRestore fields p) <| orElse (read h) <| orElse (peek h) <| orElse (h.journalRelease fields p) <|
    orElse (h.configSet fields p) <| orElse (h.timeSet fields p) <| orElse h.stationReset <|
    orElse (h.fullAudit fields p) <| orElse (h.batchOpen fields p) <| orElse (h.batchTake fields p) <|
    orElse (h.batchClose fields p) <| orElse (h.batchRead fields p) <| orElse (h.dockRestore fields p) <|
    orElse (h.bikeClear fields p) fun _ h => absurd h nofun

/-- A request frame that is taken (R168, R169). -/
theorem takeFrame (h : Orderly s) (fr : Frame) (p : Port) : Orderly (takeFrame fr p s) := by
  suffices ha : Orderly (answerTo fr p s).1 from ha.setPort p _
  unfold answerTo
  split
  · exact h
  · split
    · rename_i hr
      exact h.rule hr _ p
    · exact h

theorem frameCompletes (h : Orderly s) (fr : Frame) (p : Port) : Orderly (frameCompletes fr p s) := by
  unfold Machine.frameCompletes
  split
  · exact h
  · exact ite (h.modPort p _) (h.takeFrame fr p)

theorem frameArrives (h : Orderly s) (p : Port) (code tag : Byte) (fields : List Byte) :
    Orderly (frameArrives p code tag fields s) := ite h ((h.modPort p _).frameCompletes _ p)

theorem searchOn (h : Orderly s) (n : Nat) (p : Port) : Orderly (searchOn n p s) := by
  induction n generalizing s with
  | zero => exact h
  | succ n ih =>
    unfold Machine.searchOn
    dsimp only
    split
    · exact ih ((h.modPort p _).frameCompletes _ p)
    · exact h.modPort p _

theorem onRequestFrameBadCheck (h : Orderly s) (p : Port) (bytes : List Byte) :
    Orderly (onRequestFrameBadCheck p bytes s) := ite h ((h.modPort p _).searchOn _ p)

theorem onReplySent (h : Orderly s) (p : Port) : Orderly (onReplySent p s) := by
  unfold Machine.onReplySent
  dsimp only
  split
  · exact h
  · split
    · exact (h.modPort p _).takeFrame _ p
    · exact h.modPort p _

theorem onInterByteTimeout (h : Orderly s) (p : Port) : Orderly (onInterByteTimeout p s) := ite h (h.modPort p _)

theorem onFrameAttemptEnded (h : Orderly s) (p : Port) (length : Byte) : Orderly (onFrameAttemptEnded p length s) :=
  ite h (h.modPort p _)

theorem onPortReset (h : Orderly s) (p : Port) : Orderly (onPortReset p s) := ite h (h.setPort p _)

theorem onLineReturnsToMarking (h : Orderly s) (p : Port) : Orderly (onLineReturnsToMarking p s) := ite (h.modPort p _) h

/-! ## Every command -/

theorem exec (h : Orderly s) {c : Instr} (he : exec c s = .next t) : Orderly t := by
  have frame (p : Port) (code tag : Byte) (fields : List Byte) : Orderly (Machine.frameArrives p code tag fields s) :=
    h.frameArrives p code tag fields
  cases c <;> cases he
  case powerOn low => exact onPowerOn low s
  case resetPinLow => exact h.onResetPinLow
  case resetPinHigh low => exact h.onResetPinHigh low
  case secondTick => exact h.onSecondTick
  case stationMinuteIncrease => exact h.onStationMinuteIncrease
  case releaseWindowExpiry d => exact h.onReleaseWindowExpiry d
  case ejectWindowExpiry d => exact h.onEjectWindowExpiry d
  case authTimeout => exact h.onAuthTimeout
  case batchIdleExpiry => exact h.onBatchIdleExpiry
  case senseTimerExpiry d => exact h.onSenseTimerExpiry d
  case patrolIntervalExpiry => exact h.onPatrolIntervalExpiry
  case patrolPostscalerExpiry => exact h.onPatrolPostscalerExpiry
  case leak => exact h.onLeak
  case pollHoldoffClear low => exact h.onPollHoldoffClear low
  case identRereadRetry => exact h.onIdentRereadRetry
  case auditPass => exact h.onAuditPass
  case dockAttentionLow => exact (h.sampleWire true).pollIfLow
  case dockCommandSent => exact h.onDockCommandSent
  case dockResponseTimeout => exact h.onDockResponseTimeout
  case dockFrameIgnored bytes low => exact h.onDockFrameIgnored bytes low
  case opened dock => exact h.repliedOrIgnored (fun c _ ht => ht.openedFor c) dock _
  case lockedWith dock tag kind => exact h.repliedOrIgnored (fun c _ ht => ht.lockedWithFor c _ _) dock _
  case lockedEmpty dock => exact h.repliedOrIgnored (fun c _ ht => ht.lockedEmptyFor c) dock _
  case statusIs dock tag flags => exact h.repliedOrIgnored (fun c _ ht => ht.statusFor c _) dock _
  case senseStarted dock => exact h.repliedOrIgnored (fun c _ ht => ht.senseStartedAt c.dock) dock _
  case noEvent dock => exact h.onNoEvent dock
  case inserted dock tag kind low => exact h.eventIs (fun d _ ht => ht.arrive d _ _) dock low
  case removed dock low => exact h.eventIs (fun d _ ht => ht.bikeRemoved d) dock low
  case lockFault dock low => exact h.eventIs (fun d _ ht => ht.reportDock d _ _) dock low
  case senseDone dock level low => exact h.eventIs (fun d _ ht => ht.senseDoneAt d _) dock low
  case requestFrameBadCheck p bytes => exact h.onRequestFrameBadCheck p bytes
  case interByteTimeout p => exact h.onInterByteTimeout p
  case framingError p => exact h.onInterByteTimeout p
  case frameAttemptEnded p length => exact h.onFrameAttemptEnded p length
  case portReset p => exact h.onPortReset p
  case lineReturnsToMarking p => exact h.onLineReturnsToMarking p
  case replySent p => exact h.onReplySent p
  case dockFrameKindDiscarded dock kind => exact h.onDockFrameKindDiscarded dock kind
  all_goals exact frame _ _ _ _

/-- A step takes a command off the queue and carries it out, or leaves the part idle. -/
theorem step (h : Orderly s) (hs : step s = .next t) : Orderly t := by
  unfold Machine.step at hs
  split at hs
  · cases hs
    exact h
  · refine exec ?_ hs
    exact h

end Orderly

end Sys2Proof.Machine

namespace Sys2Proof.Settled

open Sys2Proof.Machine

/-- Settles O16: the law holds at reset, and every act of the part reaches the queue only through placements for docks
with nothing in hand, exchanges of one command for another of its dock, and removals. -/
theorem queueLawKept : Obligations.QueueLawKept := ⟨Orderly.reset, fun _ _ h hs => Orderly.step h hs⟩

end Sys2Proof.Settled
end

section
/-! PROOFS. The placements on the dock bus (R29, R30, R31), row by row: by what the dock has owed, in flight and
queued. -/

namespace Sys2Proof.Machine

variable {d : Nat} {s : State}

/-! ## What a dock has in hand -/

theorem queuedAt_eq_none_iff : queuedAt d s = none ↔ ∀ x ∈ s.bus.queue, x.dock ≠ d := by simp [queuedAt]

/-- The queued command of a dock is its first one in the queue. -/
theorem queuedAt_eq_some {before after : List Cmd} {q : Cmd} (hq : s.bus.queue = before ++ q :: after) (hd : q.dock = d)
    (hbefore : ∀ x ∈ before, x.dock ≠ d) : queuedAt d s = some q :=
  List.find?_eq_some_iff_append.mpr ⟨by simpa using hd, before, after, hq, by simpa using hbefore⟩

/-- The first command of a dock taken out of the queue. -/
theorem erase_first {before after : List Cmd} {q : Cmd} (hd : q.dock = d) (hbefore : ∀ x ∈ before, x.dock ≠ d) :
    (before ++ q :: after).erase q = before ++ after := by
  rw [List.erase_append_right _ fun hq => hbefore q hq hd, List.erase_cons_head]

/-- The one command of a dock replaced at its place. -/
theorem map_replace {before after : List Cmd} {q : Cmd} (c : Cmd) (hd : q.dock = d) (hbefore : ∀ x ∈ before, x.dock ≠ d)
    (hafter : ∀ x ∈ after, x.dock ≠ d) :
    (before ++ q :: after).map (fun x => if x.dock == d then c else x) = before ++ c :: after := by
  have hsame (l : List Cmd) (hl : ∀ x ∈ l, x.dock ≠ d) : l.map (fun x => if x.dock == d then c else x) = l :=
    (List.map_congr_left fun x hx => if_neg (by simpa using hl x hx)).trans (List.map_id' l)
  rw [List.map_append, List.map_cons, hsame before hbefore, hsame after hafter, if_pos (by simpa using hd)]

theorem inFlightAt_eq_none_iff : inFlightAt d s = none ↔ ∀ x, InFlightIs x s → x.dock ≠ d := by
  unfold inFlightAt InFlightIs
  split
  · rename_i f hf
    obtain ⟨w, n⟩ := f
    cases w with
    | poll => simp [hf]
    | command c => simp [hf]
  · rename_i hf
    simp [hf]

theorem inFlightAt_isSome_iff : (inFlightAt d s).isSome ↔ ∃ x, InFlightIs x s ∧ x.dock = d := by
  rw [Option.isSome_iff_ne_none, ne_eq, inFlightAt_eq_none_iff]
  push Not
  rfl

theorem queueFull_eq_false_iff : queueFull s = false ↔ s.bus.queue.length < 16 := by simp [queueFull]

/-- Where no command is in flight for the dock, only a queued or an owed one is in hand (R34). -/
theorem nothingInHand_eq_true_iff : nothingInHand d s = true ↔
    (∀ x ∈ s.bus.queue, x.dock ≠ d) ∧ (∀ x, InFlightIs x s → x.dock ≠ d) ∧ (s.dock d).owed = none := by
  simp only [nothingInHand, Bool.and_eq_true, Option.isNone_iff_eq_none, queuedAt_eq_none_iff, inFlightAt_eq_none_iff,
    and_assoc]

theorem class_eq_one_iff (k : CmdKind) : k.class = 1 ↔ k = .lock ∨ k = .reject := by cases k <;> decide

theorem class_eq_four_iff (k : CmdKind) : k.class = 4 ↔ k = .status ∨ k = .senseStart := by cases k <;> decide

/-- Nothing is taken from a bus that is busy (R28). -/
theorem kick_busy (h : s.bus.inFlight.isSome) : kick s = s := by
  unfold kick
  rw [if_neg (by simp [Option.isSome_iff_ne_none.mp h])]

/-! ## LOCK and REJECT (R29) -/

variable (o : Owed)

/-- A dock that is owed a command owes the new one, and the old is dropped. -/
theorem lockChange_owed {old : Owed} (h : (s.dock d).owed = some old) :
    lockChange o d s = (owe o d s, some { kind := old.kind, dock := d, owner := old.owner, live := old.live }) := by
  simp only [lockChange, h]

/-- A dock with a command in flight owes the new one. -/
theorem lockChange_inFlight (h : (s.dock d).owed = none) {x : Cmd} (hx : InFlightIs x s) (hd : x.dock = d) :
    lockChange o d s = (owe o d s, none) := by
  obtain ⟨y, hy⟩ := Option.isSome_iff_exists.mp (inFlightAt_isSome_iff.mpr ⟨x, hx, hd⟩)
  simp only [lockChange, h, hy]

/-- A queued command of the dock is replaced at its place by one of its class, and else gives its place up. -/
theorem lockChange_queued (h : (s.dock d).owed = none) (hf : ∀ x, InFlightIs x s → x.dock ≠ d) {before after : List Cmd}
    {q : Cmd} (hq : s.bus.queue = before ++ q :: after) (hd : q.dock = d) (hbefore : ∀ x ∈ before, x.dock ≠ d)
    (hafter : ∀ x ∈ after, x.dock ≠ d) :
    lockChange o d s = (modBus (fun b => { b with queue :=
      if q.kind = .lock ∨ q.kind = .reject then
        before ++ { kind := o.kind, dock := d, owner := o.owner, live := o.live } :: after
      else before ++ after ++ [{ kind := o.kind, dock := d, owner := o.owner, live := o.live }] }) s, some q) := by
  have hat := queuedAt_eq_some hq hd hbefore
  simp only [lockChange, h, inFlightAt_eq_none_iff.mpr hf, hat, class_eq_one_iff, modBus, hq, erase_first hd hbefore,
    map_replace _ hd hbefore hafter]
  split <;> rfl

/-- A dock with nothing in hand gets a place in the queue, or is owed the command when every place is full. -/
theorem lockChange_free (h : (s.dock d).owed = none) (hf : ∀ x, InFlightIs x s → x.dock ≠ d)
    (hq : ∀ x ∈ s.bus.queue, x.dock ≠ d) :
    lockChange o d s = if s.bus.queue.length < 16 then
        (modBus (fun b => { b with
          queue := b.queue ++ [{ kind := o.kind, dock := d, owner := o.owner, live := o.live }] }) s, none)
      else (owe o d s, none) := by
  simp only [lockChange, h, inFlightAt_eq_none_iff.mpr hf, queuedAt_eq_none_iff.mpr hq]
  by_cases hroom : s.bus.queue.length < 16
  · rw [if_pos hroom, if_neg (by simp [queueFull_eq_false_iff.mpr hroom])]
  · rw [if_neg hroom, if_pos (by simpa [queueFull] using hroom)]

/-! ## UNLATCH (R30) -/

/-- The UNLATCH of a release (R43). -/
def releaseUnlatch (d : Nat) : Cmd := { kind := .unlatch, dock := d, owner := .release, live := true }

/-- An UNLATCH is refused where the dock is owed a command or has one in flight. -/
theorem unlatchChange_refused (h : (s.dock d).owed.isSome ∨ ∃ x, InFlightIs x s ∧ x.dock = d) :
    unlatchChange d s = none := by
  unfold unlatchChange
  exact if_pos (by simpa [inFlightAt_isSome_iff] using h)

/-- A queued STATUS or SENSE_START gives way to an UNLATCH; another queued command does not. -/
theorem unlatchChange_queued (h : (s.dock d).owed = none) (hf : ∀ x, InFlightIs x s → x.dock ≠ d)
    {before after : List Cmd} {q : Cmd} (hq : s.bus.queue = before ++ q :: after) (hd : q.dock = d)
    (hbefore : ∀ x ∈ before, x.dock ≠ d) :
    unlatchChange d s = if q.kind = .status ∨ q.kind = .senseStart then
      some (modBus (fun b => { b with queue := before ++ after ++ [releaseUnlatch d] }) s, some q) else none := by
  have hat := queuedAt_eq_some hq hd hbefore
  simp only [unlatchChange, h, inFlightAt_eq_none_iff.mpr hf, hat, class_eq_four_iff, modBus, hq, erase_first hd hbefore,
    releaseUnlatch]
  rfl

/-- At a dock with nothing in hand an UNLATCH gets a place in the queue, or is refused when every place is full. -/
theorem unlatchChange_free (h : (s.dock d).owed = none) (hf : ∀ x, InFlightIs x s → x.dock ≠ d)
    (hq : ∀ x ∈ s.bus.queue, x.dock ≠ d) :
    unlatchChange d s = if s.bus.queue.length < 16 then
      some (modBus (fun b => { b with queue := b.queue ++ [releaseUnlatch d] }) s, none) else none := by
  simp only [unlatchChange, h, inFlightAt_eq_none_iff.mpr hf, queuedAt_eq_none_iff.mpr hq, Option.isSome_none,
    Bool.or_false, Bool.false_eq_true, if_false, releaseUnlatch]
  by_cases hroom : s.bus.queue.length < 16
  · rw [if_pos hroom, if_neg (by simp [queueFull_eq_false_iff.mpr hroom])]
  · rw [if_neg hroom, if_pos (by simpa [queueFull] using hroom)]

/-! ## STATUS and SENSE_START (R31) -/

/-- A STATUS or SENSE_START is refused where the dock has anything in hand or every place is full. -/
theorem placeQuiet_refused (kind : CmdKind) (owner : PlacingUnit) (h : (s.dock d).owed.isSome ∨
    (∃ x, InFlightIs x s ∧ x.dock = d) ∨ (∃ x, x ∈ s.bus.queue ∧ x.dock = d) ∨ 16 ≤ s.bus.queue.length) :
    placeQuiet kind owner d s = (s, false) := by
  unfold placeQuiet
  refine if_neg fun hfree => ?_
  simp only [Bool.and_eq_true, nothingInHand_eq_true_iff, Bool.not_eq_true', queueFull_eq_false_iff] at hfree
  obtain ⟨⟨hq, hf, ho⟩, hroom⟩ := hfree
  rcases h with h | ⟨x, hx, hd⟩ | ⟨x, hx, hd⟩ | h
  · simp [ho] at h
  · exact hf x hx hd
  · exact hq x hx hd
  · omega

/-- At a dock with nothing in hand it gets a place in the queue, and waits there on a busy bus. -/
theorem placeQuiet_busy (kind : CmdKind) (owner : PlacingUnit) (h : (s.dock d).owed = none)
    (hf : ∀ x, InFlightIs x s → x.dock ≠ d) (hq : ∀ x ∈ s.bus.queue, x.dock ≠ d) (hroom : s.bus.queue.length < 16)
    (hbusy : s.bus.inFlight.isSome) :
    placeQuiet kind owner d s = (modBus (fun b => { b with
      queue := b.queue ++ [{ kind := kind, dock := d, owner := owner, live := true }] }) s, true) := by
  unfold placeQuiet
  rw [if_pos, kick_busy]
  · exact hbusy
  · simp [nothingInHand_eq_true_iff.mpr ⟨hq, hf, h⟩, queueFull_eq_false_iff.mpr hroom]

end Sys2Proof.Machine

namespace Sys2Proof.Settled

open Sys2Proof.Machine

/-- Settles O17, row by row. -/
theorem placements : Obligations.Placements := by
  refine ⟨fun o d s => ⟨fun old hold => lockChange_owed o hold, fun ho =>
      ⟨fun x hx hd => lockChange_inFlight o ho hx hd, fun hf =>
        ⟨fun before q after hq hd hb ha => lockChange_queued o ho hf hq hd hb ha, lockChange_free o ho hf⟩⟩⟩,
    fun d s => ⟨unlatchChange_refused, fun ho honBus => ?_, fun kind owner => ⟨placeQuiet_refused kind owner, ?_⟩⟩⟩
  · have hf : ∀ x, InFlightIs x s → x.dock ≠ d := fun x hx hd => honBus ⟨x, hx, hd⟩
    exact ⟨fun before q after hq hd hb => unlatchChange_queued ho hf hq hd hb,
      fun hq => unlatchChange_free ho hf fun x hx hd => hq ⟨x, hx, hd⟩⟩
  · exact fun ho honBus hqueued => placeQuiet_busy kind owner ho (fun x hx hd => honBus ⟨x, hx, hd⟩)
      fun x hx hd => hqueued ⟨x, hx, hd⟩

end Sys2Proof.Settled
end

section
/-! PROOFS. Frames on the dock bus that end no exchange (R19, R20, R21, R26). -/

namespace Sys2Proof.Machine

variable {s : State} {dock : Byte}

/-! ## When no reply is awaited -/

/-- A frame that is ignored while the part listens leaves the search at the byte after it (R21). -/
theorem ignoreFrame_listening (h : driverEnable s = false) :
    ignoreFrame s = modBus (fun b => { b with partialFrame := [] }) s := by
  unfold ignoreFrame
  rw [if_neg (by simp [h])]

/-- While the part drives the bus it takes in no frame (R19). -/
theorem ignoreFrame_driving (h : driverEnable s = true) : ignoreFrame s = s := if_pos h

/-- No poll awaits its reply while the part drives the bus (R19, R25). -/
theorem pollInFlight_driving (h : driverEnable s = true) : pollInFlight s = false := by
  unfold driverEnable at h
  unfold pollInFlight
  split
  · rename_i f hf
    rw [hf] at h
    simp [Option.isNone_iff_eq_none.mp h]
  · rfl

/-- No poll awaits its reply while a dock-addressed command is in flight (R27). -/
theorem pollInFlight_command {c : Cmd} (h : InFlightIs c s) : pollInFlight s = false := by
  obtain ⟨n, h⟩ := h
  simp [pollInFlight, h]

theorem pollInFlight_idle (h : s.bus.inFlight = none) : pollInFlight s = false := by simp [pollInFlight, h]

theorem commandInFlight_eq_some_iff {c : Cmd} : commandInFlight s = some c ↔ InFlightIs c s := by
  unfold commandInFlight InFlightIs
  split
  · rename_i f hf
    obtain ⟨w, n⟩ := f
    cases w <;> simp [hf, eq_comm]
  · rename_i hf
    simp [hf]

/-- The command whose reply a frame is (R19, R21). -/
theorem acceptedBy_eq_some_iff {code : Byte} {c : Cmd} : acceptedBy dock code s = some c ↔
    InFlightIs c s ∧ driverEnable s = false ∧ c.dock = dock.toNat ∧ c.kind.admits code = true := by
  unfold acceptedBy
  rw [← commandInFlight_eq_some_iff]
  split
  · rename_i x hx
    rw [hx, Option.ite_none_right_eq_some, Option.some_inj]
    constructor
    · rintro ⟨h, rfl⟩
      exact ⟨rfl, h⟩
    · rintro ⟨rfl, h⟩
      exact ⟨h, rfl⟩
  · rename_i hx
    simp [hx]

/-- No command takes a frame that fails a condition of each command that may be in flight (R21). -/
theorem acceptedBy_eq_none {code : Byte}
    (h : ∀ c, InFlightIs c s → driverEnable s = false → c.dock = dock.toNat → c.kind.admits code = false) :
    acceptedBy dock code s = none := by
  rw [Option.eq_none_iff_forall_ne_some]
  intro c hc
  obtain ⟨hf, hlisten, hd, hk⟩ := acceptedBy_eq_some_iff.mp hc
  rw [h c hf hlisten hd] at hk
  cases hk

theorem acceptedBy_driving (h : driverEnable s = true) (code : Byte) : acceptedBy dock code s = none :=
  acceptedBy_eq_none fun _ _ hlisten => by rw [h] at hlisten; cases hlisten

theorem acceptedBy_otherDock (h : ∀ c, InFlightIs c s → c.dock ≠ dock.toNat) (code : Byte) :
    acceptedBy dock code s = none := acceptedBy_eq_none fun c hc _ hd => absurd hd (h c hc)

theorem acceptedBy_otherKind {c : Cmd} {code : Byte} (hc : InFlightIs c s) (h : c.kind.admits code = false) :
    acceptedBy dock code s = none := by
  refine acceptedBy_eq_none fun x hx _ _ => ?_
  obtain ⟨n, hc⟩ := hc
  obtain ⟨m, hx⟩ := hx
  rw [hc] at hx
  cases hx
  exact h

theorem eventAccepted_noPoll (h : pollInFlight s = false) : eventAccepted dock s = false := by simp [eventAccepted, h]

/-- An EVENT_IS is accepted from an installed dock alone (R26). -/
theorem eventAccepted_high (h : s.installed ≤ dock.toNat) : eventAccepted dock s = false := by
  simp [eventAccepted, Nat.not_lt.mpr h]

/-- No reply is accepted from a dock where neither a poll nor a command awaits it (R21). -/
theorem replyAccepted_eq_false (hp : pollInFlight s = false) (hc : ∀ code, acceptedBy dock code s = none) (r : DockReply) :
    replyAccepted dock r s = false := by
  cases r <;> simp [replyAccepted, hp, hc, eventAccepted_noPoll]

/-- A complete frame is accepted only as a reply that its dock may give (R21). -/
theorem frameAccepted_eq_false {bytes : List Byte}
    (h : ∀ dock r, readReply bytes = some (dock, r) → replyAccepted dock r s = false) : frameAccepted bytes s = false := by
  unfold frameAccepted
  split
  · exact h _ _ ‹_›
  · rfl

/-- A frame that is read as a reply carries its own dock number, and its check is right (R20). -/
theorem readReply_check {start kind check : Byte} {rest : List Byte} {r : Byte × DockReply}
    (h : readReply (start :: dock :: kind :: (rest ++ [check])) = some r) :
    r.1 = dock ∧ check = sumCheck (dock :: kind :: rest) := by
  rw [readReply, Option.ite_none_right_eq_some] at h
  obtain ⟨⟨-, -, hcheck⟩, hread⟩ := h
  obtain ⟨x, -, rfl⟩ := Option.map_eq_some_iff.mp hread
  exact ⟨rfl, by simpa using hcheck.symm⟩

/-! ## Rows whose frame is ignored -/

/-- OPENED where no command takes it (R21). -/
theorem onOpened_ignored (h : acceptedBy dock 0x81#8 s = none) : onOpened dock s = ignoreFrame s := by
  simp only [onOpened, DockReply.code, h]

theorem onLockedWith_ignored (h : acceptedBy dock 0x82#8 s = none) (tag : BitVec 24) (kind : Byte) :
    onLockedWith dock tag kind s = ignoreFrame s := by simp only [onLockedWith, DockReply.code, h]

theorem onLockedEmpty_ignored (h : acceptedBy dock 0x83#8 s = none) : onLockedEmpty dock s = ignoreFrame s := by
  simp only [onLockedEmpty, DockReply.code, h]

theorem onStatusIs_ignored (h : acceptedBy dock 0x84#8 s = none) (tag : BitVec 24) (flags : Byte) :
    onStatusIs dock tag flags s = ignoreFrame s := by simp only [onStatusIs, DockReply.code, h]

theorem onSenseStarted_ignored (h : acceptedBy dock 0x85#8 s = none) : onSenseStarted dock s = ignoreFrame s := by
  simp only [onSenseStarted, DockReply.code, h]

/-- NO_EVENT where no poll awaits its reply (R25). -/
theorem onNoEvent_ignored (h : pollInFlight s = false) : onNoEvent dock s = ignoreFrame s := by
  simp [onNoEvent, h]

/-- An EVENT_IS that is not accepted (R26). -/
theorem eventIs_ignored (h : eventAccepted dock s = false) (low : Bool) (act : Nat → State → State) :
    eventIs dock low act s = sampleWire low (ignoreFrame s) := by
  simp [eventIs, h]

/-- The five rows of a reply to a dock-addressed command, where no command in flight takes a frame of the dock. -/
theorem exec_replies_ignored (h : ∀ code, acceptedBy dock code s = none) :
    exec (.opened dock) s = .next (ignoreFrame s) ∧ exec (.lockedEmpty dock) s = .next (ignoreFrame s) ∧
    exec (.senseStarted dock) s = .next (ignoreFrame s) ∧
    (∀ tag kind, exec (.lockedWith dock tag kind) s = .next (ignoreFrame s)) ∧
    ∀ tag flags, exec (.statusIs dock tag flags) s = .next (ignoreFrame s) :=
  ⟨congrArg _ (onOpened_ignored (h _)), congrArg _ (onLockedEmpty_ignored (h _)), congrArg _ (onSenseStarted_ignored (h _)),
    fun tag kind => congrArg _ (onLockedWith_ignored (h _) tag kind),
    fun tag flags => congrArg _ (onStatusIs_ignored (h _) tag flags)⟩

/-- The four rows of an EVENT_IS that is not accepted: the wire is sampled and the frame ignored (R25, R26). -/
theorem exec_events_ignored (h : eventAccepted dock s = false) (low : Bool) :
    exec (.removed dock low) s = .next (sampleWire low (ignoreFrame s)) ∧
    exec (.lockFault dock low) s = .next (sampleWire low (ignoreFrame s)) ∧
    (∀ tag kind, exec (.inserted dock tag kind low) s = .next (sampleWire low (ignoreFrame s))) ∧
    ∀ level, exec (.senseDone dock level low) s = .next (sampleWire low (ignoreFrame s)) :=
  ⟨congrArg _ (eventIs_ignored h low _), congrArg _ (eventIs_ignored h low _),
    fun _ _ => congrArg _ (eventIs_ignored h low _), fun _ => congrArg _ (eventIs_ignored h low _)⟩

/-- DOCK_FRAME_IGNORED of a frame that is accepted as no reply (R21). -/
theorem exec_frameIgnored {bytes : List Byte} (h : frameAccepted bytes s = false) (low : Bool) :
    exec (.dockFrameIgnored bytes low) s = .next (sampleWire low (ignoreFrame s)) :=
  congrArg _ (if_neg (by simp [h]))

/-- A kind byte of no reply discards the frame, and the search resumes at the byte after its marker (R20, R21). -/
theorem exec_kindDiscarded {kind : Byte} (hk : replyFrameLength kind = none) (h : driverEnable s = false) :
    exec (.dockFrameKindDiscarded dock kind) s =
      .next (modBus (fun b => { b with partialFrame := afterKindDiscarded dock kind }) s) :=
  congrArg _ (if_neg (by simp [hk, h]))

theorem exec_kindDiscarded_driving (kind : Byte) (h : driverEnable s = true) :
    exec (.dockFrameKindDiscarded dock kind) s = .next s := congrArg _ (if_pos (by simp [h]))

/-- A complete frame of a wrong check, of another dock than the command's, or with nothing in flight, is accepted as no
reply (R21). -/
theorem frameAccepted_mismatched {kind check : Byte} {rest : List Byte} (h : check ≠ sumCheck (dock :: kind :: rest) ∨
    s.bus.inFlight = none ∨ ∃ c n, s.bus.inFlight = some { what := .command c, ticks := n } ∧ c.dock ≠ dock.toNat) :
    frameAccepted (0xA5#8 :: dock :: kind :: (rest ++ [check])) s = false := by
  refine frameAccepted_eq_false fun sender r hread => ?_
  obtain ⟨rfl, hcheck⟩ := readReply_check hread
  rcases h with h | h | ⟨c, n, hc, hd⟩
  · exact absurd hcheck h
  · refine replyAccepted_eq_false (pollInFlight_idle h) (acceptedBy_otherDock ?_) r
    rintro c ⟨n, hc⟩
    rw [h] at hc
    cases hc
  · refine replyAccepted_eq_false (pollInFlight_command ⟨n, hc⟩) (acceptedBy_otherDock ?_) r
    rintro x ⟨m, hx⟩
    rw [hc] at hx
    cases hx
    exact hd

/-- Nothing is accepted while the part drives the bus (R19). -/
theorem frameAccepted_driving (h : driverEnable s = true) (bytes : List Byte) : frameAccepted bytes s = false :=
  frameAccepted_eq_false fun _ r _ => replyAccepted_eq_false (pollInFlight_driving h) (acceptedBy_driving h) r

/-- The kinds that a command's replies may have (R20). -/
theorem admits_eq_false (k : CmdKind) :
    (k ≠ .unlatch → k ≠ .reject → k.admits 0x81#8 = false) ∧
    (k ≠ .lock → k.admits 0x82#8 = false ∧ k.admits 0x83#8 = false) ∧ (k ≠ .status → k.admits 0x84#8 = false) ∧
    (k ≠ .senseStart → k.admits 0x85#8 = false) := by
  cases k <;> decide

/-- A kind byte that is none of R20's has no reply frame. -/
theorem replyFrameLength_eq_none {kind : Byte}
    (h : kind ∉ [0x81#8, 0x82#8, 0x83#8, 0x84#8, 0x85#8, 0x86#8, 0x88#8, 0x89#8, 0x8A#8, 0x8B#8]) :
    replyFrameLength kind = none := by
  simp only [List.mem_cons, List.not_mem_nil, or_false, not_or] at h
  simp [replyFrameLength, h]

end Sys2Proof.Machine

namespace Sys2Proof.Settled

open Sys2Proof.Machine

/-- Settles O15: a frame that no command and no poll in flight takes is ignored, and none is taken while the part drives
the bus. -/
theorem framesIgnored : Obligations.FramesIgnored := by
  refine fun s => ⟨fun hlisten => ?_, fun hdrive => ?_⟩
  · have hignore := ignoreFrame_listening hlisten
    refine ⟨fun dock kind check rest low h => ?_, fun dock h => ?_, fun dock c n hc => ?_, fun dock low h => ?_,
      fun dock kind hk => exec_kindDiscarded (replyFrameLength_eq_none hk) hlisten⟩
    · rw [exec_frameIgnored (frameAccepted_mismatched h), hignore]
      rfl
    · have hrows := exec_replies_ignored (acceptedBy_otherDock fun c ⟨n, hc⟩ => h c n hc)
      rw [hignore] at hrows
      exact hrows
    · have hc : InFlightIs c s := ⟨n, hc⟩
      obtain ⟨hopened, hlocked, hstatus, hsense⟩ := admits_eq_false c.kind
      simp only [modBus] at hignore
      rw [← hignore]
      exact ⟨fun h1 h2 => congrArg _ (onOpened_ignored (acceptedBy_otherKind hc (hopened h1 h2))),
        fun h => ⟨congrArg _ (onLockedEmpty_ignored (acceptedBy_otherKind hc (hlocked h).2)),
          fun tag kind => congrArg _ (onLockedWith_ignored (acceptedBy_otherKind hc (hlocked h).1) tag kind)⟩,
        fun h tag flags => congrArg _ (onStatusIs_ignored (acceptedBy_otherKind hc (hstatus h)) tag flags),
        fun h => congrArg _ (onSenseStarted_ignored (acceptedBy_otherKind hc (hsense h))),
        congrArg _ (onNoEvent_ignored (pollInFlight_command hc))⟩
    · have hrows := exec_events_ignored (h.elim eventAccepted_high eventAccepted_noPoll) low
      rw [hignore] at hrows
      exact hrows
  · have hignore := ignoreFrame_driving hdrive
    refine ⟨fun bytes low => ?_, fun dock kind => ?_, fun dock low => ?_⟩
    · rw [exec_frameIgnored (frameAccepted_driving hdrive bytes), hignore]
      rfl
    · obtain ⟨hopened, hempty, hsense, hwith, hstatus⟩ := exec_replies_ignored (acceptedBy_driving hdrive (dock := dock))
      have hnone : exec (.noEvent dock) s = .next (ignoreFrame s) :=
        congrArg _ (onNoEvent_ignored (pollInFlight_driving hdrive))
      rw [hignore] at hopened hempty hsense hwith hstatus hnone
      exact ⟨exec_kindDiscarded_driving kind hdrive, hopened, hempty, hsense, hnone,
        fun tag level => ⟨hwith tag level, hstatus tag level⟩⟩
    · have hrows := exec_events_ignored (dock := dock) (eventAccepted_noPoll (pollInFlight_driving hdrive)) low
      rw [hignore] at hrows
      exact hrows

end Sys2Proof.Settled
end

section
/-! PROOFS. How the dock bus goes on (R28, R32, R36, R37): what it takes next, and what the end of an exchange and the
placement of an EVENT_POLL (R25) leave. -/

namespace Sys2Proof.Machine

variable {s : State}

/-! ## What the bus takes next (R28) -/

theorem oldestOf_eq_none {n : Nat} (h : ∀ x ∈ s.bus.queue, x.kind.class ≠ n) : oldestOf n s = none := by
  simpa [oldestOf] using h

/-- With an empty queue and an empty slot there is nothing to take. -/
theorem nextOnBus_eq_none (hq : s.bus.queue = []) (hp : s.bus.pollSlot = false) : nextOnBus s = none := by
  simp [nextOnBus, oldestOf, hq, hp]

/-- The EVENT_POLL goes ahead of a queue of class 4. -/
theorem nextOnBus_poll (hp : s.bus.pollSlot = true) (hq : ∀ x ∈ s.bus.queue, x.kind.class = 4) :
    nextOnBus s = some .poll := by
  have hnone (n : Nat) (hn : n ≠ 4) : oldestOf n s = none := oldestOf_eq_none fun x hx => by rw [hq x hx]; exact hn.symm
  simp [nextOnBus, hnone 1, hnone 2, hp]

/-- The oldest command of the lowest-numbered class goes, one of class 4 only with no EVENT_POLL waiting. -/
theorem nextOnBus_command {older younger : List Cmd} {c : Cmd} (hq : s.bus.queue = older ++ c :: younger)
    (hleast : ∀ x ∈ s.bus.queue, c.kind.class ≤ x.kind.class) (holdest : ∀ x ∈ older, x.kind.class ≠ c.kind.class)
    (hp : c.kind.class = 4 → s.bus.pollSlot = false) : nextOnBus s = some (.command c) := by
  have hthis : oldestOf c.kind.class s = some c :=
    List.find?_eq_some_iff_append.mpr ⟨by simp, older, younger, hq, by simpa using holdest⟩
  have hlower (n : Nat) (hn : n < c.kind.class) : oldestOf n s = none :=
    oldestOf_eq_none fun x hx => by have := hleast x hx; omega
  have hclass : c.kind.class = 1 ∨ c.kind.class = 2 ∨ c.kind.class = 4 := by cases c.kind <;> decide
  rcases hclass with h | h | h <;> rw [h] at hthis hlower
  · simp [nextOnBus, hthis]
  · simp [nextOnBus, hlower 1, hthis]
  · simp [nextOnBus, hlower 1, hlower 2, hp h, hthis]

/-- The bus that has taken what is next, if anything (R28). -/
def Bus.taking : Option OnBus → Bus → Bus
  | none, b => b
  | some .poll, b => { b with pollSlot := false, inFlight := some { what := .poll, ticks := none } }
  | some (.command c), b => { b with queue := b.queue.erase c, inFlight := some { what := .command c, ticks := none } }

/-- What a bus takes, when nothing was in flight on it, is what the statements call going on (R28). -/
theorem goesOn_taking {old : Bus} (hq : s.bus.queue = old.queue) (hp : s.bus.pollSlot = old.pollSlot)
    (hi : s.bus.inFlight = none) (hf : s.bus.partialFrame = []) (hh : s.bus.handing = false) :
    GoesOn old (s.bus.taking (nextOnBus s)) := by
  have hframe : (s.bus.taking (nextOnBus s)).partialFrame = [] ∧ (s.bus.taking (nextOnBus s)).handing = false := by
    rcases nextOnBus s with _ | _ | c <;> exact ⟨hf, hh⟩
  refine ⟨hframe.1, hframe.2, fun h1 h2 => ?_, fun h1 h2 => ?_, fun older c younger h1 h2 h3 h4 => ?_⟩
  · rw [← hq] at h1
    rw [← hp] at h2
    rw [nextOnBus_eq_none h1 h2]
    exact ⟨h1, h2, hi⟩
  · rw [← hp] at h1
    rw [← hq] at h2 ⊢
    rw [nextOnBus_poll h1 h2]
    exact ⟨rfl, rfl, rfl⟩
  · rw [← hq] at h1 h2
    rw [← hp] at h4 ⊢
    rw [nextOnBus_command h1 h2 h3 h4]
    refine ⟨?_, rfl, rfl⟩
    change s.bus.queue.erase c = _
    rw [h1, List.erase_append_right _ fun hc => h3 c hc rfl, List.erase_cons_head]

/-! ## What taking the next command leaves alone -/

/-- The placements of R32 change the queue of the bus alone. -/
theorem placeOwed_bus (s : State) : ∃ q, (placeOwed s).bus = { s.bus with queue := q } := by
  have hat (d : Nat) (t : State) : ∃ q, (placeOwedAt d t).bus = { t.bus with queue := q } := by
    unfold placeOwedAt
    split
    · exact ⟨_, rfl⟩
    · split
      · exact ⟨_, rfl⟩
      · exact ⟨_, rfl⟩
  unfold placeOwed
  induction s.installedDocks generalizing s with
  | nil => exact ⟨_, rfl⟩
  | cons d l ih =>
    obtain ⟨q, hq⟩ := hat d s
    obtain ⟨r, hr⟩ := ih (placeOwedAt d s)
    exact ⟨r, by rw [List.foldl_cons, hr, hq]⟩

/-- A bus that may have taken a command: its queue, its slot and what is in flight, with its last byte not sent
(R28, R35). -/
def Bus.Took (b c : Bus) : Prop :=
  ∃ q p f, c = { b with queue := q, pollSlot := p, inFlight := f } ∧
    (f = b.inFlight ∨ ∃ w, f = some { what := w, ticks := none })

theorem Bus.Took.refl (b : Bus) : b.Took b := ⟨_, _, _, rfl, .inl rfl⟩

theorem took_takeNext (s : State) : s.bus.Took (takeNext s).bus := by
  unfold takeNext
  split
  · exact .refl _
  · exact ⟨_, _, _, rfl, .inr ⟨_, rfl⟩⟩
  · obtain ⟨q, hq⟩ := placeOwed_bus (modBus (fun b => { b with
      queue := b.queue.erase _, inFlight := some { what := .command _, ticks := none } }) s)
    rw [hq]
    exact ⟨_, _, _, rfl, .inr ⟨_, rfl⟩⟩

theorem took_kick (s : State) : s.bus.Took (kick s).bus := by
  unfold kick
  split
  · exact took_takeNext s
  · exact .refl _

/-- The end of an exchange leaves the marks and the wire of the bus alone. -/
theorem moveOn_bus (s : State) : ({ s.bus with handing := false } : Bus).Took (moveOn s).bus := by
  obtain ⟨q, hq⟩ := placeOwed_bus s
  obtain ⟨r, p, f, hb, hf⟩ := took_kick (modBus (fun b => { b with handing := false }) (placeOwed s))
  unfold moveOn
  rw [hb]
  simp only [modBus, hq] at hf ⊢
  exact ⟨r, p, f, rfl, hf⟩

theorem moveOn_holdoff (s : State) : (moveOn s).bus.holdoff = s.bus.holdoff := by
  obtain ⟨q, p, f, hb, -⟩ := moveOn_bus s
  rw [hb]

/-- When the bus has gone on, nothing of the exchange before stays in flight (R36, R37). -/
theorem exchangeOver_moveOn (h : s.bus.inFlight = none) : ExchangeOver (moveOn s) := by
  obtain ⟨q, p, f, hb, hf⟩ := moveOn_bus s
  intro x hx
  rw [hb] at hx
  rcases hf with rfl | ⟨w, rfl⟩
  · cases hx.symm.trans h
  · cases hx
    rfl

/-! ## Where no lock is due -/

/-- No lock is due at an installed dock (R32). -/
def NoLockDue (s : State) : Prop := ∀ d, d < s.installed → (s.dock d).owed = none

theorem takeNext_noLockDue (h : NoLockDue s) : takeNext s = modBus (Bus.taking (nextOnBus s)) s := by
  unfold takeNext
  split
  · rename_i hn
    rw [hn]
    rfl
  · rename_i hn
    rw [hn]
    rfl
  · rename_i c hn
    rw [hn, placeOwed_none]
    · rfl
    · exact h

/-- The outcome of an exchange has been handed over (R36, R37; assumption log 5). -/
def handedOver (s : State) : State := modBus (fun b => { b with handing := false }) s

/-- The exchange has ended, no lock is due and the RESET pin is high: the bus takes what is next. -/
theorem moveOn_noLockDue (h : NoLockDue s) (hpin : s.pinLow = false) (hi : s.bus.inFlight = none) :
    moveOn s = modBus (Bus.taking (nextOnBus (handedOver s))) (handedOver s) := by
  unfold moveOn
  rw [placeOwed_none h, kick, if_pos (by simp [modBus, hi, hpin])]
  exact takeNext_noLockDue (s := handedOver s) h

theorem moveOn_goesOn (h : NoLockDue s) (hpin : s.pinLow = false) {old : Bus} (hi : s.bus.inFlight = none)
    (hq : s.bus.queue = old.queue) (hp : s.bus.pollSlot = old.pollSlot) (hf : s.bus.partialFrame = []) :
    GoesOn old (moveOn s).bus := by
  rw [moveOn_noLockDue h hpin hi]
  exact goesOn_taking (s := handedOver s) hq hp hi hf rfl

/-! ## The placement of an EVENT_POLL (R25) -/

/-- No poll is placed where the slot is full, the holdoff mark set or the wire high. -/
theorem pollIfLow_none (h : s.bus.pollSlot = true ∨ s.bus.holdoff = true ∨ s.bus.attentionLow = false) :
    pollIfLow s = s := by
  unfold pollIfLow
  refine if_neg fun hplace => ?_
  rcases h with h | h | h <;> simp [h] at hplace

/-- A poll placed on a busy bus waits in its slot. -/
theorem pollIfLow_busy (hs : s.bus.pollSlot = false) (hh : s.bus.holdoff = false) (hl : s.bus.attentionLow = true)
    (hpin : s.pinLow = false) (hi : s.bus.inFlight.isSome) :
    pollIfLow s = modBus (fun b => { b with pollSlot := true }) s := by
  unfold pollIfLow kick
  rw [if_pos (by simp [hs, hh, hl, hpin]), if_neg (by simp [modBus, Option.isSome_iff_ne_none.mp hi])]

/-- A poll placed on an idle bus with nothing queued is taken at once. -/
theorem pollIfLow_idle (hs : s.bus.pollSlot = false) (hh : s.bus.holdoff = false) (hl : s.bus.attentionLow = true)
    (hpin : s.pinLow = false) (hi : s.bus.inFlight = none) (hhand : s.bus.handing = false) (hq : s.bus.queue = []) :
    pollIfLow s = modBus (fun b => { b with inFlight := some { what := .poll, ticks := none } }) s := by
  have hnext : nextOnBus (modBus (fun b => { b with pollSlot := true }) s) = some .poll :=
    nextOnBus_poll rfl (by simp [modBus, hq])
  unfold pollIfLow kick takeNext
  rw [if_pos (by simp [hs, hh, hl, hpin]), if_pos (by simp [modBus, hi, hhand, hpin]), hnext]
  simp [modBus, hs]

end Sys2Proof.Machine

namespace Sys2Proof.Settled

open Sys2Proof.Machine

/-- Settles O12: both rows sample the wire and place a poll as R25 gives. -/
theorem attentionPlacesPoll : Obligations.AttentionPlacesPoll := by
  intro s hpin
  have hclear (low : Bool) (hd : s.due.holdoff = true) : exec (.pollHoldoffClear low) s =
      .next (pollIfLow (sampleWire low (modBus (fun b => { b with holdoff := false })
        (modDue (fun d => { d with holdoff := false }) s)))) := congrArg _ (if_pos hd)
  refine ⟨fun hs hh hi => congrArg _ (pollIfLow_busy (s := sampleWire true s) hs hh rfl hpin hi),
    fun hs hh hi hhand hq => congrArg _ (pollIfLow_idle (s := sampleWire true s) hs hh rfl hpin hi hhand hq),
    fun h => congrArg _ (pollIfLow_none (s := sampleWire true s) (h.imp_right .inl)),
    fun hd => ?_, fun hd hs hi => ?_, fun hd hs hi hhand hq => ?_⟩
  · exact (hclear false hd).trans (congrArg _ (pollIfLow_none (.inr (.inr rfl))))
  · exact (hclear true hd).trans (congrArg _ (pollIfLow_busy hs rfl rfl hpin hi))
  · exact (hclear true hd).trans (congrArg _ (pollIfLow_idle hs rfl rfl hpin hi hhand hq))

end Sys2Proof.Settled

namespace Sys2Proof.Machine

variable {s : State}

/-! ## The end of an EVENT_POLL (R25) -/

/-- The bus at the end of an EVENT_POLL: the exchange has ended and the holdoff mark is set. -/
def pollOver (s : State) : State := modBus (fun b => { b with holdoff := true }) (endExchange s)

theorem pollEnded_eq (s : State) : pollEnded s = moveOn (pollOver s) := rfl

theorem pollEnded_goesOn (h : NoLockDue s) (hpin : s.pinLow = false) : GoesOn s.bus (pollEnded s).bus :=
  moveOn_goesOn (s := pollOver s) h hpin rfl rfl rfl rfl

end Sys2Proof.Machine

namespace Sys2Proof.Settled

open Sys2Proof.Machine

/-- Settles O13: with no lock due, the end of the poll takes what is next and changes nothing else of the bus. -/
theorem noEventTakesNext : Obligations.NoEventTakesNext := by
  intro s hpoll hpin hdue
  have hrow : exec (.noEvent 0xFF#8) s = .next (pollEnded s) := congrArg _ (if_pos (by simp [hpoll]))
  obtain ⟨q, p, f, hb, -⟩ := moveOn_bus (pollOver s)
  have hmoved : pollEnded s = { s with bus := (pollEnded s).bus } := by
    rw [pollEnded_eq, moveOn_noLockDue (s := pollOver s) hdue hpin rfl]
    rfl
  refine ⟨(pollEnded s).bus, hrow.trans (congrArg _ hmoved), ?_, ?_, pollEnded_goesOn hdue hpin⟩
  · rw [pollEnded_eq, hb]
    rfl
  · rw [pollEnded_eq, hb]
    rfl

end Sys2Proof.Settled
end

section
/-! PROOFS. The response timer of the dock bus (R35) and its expiry (R37): the end of a poll, a patrol visit's silence,
and a silent closing LOCK (R52). -/

namespace Sys2Proof.Machine

variable {s u : State} {d : Nat} {r : Hire}

/-! ## The timer (R35) -/

theorem modBus_same {f : Bus → Bus} (h : f s.bus = s.bus) : modBus f s = s := by
  unfold modBus
  rw [h]

/-- The last byte of a command starts its timer, and a timer that runs goes on. -/
theorem onDockCommandSent_inFlight {f : InFlight} (h : s.bus.inFlight = some f) : onDockCommandSent s =
    modBus (fun b => { b with inFlight := some { f with ticks := f.ticks.orElse fun _ => some 0 } }) s := by
  simp only [onDockCommandSent, modBus, h, Option.map_some]

theorem onDockCommandSent_running {f : InFlight} (h : s.bus.inFlight = some f) (ht : f.ticks.isSome) :
    onDockCommandSent s = s := by
  obtain ⟨n, hn⟩ := Option.isSome_iff_exists.mp ht
  rw [onDockCommandSent_inFlight h]
  refine modBus_same ?_
  obtain ⟨w, t⟩ := f
  cases hn
  rw [← show s.bus.inFlight = some { what := w, ticks := (some n).orElse fun _ => some 0 } from h]

theorem onDockCommandSent_idle (h : s.bus.inFlight = none) : onDockCommandSent s = s := by
  refine modBus_same ?_
  rw [h, Option.map_none, ← h]

theorem onDockResponseTimeout_idle (h : s.bus.inFlight = none) : onDockResponseTimeout s = s := by
  unfold onDockResponseTimeout
  rw [h]

/-- A timer that has not expired ends nothing. -/
theorem onDockResponseTimeout_early {f : InFlight} (h : s.bus.inFlight = some f) (hf : responseDue f = false) :
    onDockResponseTimeout s = s := by
  simp [onDockResponseTimeout, h, hf]

theorem onDockResponseTimeout_due {f : InFlight} (h : s.bus.inFlight = some f) (hf : responseDue f = true) :
    onDockResponseTimeout s = timedOutOnBus f s := by
  simp [onDockResponseTimeout, h, hf]

/-- A poll has 2 ticks, a dock-addressed command 3 (R35). -/
theorem responseDue_poll {f : InFlight} {n : Nat} (hn : f.ticks = some n) (hf : f.what = .poll) :
    responseDue f = decide (2 ≤ n) := by
  simp only [responseDue, hn, hf]

theorem responseDue_command {f : InFlight} {n : Nat} {c : Cmd} (hn : f.ticks = some n) (hf : f.what = .command c) :
    responseDue f = decide (3 ≤ n) := by
  simp only [responseDue, hn, hf]

/-! ## A silent command (R37) -/

/-- The state in which the bus goes on after a silent command: its owner has acted and the dock is reported. -/
def silenced (c : Cmd) (s : State) : State :=
  reportDock c.dock .dockSilent (c.kind == .lock) (noReplyFor c (endExchange s))

/-- A dock-addressed command with no reply after 3 ticks ends (R37). -/
theorem exec_commandTimeout {f : InFlight} {n : Nat} {c : Cmd} (h : s.bus.inFlight = some f) (hn : f.ticks = some n)
    (hf : f.what = .command c) (h3 : 3 ≤ n) : exec .dockResponseTimeout s = .next (moveOn (silenced c s)) := by
  have hrow := onDockResponseTimeout_due h ((responseDue_command hn hf).trans (decide_eq_true h3))
  exact congrArg _ (hrow.trans (by simp only [timedOutOnBus, hf]; rfl))

theorem exec_pollTimeout {f : InFlight} {n : Nat} (h : s.bus.inFlight = some f) (hn : f.ticks = some n)
    (hf : f.what = .poll) (h2 : 2 ≤ n) : exec .dockResponseTimeout s = .next (pollEnded s) := by
  have hrow := onDockResponseTimeout_due h ((responseDue_poll hn hf).trans (decide_eq_true h2))
  exact congrArg _ (hrow.trans (by simp only [timedOutOnBus, hf]))

/-! ## A patrol visit (R124, R143) -/

/-- The dock's count raised by the report of a silent visit. -/
def silentVisit (d : Nat) (s : State) : State := modDock d (fun k => { k with faultCount := (s.dock d).faultCount + 1 }) s

/-- NO_REPLY to a patrol visit is a minor report below the threshold, and nothing else. -/
theorem silenced_visit (hout : d ∉ s.audit.outstanding) (hmask : s.settings.categoryMask.testBit 1 = false)
    (hcount : (s.dock d).faultCount + 1 < s.settings.dockThreshold) (h15 : (s.dock d).faultCount < 15) :
    silenced (auditStatus d) s =
      enterRecord (.dockFault d .dockSilent ((s.dock d).faultCount + 1)) (silentVisit d (endExchange s)) := by
  have hquiet : noReplyFor (auditStatus d) (endExchange s) = endExchange s := if_neg hout
  have hafter : countAfter false (endExchange s).settings.dockThreshold ((endExchange s).dock d).faultCount =
      (s.dock d).faultCount + 1 := countAfter_minor h15
  unfold silenced
  rw [hquiet]
  refine (reportDock_below (s := endExchange s) (c := .dockSilent) hmask (hafter.trans_lt hcount)).trans ?_
  rw [hafter]
  rfl

theorem silentVisit_busOnly (d : Nat) (s : State) : BusOnly (silentVisit d s) (silentVisit d (endExchange s)) :=
  (endExchange_busOnly s).modDock (fun _ _ h => congrArg (fun k : Dock => { k with
    faultCount := (s.dock d).faultCount + 1 }) h) d

/-- The report leaves what is owed as it is. -/
theorem noLockDue_visit (hd : d < 64) (e : Entry) (h : NoLockDue s) :
    NoLockDue (enterRecord e (silentVisit d (endExchange s))) := by
  intro i hi
  have hdocks : (enterRecord e (silentVisit d (endExchange s))).dock i = (silentVisit d s).dock i := by
    unfold State.dock
    rw [(enterRecord_tells e _).docks]
    rfl
  rw [enterRecord_installed] at hi
  rw [hdocks, silentVisit, modDock, dock_setDock hd]
  split
  · rename_i hdi
    exact hdi ▸ h i hi
  · exact h i hi

/-! ## Acts that reach different parts of the state -/

theorem modDock_raise (f : Dock → Dock) (n : Notice) (s : State) : modDock d f (raise n s) = raise n (modDock d f s) := by
  have hdock : (raise n s).dock d = s.dock d := by unfold State.dock; rw [(raise_tells n s).docks]
  have happart := raise_apart n s s.bus (modDock d f s).docks
  unfold modDock setDock
  rw [hdock, (raise_tells n s).docks]
  exact (Eq.trans happart (by rw [← raise_bus n s]; rfl)).symm

theorem modDock_enterRecord (f : Dock → Dock) (e : Entry) (s : State) :
    modDock d f (enterRecord e s) = enterRecord e (modDock d f s) := by
  have hdock : (enterRecord e s).dock d = s.dock d := by unfold State.dock; rw [(enterRecord_tells e s).docks]
  have happart := enterRecord_apart e s s.bus (modDock d f s).docks
  unfold modDock setDock
  rw [hdock, (enterRecord_tells e s).docks]
  exact (Eq.trans happart (by rw [← enterRecord_bus e s]; rfl)).symm

theorem cancelHire_raise (r : Hire) (n : Notice) (s : State) : cancelHire r (raise n s) = raise n (cancelHire r s) := by
  unfold raise modPort setPort State.port
  cases n.kind.port <;> rfl

theorem cancelHire_evalHeld (r : Hire) (s : State) : cancelHire r (evalHeld s) = evalHeld (cancelHire r s) := by
  unfold evalHeld State.depth
  simp only [apply_ite (cancelHire r), cancelHire_raise]
  rfl

theorem cancelHire_appendRecord (r : Hire) (e : Entry) (s : State) :
    cancelHire r (appendRecord e s) = appendRecord e (cancelHire r s) := by
  unfold appendRecord
  simp only [apply_ite (cancelHire r), cancelHire_evalHeld, cancelHire_raise]
  rfl

theorem cancelHire_enterRecord (r : Hire) (e : Entry) (s : State) :
    cancelHire r (enterRecord e s) = enterRecord e (cancelHire r s) := by
  have hfront : cancelHire r (frontOverrun s) = frontOverrun (cancelHire r s) := by
    have happend := cancelHire_appendRecord r (.overrun s.journal.lost) s
    unfold frontOverrun
    rw [apply_ite (cancelHire r)]
    refine if_congr Iff.rfl ?_ rfl
    exact congrArg (fun t : State => { t with journal := { t.journal with lost := 0, overrun := false } }) happend
  unfold enterRecord
  rw [cancelHire_appendRecord, hfront]

/-! ## A silent closing LOCK (R52) -/

/-- What the end of a hire's release by a silent LOCK does besides the bus: the dock is RETIRED with its bike stranded,
the hire cancelled and the terminal told (R52). -/
def releaseSilenced (d : Nat) (r : Hire) (s : State) : State :=
  raise (.releaseLapsed d r.number) (raise (.dockRetired d)
    (enterRecord (.dockRetired d ((s.dock d).bike.map fun b => b.id.getD 0)) (cancelHire r (modDock d Dock.asRetired s))))

theorem releaseSilenced_tells (d : Nat) (r : Hire) (s : State) :
    Tells (cancelHire r (modDock d Dock.asRetired s)) (releaseSilenced d r s) :=
  ((enterRecord_tells _ _).trans (raise_tells _ _)).trans (raise_tells _ _)

theorem findHire_number {h : Nat} (hr : findHire h s = some r) : r.number = h := by
  simpa using List.find?_some hr

theorem closingLockSilent_busOnly (hu : BusOnly s u) (hown : (s.dock d).owner = some (.hire r.number))
    (hr : findHire r.number s = some r) : BusOnly (releaseSilenced d r s) (closingLockSilent d u) := by
  have hend : BusOnly s (endOperation d u) := hu.trans (endOperation_busOnly d u)
  have hbike : ((endOperation d u).dock d).bike = (s.dock d).bike :=
    (congrArg Dock.bike (hend.dock d) : ((endOperation d u).dock d).unowed.bike = (s.dock d).unowed.bike)
  have hretired := ((hend.modDock (f := Dock.asRetired) (fun _ _ h => congrArg Dock.asRetired h) d).enter
    (.dockRetired d ((s.dock d).bike.map fun b => b.id.getD 0))).tell (.dockRetired d)
  rw [← hbike] at hretired
  have hdock := hretired.trans (enterRetired_busOnly d (endOperation d u))
  have howner : (u.dock d).owner = some (.hire r.number) :=
    (congrArg Dock.owner (hu.dock d) : (u.dock d).unowed.owner = (s.dock d).unowed.owner).trans hown
  have hhires : (enterRetired d (endOperation d u)).hires = s.hires :=
    (congrArg Face.hires (hend.work.trans (enterRetired_work d _)).face)
  have hfind : findHire r.number (enterRetired d (endOperation d u)) = some r := by
    unfold findHire
    rw [hhires]
    exact hr
  have hlapsed := (hdock.map (cancelHire r) fun _ _ _ => rfl).tell (.releaseLapsed d r.number)
  rw [hbike, cancelHire_raise, cancelHire_enterRecord] at hlapsed
  simp only [closingLockSilent, howner, lapseHire, hfind]
  exact hlapsed

theorem releaseSilenced_dock (hd : d < 64) : (releaseSilenced d r s).dock d = (s.dock d).asRetired := by
  unfold State.dock
  rw [(releaseSilenced_tells d r s).docks]
  exact dock_modDock_self hd _ s

/-- A report at a RETIRED dock counts and is journaled, whatever the threshold (R124, R128). -/
theorem reportDock_retired {c : Category} {severe : Bool} (hd : d < 64) (hs : (s.dock d).state = .retired)
    (hmask : masked c s = false) :
    reportDock d c severe s =
      enterRecord (.dockFault d c (countAfter severe s.settings.dockThreshold (s.dock d).faultCount))
        (modDock d (fun k => { k with
          faultCount := countAfter severe s.settings.dockThreshold (s.dock d).faultCount }) s) := by
  have hstays (e : Entry) (f : Dock → Dock) (hf : (f (s.dock d)).state = .retired) :
      retireAtThreshold d (enterRecord e (modDock d f s)) = enterRecord e (modDock d f s) := by
    have hstate : ((enterRecord e (modDock d f s)).dock d).state = .retired := by
      rw [← modDock_enterRecord, dock_modDock_self hd]
      rw [show (enterRecord e s).dock d = s.dock d by unfold State.dock; rw [(enterRecord_tells e s).docks]]
      exact hf
    simp only [retireAtThreshold, hstate]
  unfold reportDock
  rw [if_neg (by simp [hmask])]
  dsimp only
  rw [hstays _ _ hs, ite_self]

theorem placeOwed_inFlight (s : State) : (placeOwed s).bus.inFlight = s.bus.inFlight := by
  obtain ⟨q, hq⟩ := placeOwed_bus s
  rw [hq]

theorem endOperation_idle (h : s.bus.inFlight = none) (d : Nat) : (endOperation d s).bus.inFlight = none := by
  have hwithdraw : (withdraw d s).bus.inFlight = none := by
    unfold withdraw
    dsimp only
    split
    · exact (placeOwed_inFlight _).trans h
    · exact h
  change (withdraw d s).bus.inFlight.map _ = none
  rw [hwithdraw]
  rfl

theorem enterRetired_idle (h : s.bus.inFlight = none) (d : Nat) : (enterRetired d s).bus.inFlight = none := by
  unfold enterRetired
  rw [raise_bus, enterRecord_bus]
  change s.bus.inFlight.map _ = none
  rw [h]
  rfl

theorem closingLockSilent_idle (h : s.bus.inFlight = none) {n : Nat} (hown : (s.dock d).owner = some (.hire n)) :
    (closingLockSilent d s).bus.inFlight = none := by
  have hdock := enterRetired_idle (endOperation_idle h d) d
  simp only [closingLockSilent, hown, lapseHire, raise_bus]
  split <;> exact hdock

/-- The whole of a silent closing LOCK besides the bus, the report at the RETIRED dock included, and nothing in flight
(R52, R124). -/
theorem silenced_closingLock (hd : d < 64) (hstate : (s.dock d).state = .releasing)
    (hphase : (s.dock d).phase = some .locking) (hown : (s.dock d).owner = some (.hire r.number))
    (hr : findHire r.number s = some r) (hmask : s.settings.categoryMask.testBit 1 = false) :
    BusOnly (enterRecord (.dockFault d .dockSilent (max (s.dock d).faultCount s.settings.dockThreshold))
      (modDock d (fun k => { k with faultCount := max (s.dock d).faultCount s.settings.dockThreshold })
        (releaseSilenced d r s)))
      (silenced { kind := .lock, dock := d, owner := .release, live := true } s) ∧
    (silenced { kind := .lock, dock := d, owner := .release, live := true } s).bus.inFlight = none := by
  have hsame : (endExchange s).dock d = s.dock d := rfl
  have hact : noReplyFor { kind := .lock, dock := d, owner := .release, live := true } (endExchange s) =
      closingLockSilent d (endExchange s) := if_pos (by simp [closesRelease, hsame, hstate, hphase])
  have hbus := closingLockSilent_busOnly (endExchange_busOnly s) hown hr
  have hdock : ((closingLockSilent d (endExchange s)).dock d).unowed = (s.dock d).asRetired.unowed := by
    rw [hbus.dock d, releaseSilenced_dock hd]
  have hretired : ((closingLockSilent d (endExchange s)).dock d).state = .retired :=
    (congrArg Dock.state hdock : ((closingLockSilent d (endExchange s)).dock d).unowed.state = _)
  have hcount : ((closingLockSilent d (endExchange s)).dock d).faultCount = (s.dock d).faultCount :=
    (congrArg Dock.faultCount hdock : ((closingLockSilent d (endExchange s)).dock d).unowed.faultCount = _)
  have hsettings : (closingLockSilent d (endExchange s)).settings = s.settings :=
    (congrArg State.settings hbus.1).trans (releaseSilenced_tells d r s).settings
  have hreport := reportDock_retired (c := .dockSilent) (severe := true) hd hretired
    (by rw [masked, hsettings]; exact hmask)
  rw [countAfter_severe, hcount, hsettings] at hreport
  unfold silenced
  rw [hact]
  change BusOnly _ (reportDock d .dockSilent true (closingLockSilent d (endExchange s))) ∧
    (reportDock d .dockSilent true (closingLockSilent d (endExchange s))).bus.inFlight = none
  rw [hreport, enterRecord_bus]
  exact ⟨(hbus.modDock (fun _ _ h => congrArg (fun k : Dock => { k with
    faultCount := max (s.dock d).faultCount s.settings.dockThreshold }) h) d).enter _, closingLockSilent_idle rfl hown⟩

/-- The acts of a silent closing LOCK with the count of the report, in the statement's order. -/
theorem counted_releaseSilenced (hd : d < 64) (f : Dock → Dock) (r : Hire) (s : State) :
    modDock d f (releaseSilenced d r s) = raise (.releaseLapsed d r.number) (raise (.dockRetired d)
      (enterRecord (.dockRetired d ((s.dock d).bike.map fun b => b.id.getD 0))
        { setDock d (f (s.dock d).asRetired) s with
          hires := s.hires.filter fun x => x.number != r.number
          cards := s.cards.map fun c => if c.id = r.card then
            { c with held := c.held - r.holdAmount, openCount := c.openCount - 1 } else c })) := by
  have hwritten : modDock d f (cancelHire r (modDock d Dock.asRetired s)) =
      cancelHire r (setDock d (f (s.dock d).asRetired) s) := congrArg (cancelHire r) (modDock_modDock hd Dock.asRetired f s)
  rw [releaseSilenced, modDock_raise, modDock_raise, modDock_enterRecord, hwritten, cancelHire_eq]
  simp only [beq_iff_eq]
  rfl

end Sys2Proof.Machine

namespace Sys2Proof.Settled

open Sys2Proof.Machine

/-- Settles O14: the timer's start, and its expiry at a poll, at a patrol visit and at a closing LOCK. -/
theorem responseTimer : Obligations.ResponseTimer := by
  refine ⟨fun s => ⟨fun f hf => ⟨fun ht => ?_, fun ht => congrArg _ (onDockCommandSent_running hf ht)⟩, fun hi =>
      ⟨congrArg _ (onDockCommandSent_idle hi), congrArg _ (onDockResponseTimeout_idle hi)⟩⟩,
    fun s f n hf hn => ⟨fun hpoll h2 => ?_, fun hpoll h2 => ?_, fun d hd hcmd hout hmask hcount h15 h3 => ?_,
      fun d h r hd hcmd hstate hphase hown hr hmask h3 => ?_, fun c hcmd h3 => ?_⟩⟩
  · have hsent := onDockCommandSent_inFlight hf
    rw [ht] at hsent
    exact congrArg _ hsent
  · exact ⟨pollEnded s, exec_pollTimeout hf hn hpoll h2, pollEnded_busOnly s, moveOn_holdoff (pollOver s),
      exchangeOver_moveOn rfl, fun ⟨hpin, hdue⟩ => pollEnded_goesOn hdue hpin⟩
  · exact congrArg _ (onDockResponseTimeout_early hf ((responseDue_poll hn hpoll).trans (decide_eq_false (by omega))))
  · have hvisit := silenced_visit hout hmask hcount h15
    have hbus : (silenced (auditStatus d) s).bus = (endExchange s).bus := by
      rw [hvisit, enterRecord_bus]
      rfl
    refine ⟨moveOn (silenced (auditStatus d) s), exec_commandTimeout hf hn hcmd h3, exchangeOver_moveOn (by rw [hbus]; rfl),
      fun ⟨hpin, hdue⟩ => ?_, ?_⟩
    · have hdue' : NoLockDue (silenced (auditStatus d) s) := hvisit ▸ noLockDue_visit hd _ hdue
      have hpin' : (silenced (auditStatus d) s).pinLow = false := by
        rw [hvisit, enterRecord_pinLow]
        exact hpin
      refine moveOn_goesOn hdue' hpin' ?_ ?_ ?_ ?_ <;> rw [hbus] <;> rfl
    · rw [hvisit]
      exact ((silentVisit_busOnly d s).enter _).trans (moveOn_busOnly _)
  · obtain rfl := findHire_number hr
    obtain ⟨hbus, hidle⟩ := silenced_closingLock hd hstate hphase hown hr hmask
    rw [counted_releaseSilenced hd] at hbus
    exact ⟨_, exec_commandTimeout hf hn hcmd h3, exchangeOver_moveOn hidle, hbus.trans (moveOn_busOnly _)⟩
  · exact congrArg _ (onDockResponseTimeout_early hf ((responseDue_command hn hcmd).trans (decide_eq_false (by omega))))

end Sys2Proof.Settled
end

section
/-! PROOFS. A command that has been placed stands: it is queued, on the bus or owed, and what the bus does next leaves it
so (R27, R28, R29, R32). -/

namespace Sys2Proof.Machine

variable {c : Cmd} {o : Owed} {d e : Nat} {s t : State}

/-! ## Placed commands -/

theorem Placed.of_bus (h : Placed c s) (hb : t.bus = s.bus) : Placed c t := by
  unfold Placed InFlightIs at *
  rwa [hb]

theorem placed_placeOwedAt (h : Placed c s) : Placed c (placeOwedAt e s) := by
  unfold placeOwedAt
  split
  · exact h
  · split
    · exact h
    · exact h.imp_left fun hq => List.mem_append_left _ hq

theorem placed_placeOwed (h : Placed c s) : Placed c (placeOwed s) := by
  unfold placeOwed
  induction s.installedDocks generalizing s with
  | nil => exact h
  | cons e l ih => exact ih (placed_placeOwedAt h)

/-- The next command is taken from a free bus: it leaves the queue for the bus, and the others keep their places. -/
theorem placed_takeNext (hfree : s.bus.inFlight = none) (h : Placed c s) : Placed c (takeNext s) := by
  have hqueued : c ∈ s.bus.queue := h.resolve_right fun ⟨n, hn⟩ => by rw [hfree] at hn; cases hn
  unfold takeNext
  split
  · exact h
  · exact .inl hqueued
  · rename_i x _
    refine placed_placeOwed ?_
    by_cases hc : c = x
    · exact .inr ⟨none, by rw [hc]; rfl⟩
    · exact .inl ((List.mem_erase_of_ne hc).mpr hqueued)

theorem placed_kick (h : Placed c s) : Placed c (kick s) := by
  unfold kick
  split
  · rename_i hk
    simp only [Bool.and_eq_true, Option.isNone_iff_eq_none] at hk
    exact placed_takeNext hk.1.1 h
  · exact h

theorem placed_moveOn (h : Placed c s) : Placed c (moveOn s) := placed_kick (s := handedOver (placeOwed s)) (placed_placeOwed h)

/-! ## LOCK and REJECT -/

/-- The LOCK or REJECT `o` of dock `d` is queued, in flight or owed (R29). -/
def Stands (o : Owed) (d : Nat) (s : State) : Prop :=
  Placed { kind := o.kind, dock := d, owner := o.owner, live := o.live } s ∨ (s.dock d).owed = some o

theorem Stands.of_same (h : Stands o d s) (hb : t.bus = s.bus) (ho : (t.dock d).owed = (s.dock d).owed) : Stands o d t :=
  h.imp (fun hp => hp.of_bus hb) fun hs => ho.trans hs

/-- What is owed gets its place in the queue, or goes on being owed. -/
theorem stands_placeOwedAt (hd : d < 64) (h : Stands o d s) : Stands o d (placeOwedAt e s) := by
  rcases h with h | h
  · exact .inl (placed_placeOwedAt h)
  · by_cases he : e = d
    · subst he
      unfold placeOwedAt
      rw [h]
      dsimp only
      split
      · exact .inr h
      · exact .inl (.inl (List.mem_append_right _ List.mem_cons_self))
    · refine .inr ?_
      unfold placeOwedAt
      split
      · exact h
      · split
        · exact h
        · rw [modBus_dock, dock_modDock_other he, h]

theorem stands_placeOwed (hd : d < 64) (h : Stands o d s) : Stands o d (placeOwed s) := by
  unfold placeOwed
  induction s.installedDocks generalizing s with
  | nil => exact h
  | cons e l ih => exact ih (stands_placeOwedAt hd h)

theorem stands_kick (hd : d < 64) (h : Stands o d s) : Stands o d (kick s) := by
  rcases h with h | h
  · exact .inl (placed_kick h)
  · unfold kick takeNext
    split
    · split
      · exact .inr h
      · exact .inr h
      · exact stands_placeOwed hd (.inr h)
    · exact .inr h

theorem stands_moveOn (hd : d < 64) (h : Stands o d s) : Stands o d (moveOn s) :=
  stands_kick (s := handedOver (placeOwed s)) hd (stands_placeOwed hd h)

/-! ## Placements at a dock with nothing in hand -/

theorem HandsFree.inFlight (h : HandsFree d s) : ∀ x, InFlightIs x s → x.dock ≠ d := by
  obtain ⟨-, -, hf⟩ := h
  exact fun x ⟨n, hn⟩ => hf x n hn

theorem lockChange_handsFree (o : Owed) (h : HandsFree d s) : lockChange o d s = if s.bus.queue.length < 16 then
      (modBus (fun b => { b with
        queue := b.queue ++ [{ kind := o.kind, dock := d, owner := o.owner, live := o.live }] }) s, none)
    else (owe o d s, none) := lockChange_free o h.1 h.inFlight h.2.1

/-- A LOCK or REJECT for a dock with nothing in hand drops no command, and stands. -/
theorem stands_placeLock (hd : d < 64) (o : Owed) (h : HandsFree d s) : Stands o d (placeLock o d s) := by
  unfold placeLock
  rw [lockChange_handsFree o h]
  by_cases hroom : s.bus.queue.length < 16
  · rw [if_pos hroom]
    exact stands_kick hd (.inl (.inl (List.mem_append_right _ List.mem_cons_self)))
  · rw [if_neg hroom]
    exact stands_kick hd (.inr (congrArg Dock.owed (dock_modDock_self hd _ s)))

/-- A STATUS or SENSE_START for a dock with nothing in hand gets a free place in the queue. -/
theorem placeQuiet_handsFree (kind : CmdKind) (owner : PlacingUnit) (h : HandsFree d s) (hroom : s.bus.queue.length < 16) :
    placeQuiet kind owner d s = (kick (modBus (fun b => { b with
      queue := b.queue ++ [{ kind := kind, dock := d, owner := owner, live := true }] }) s), true) := by
  unfold placeQuiet
  exact if_pos (by simp [(nothingInHand_iff d s).mpr h, queueFull_eq_false_iff.mpr hroom])

/-- An UNLATCH for a dock with nothing in hand gets a free place in the queue and drops no command. -/
theorem placeUnlatch_handsFree (h : HandsFree d s) (hroom : s.bus.queue.length < 16) : placeUnlatch d s =
    some (kick (modBus (fun b => { b with queue := b.queue ++ [releaseUnlatch d] }) s)) := by
  unfold placeUnlatch
  rw [unlatchChange_free h.1 h.inFlight h.2.1, if_pos hroom]

/-- There is nothing to withdraw for a dock with nothing in hand (R33). -/
theorem withdraw_handsFree (h : HandsFree d s) : ∃ k : Dock, k.owed = none ∧ withdraw d s = setDock d k s := by
  obtain ⟨howed, hqueue, -⟩ := h
  refine ⟨_, ?_, if_neg fun hany => ?_⟩
  · simp [howed]
  · obtain ⟨x, hx, hown⟩ := List.any_eq_true.mp hany
    simp only [ownLive, Bool.and_eq_true, beq_iff_eq] at hown
    exact hqueue x hx hown.1.1

/-- To mark what runs on for a dock gives it nothing in hand that it had not. -/
theorem handsFree_orphan (hd : d < 64) (h : HandsFree d s) : HandsFree d (orphan d s) := by
  obtain ⟨howed, hqueue, hflight⟩ := h
  refine ⟨?_, fun x hx => ?_, fun x n hx => ?_⟩
  · unfold orphan
    rw [modBus_dock, dock_modDock_self hd, howed]
    rfl
  · obtain ⟨y, hy, rfl⟩ := List.mem_map.mp hx
    rw [orphanAt_dock]
    exact hqueue y hy
  · obtain ⟨⟨w, m⟩, hf, hw⟩ := Option.map_eq_some_iff.mp hx
    cases w with
    | poll => cases hw
    | command y =>
      cases hw
      rw [orphanAt_dock]
      exact hflight y _ hf

theorem handsFree_endOperation (hd : d < 64) (h : HandsFree d s) : HandsFree d (endOperation d s) := by
  obtain ⟨k, hk, hwithdraw⟩ := withdraw_handsFree h
  unfold endOperation
  rw [hwithdraw]
  exact handsFree_orphan hd ⟨(congrArg Dock.owed (dock_setDock_self hd k s)).trans hk, h.2.1, h.2.2⟩

end Sys2Proof.Machine
end

section
/-! PROOFS. The rows of the dock bus that hand an outcome or an event on (R26, R36): what the acts of release and return
make of a state that differs from `s` in the bus alone is given as the state they make of `s`. -/

namespace Sys2Proof.Machine

variable {d e : Nat} {s t u : State} {c : Cmd} {dock : Byte}

/-! ## The state in which an outcome is handed on -/

/-- `u` is `s` with nothing on the bus and the same queue: the exchange has ended (R26, R36). -/
def HandedOn (s u : State) : Prop := ∃ b : Bus, u = { s with bus := b } ∧ b.queue = s.bus.queue ∧ b.inFlight = none

theorem HandedOn.busOnly (h : HandedOn s u) : BusOnly s u := by
  obtain ⟨b, rfl, -, -⟩ := h
  exact modBus_busOnly (fun _ => b) s

theorem HandedOn.handsFree (h : HandedOn s u) (hfree : HandsFree d s) : HandsFree d u := by
  obtain ⟨b, rfl, hqueue, hflight⟩ := h
  refine ⟨hfree.1, fun x hx => hfree.2.1 x (hqueue ▸ hx), fun x n hx => ?_⟩
  cases (hflight : b.inFlight = none).symm.trans hx

theorem HandedOn.room (h : HandedOn s u) (hroom : s.bus.queue.length < 16) : u.bus.queue.length < 16 := by
  obtain ⟨b, rfl, hqueue, -⟩ := h
  exact hqueue ▸ hroom

/-- An EVENT_POLL placed as the event is handed on waits in its slot (R25; assumption log 5). -/
theorem handedOn_event (low : Bool) (s : State) : HandedOn s (pollIfLow (sampleWire low (endExchange s))) := by
  unfold pollIfLow
  split
  · exact ⟨_, if_neg (by simp [modBus, sampleWire, endExchange]), rfl, rfl⟩
  · exact ⟨_, rfl, rfl, rfl⟩

/-- The row of an event that is accepted hands it on and goes on (R26, R36). -/
theorem eventIs_accepted (h : pollInFlight s = true) (hd : dock.toNat < s.installed) (low : Bool) (act : Nat → State → State) :
    ∃ u, HandedOn s u ∧ eventIs dock low act s = moveOn (act dock.toNat u) :=
  ⟨_, handedOn_event low s, if_pos (by simp [eventAccepted, h, hd])⟩

/-- The frame of the right dock and kind is the reply to the command in flight (R21). -/
theorem acceptedBy_inFlight {code : Byte} {n : Nat} (h : s.bus.inFlight = some { what := .command c, ticks := some n })
    (hd : c.dock = dock.toNat) (hcode : c.kind.admits code = true) : acceptedBy dock code s = some c := by
  simp [acceptedBy, commandInFlight, driverEnable, h, hd, hcode]

/-! ## What the bus alone does not change -/

theorem busOnly_read {α : Type} (h : BusOnly s u) (f : State → α)
    (hf : ∀ (v : State) (b : Bus) (k : Vector Dock Config.docks), f { v with bus := b, docks := k } = f v) : f u = f s := by
  rw [h.1]
  exact hf s _ _

theorem busOnly_dock {α : Type} (h : BusOnly s u) (f : Dock → α) (hf : ∀ k : Dock, f k.unowed = f k) (d : Nat) :
    f (u.dock d) = f (s.dock d) := by
  rw [← hf (u.dock d), h.dock d, hf]

theorem busOnly_state (h : BusOnly s u) (d : Nat) : (u.dock d).state = (s.dock d).state :=
  busOnly_dock h Dock.state (fun _ => rfl) d

theorem busOnly_bike (h : BusOnly s u) (d : Nat) : (u.dock d).bike = (s.dock d).bike :=
  busOnly_dock h Dock.bike (fun _ => rfl) d

theorem busOnly_retirePending (h : BusOnly s u) (d : Nat) : (u.dock d).retirePending = (s.dock d).retirePending :=
  busOnly_dock h Dock.retirePending (fun _ => rfl) d

theorem busOnly_batch (h : BusOnly s u) : u.batch = s.batch := busOnly_read h State.batch fun _ _ _ => rfl

/-- A change of a dock's record that neither reads nor writes what is owed. -/
theorem busOnly_modDock (h : BusOnly s u) (f : Dock → Dock) (hf : ∀ k : Dock, (f k).unowed = (f k.unowed).unowed) (d : Nat) :
    BusOnly (modDock d f s) (modDock d f u) :=
  h.modDock (fun k l hkl => by rw [hf k, hkl, ← hf l]) d

/-! ## The ends of an operation -/

theorem busOnly_endOperation (h : BusOnly s u) (d : Nat) : BusOnly s (endOperation d u) := h.trans (endOperation_busOnly d u)

theorem busOnly_becomeHeld (h : BusOnly s u) (hp : (s.dock d).retirePending = false) (hb : s.batch = none) :
    BusOnly (modDock d heldRecord s) (becomeHeld d u) := by
  rw [becomeHeld_plain ((busOnly_retirePending h d).trans hp) ((busOnly_batch h).trans hb)]
  exact busOnly_modDock h heldRecord (fun _ => rfl) d

theorem busOnly_becomeVacant (h : BusOnly s u) (hp : (s.dock d).retirePending = false) (hb : s.batch = none) :
    BusOnly (modDock d vacantRecord s) (becomeVacant d u) := by
  rw [becomeVacant_plain ((busOnly_retirePending h d).trans hp) ((busOnly_batch h).trans hb)]
  exact busOnly_modDock h vacantRecord (fun _ => rfl) d

/-- A dock that becomes RETIRED with its bike stranded: its record, the journal record and the notice (R129). -/
def retires (d : Nat) (s : State) : State :=
  raise (.dockRetired d) (enterRecord (.dockRetired d ((s.dock d).bike.map fun b => b.id.getD 0)) (modDock d Dock.asRetired s))

theorem busOnly_enterRetired (h : BusOnly s u) (d : Nat) : BusOnly (retires d s) (enterRetired d u) := by
  have hretired := ((busOnly_modDock h Dock.asRetired (fun _ => rfl) d).enter
    (.dockRetired d ((u.dock d).bike.map fun b => b.id.getD 0))).tell (.dockRetired d)
  rw [retires, ← busOnly_bike h d]
  exact hretired.trans (enterRetired_busOnly d u)

/-- A dock with no retirement pending is not retired at the end of an arrival (R5). -/
theorem applyPending_none (h : (s.dock d).retirePending = false) : applyPending d s = s := if_neg (by simp [h])

/-! ## Reports -/

theorem busOnly_masked (h : BusOnly s u) (c : Category) : masked c u = masked c s := busOnly_read h (masked c) fun _ _ _ => rfl

/-- A dock's count raised by a report, and the report journaled (R124). -/
def reported (d : Nat) (c : Category) (n : Nat) (s : State) : State :=
  enterRecord (.dockFault d c n) (modDock d (fun k => { k with faultCount := n }) s)

theorem busOnly_reported (h : BusOnly s u) (d : Nat) (c : Category) (n : Nat) : BusOnly (reported d c n s) (reported d c n u) :=
  (busOnly_modDock h (fun k => { k with faultCount := n }) (fun _ => rfl) d).enter _

/-- A minor report that leaves the count below the threshold (R124). -/
theorem busOnly_reportBelow (h : BusOnly s u) {c : Category} (hmask : masked c s = false)
    (hn : (s.dock d).faultCount + 1 < s.settings.dockThreshold) (h15 : (s.dock d).faultCount + 1 ≤ 15) :
    BusOnly (reported d c ((s.dock d).faultCount + 1) s) (reportDock d c false u) := by
  have hcount : (u.dock d).faultCount = (s.dock d).faultCount := busOnly_dock h Dock.faultCount (fun _ => rfl) d
  have hset : u.settings = s.settings := busOnly_read h State.settings fun _ _ _ => rfl
  have hafter : countAfter false u.settings.dockThreshold (u.dock d).faultCount = (s.dock d).faultCount + 1 :=
    (countAfter_minor (by omega)).trans (by rw [hcount])
  have hreport := reportDock_below (d := d) ((busOnly_masked h c).trans hmask) (hafter.trans_lt (by rwa [hset]))
  rw [hafter] at hreport
  rw [hreport]
  exact busOnly_reported h d c _

/-- A severe report brings the count to the threshold, and what the threshold does follows (R124, R128). -/
theorem reportDock_severe {c : Category} (hmask : masked c s = false) : reportDock d c true s =
    retireAtThreshold d (reported d c (max (s.dock d).faultCount s.settings.dockThreshold) s) := by
  unfold reportDock
  rw [if_neg (by simp [hmask])]
  exact if_pos (Nat.le_max_right _ _)

end Sys2Proof.Machine
end

section
/-! PROOFS. The window timer of a release or an ejection (R45, R46, R47, R57). -/

namespace Sys2Proof.Machine

variable {d : Nat} {s : State} {c : Cmd} {dock : Byte} {n : Nat}

theorem exec_opened (h : s.bus.inFlight = some { what := .command c, ticks := some n }) (hd : c.dock = dock.toNat)
    (hkind : c.kind = .unlatch ∨ c.kind = .reject) : exec (.opened dock) s = .next (moveOn (openedFor c (endExchange s))) := by
  have hcode : c.kind.admits DockReply.opened.code = true := by rcases hkind with hk | hk <;> rw [hk] <;> rfl
  have hrow : onOpened dock s = moveOn (openedFor c (endExchange s)) := by
    unfold onOpened
    rw [acceptedBy_inFlight h hd hcode]
    rfl
  exact congrArg Host.Outcome.next hrow

/-- The record of a dock whose lock has opened: its phase moves on and its window timer starts (R45). -/
def openedRecord (p : Phase) (w : Window) (k : Dock) : Dock := { k with phase := some p, window := some w }

/-- What OPENED does at a dock is done whatever the bus then holds. -/
theorem opened_busOnly (p : Phase) (w : Window) (d : Nat) (s : State) :
    BusOnly (modDock d (openedRecord p w) s) (modDock d (openedRecord p w) (endExchange s)) :=
  busOnly_modDock (endExchange_busOnly s) (openedRecord p w) (fun _ => rfl) d

theorem openedFor_release (hs : (s.dock d).state = .releasing) (hp : (s.dock d).phase = some .unlatching) :
    openedFor { kind := .unlatch, dock := d, owner := .release, live := true } s = releaseOpened d s :=
  if_pos (by simp [hs, hp])

theorem openedFor_ejection (hs : (s.dock d).state = .ejecting) (hp : (s.dock d).phase = some .rejecting) :
    openedFor { kind := .reject, dock := d, owner := .release, live := true } s =
      modDock d (openedRecord .ejectOpen (startWindow s)) s := by
  unfold openedFor
  simp only [hs, hp]
  rfl

theorem releaseOpened_hire {h : Nat} (ho : (s.dock d).owner = some (.hire h)) : releaseOpened d s =
    raise (.hireDockOpen d h) (modDock d (openedRecord .opened (startWindow s)) s) := by
  simp only [releaseOpened, ho]
  rfl

theorem releaseOpened_batch (ho : (s.dock d).owner = some .batch) : releaseOpened d s =
    raise (.batchDockOpen d) (modDock d (openedRecord .opened (startWindow s)) s) := by
  simp only [releaseOpened, ho]
  rfl

/-! ## The expiry -/

theorem windowDue_iff {p : Phase} {k : Dock} {w : Window} (hw : k.window = some w) :
    windowDue p k = true ↔ k.phase = some p ∧ w.limit + 1 ≤ w.ticks := by
  simp [windowDue, hw]

/-- The closing LOCK is placed and the phase moves on (R47, R57). -/
theorem closeWith_handsFree (hd : d < 64) (h : HandsFree d s) (p : Phase) :
    BusOnly (setDock d { s.dock d with phase := some p, window := none } s) (closeWith p d s) ∧
      OwnStands .lock d (closeWith p d s) := by
  have hstopped : HandsFree d (modDock d (fun k => { k with window := none }) s) :=
    ⟨(congrArg Dock.owed (dock_modDock_self hd _ s)).trans h.1, h.2.1, h.2.2⟩
  constructor
  · have hlock := busOnly_modDock (placeLock_busOnly ownLock ((nothingInHand_iff d _).mpr hstopped))
      (fun k => { k with phase := some p }) (fun _ => rfl) d
    rw [modDock_modDock hd] at hlock
    exact hlock
  · refine Stands.of_same (o := ownLock) (stands_placeLock hd ownLock hstopped) rfl ?_
    unfold closeWith setPhase
    rw [dock_modDock_self hd]

end Sys2Proof.Machine

namespace Sys2Proof.Settled

open Sys2Proof.Machine

/-- Settles O18: the reply starts the timer; its expiry places the closing LOCK; before it nothing happens. -/
theorem windowTimer : Obligations.WindowTimer := by
  refine ⟨?_, fun s d w hd hw => ⟨fun hs hp hdue hfree => ?_, fun hs hp hdue hfree => ?_, fun hearly => ?_⟩⟩
  · intro s dock kind n d window opened hd hflight
    refine ⟨fun hkind hs hp => ?_, fun hkind hs hp => ?_⟩ <;> subst hkind
    · have hrow := exec_opened hflight rfl (.inl rfl)
      rw [openedFor_release (s := endExchange s) hs hp] at hrow
      refine ⟨fun h ho => ⟨_, hrow, BusOnly.trans ?_ (moveOn_busOnly _)⟩, fun ho => ⟨_, hrow, BusOnly.trans ?_ (moveOn_busOnly _)⟩⟩
      · rw [releaseOpened_hire (s := endExchange s) ho]
        exact (opened_busOnly .opened window d s).tell _
      · rw [releaseOpened_batch (s := endExchange s) ho]
        exact (opened_busOnly .opened window d s).tell _
    · refine ⟨_, exec_opened hflight rfl (.inr rfl), BusOnly.trans ?_ (moveOn_busOnly _)⟩
      rw [openedFor_ejection (s := endExchange s) hs hp]
      exact opened_busOnly .ejectOpen window d s
  · exact ⟨closeWith .locking d s, congrArg _ (if_pos ⟨hs, (windowDue_iff hw).mpr ⟨hp, hdue⟩⟩), closeWith_handsFree hd hfree _⟩
  · exact ⟨closeWith .ejectLocking d s, congrArg _ (if_pos ⟨hs, (windowDue_iff hw).mpr ⟨hp, hdue⟩⟩),
      closeWith_handsFree hd hfree _⟩
  · have hnot (p : Phase) : ¬ windowDue p (s.dock d) = true := fun h => by have := ((windowDue_iff hw).mp h).2; omega
    exact ⟨congrArg _ (if_neg fun h => hnot _ h.2), congrArg _ (if_neg fun h => hnot _ h.2)⟩

end Sys2Proof.Settled
end

section
/-! PROOFS. The lapse of a release (R49, R50, R53, R114). -/

namespace Sys2Proof.Machine

variable {d : Nat} {s u : State} {c : Cmd} {dock : Byte} {n : Nat} {r : Hire} {b : Batch}

/-! ## Rows -/

/-- The closing LOCK of the release in progress at a dock (R47). -/
abbrev closingLock (d : Nat) : Cmd := { kind := .lock, dock := d, owner := .release, live := true }

theorem exec_lockedWith (h : s.bus.inFlight = some { what := .command (closingLock dock.toNat), ticks := some n })
    (tag : BitVec 24) (kind : Byte) : exec (.lockedWith dock tag kind) s =
      .next (moveOn (lockedWithFor (closingLock dock.toNat) tag.toNat (byteKind kind) (endExchange s))) := by
  have hrow : onLockedWith dock tag kind s =
      moveOn (lockedWithFor (closingLock dock.toNat) tag.toNat (byteKind kind) (endExchange s)) := by
    unfold onLockedWith
    rw [acceptedBy_inFlight h rfl rfl]
    rfl
  exact congrArg Host.Outcome.next hrow

/-- LOCKED_WITH for the closing LOCK with the tag recorded, or none, is the lapse (R49). -/
theorem exec_lockedWith_lapse (h : s.bus.inFlight = some { what := .command (closingLock dock.toNat), ticks := some n })
    (hs : (s.dock dock.toNat).state = .releasing) (hp : (s.dock dock.toNat).phase = some .locking) {tag : BitVec 24}
    (hT : tag.toNat = 0 ∨ recordedId (s.dock dock.toNat) = some tag.toNat) (kind : Byte) :
    exec (.lockedWith dock tag kind) s = .next (moveOn (lapse dock.toNat (endExchange s))) := by
  have hcloses : closesRelease (closingLock dock.toNat) (endExchange s) = true := by
    simp [closesRelease, endExchange, hs, hp]
  rw [exec_lockedWith h]
  unfold lockedWithFor
  rw [if_neg (by simp), if_pos hcloses, if_pos]
  exact hT

theorem exec_inserted (h : pollInFlight s = true) (hd : dock.toNat < s.installed) (tag : BitVec 24) (kind : Byte) (low : Bool) :
    ∃ u, HandedOn s u ∧ exec (.inserted dock tag kind low) s =
      .next (moveOn (arrive dock.toNat tag.toNat (byteKind kind) u)) := by
  obtain ⟨u, hu, hrow⟩ := eventIs_accepted h hd low fun d => arrive d tag.toNat (byteKind kind)
  exact ⟨u, hu, congrArg Host.Outcome.next hrow⟩

/-- What is shown of the state an arrival makes, but for the bus, holds of the row of INSERTED. -/
theorem exec_inserted_of {v : State} {tag : BitVec 24} {kind : Byte} {low : Bool} (h : pollInFlight s = true)
    (hd : dock.toNat < s.installed)
    (hact : ∀ u, HandedOn s u → BusOnly v (arrive dock.toNat tag.toNat (byteKind kind) u)) :
    ∃ t, exec (.inserted dock tag kind low) s = .next t ∧ BusOnly v t := by
  obtain ⟨u, hu, hrow⟩ := exec_inserted h hd tag kind low
  exact ⟨_, hrow, (hact u hu).trans (moveOn_busOnly _)⟩

/-- INSERTED with the bike's own tag, or none, at a RELEASING dock (R53). -/
theorem arrive_releasing {T : Nat} {kind : BikeKind} (hs : (s.dock d).state = .releasing)
    (hT : T = 0 ∨ recordedId (s.dock d) = some T) :
    arrive d T kind s = if (s.dock d).phase = some .unlatching then s else lapse d s := by
  unfold arrive arriveReleasing
  rw [if_pos hs, if_pos hT]

/-! ## The lapse -/

/-- The state after the lapse of a hire's release: the dock HELD with its bike, the hire cancelled, the terminal told
(R50, R89). -/
def lapsed (d : Nat) (r : Hire) (s : State) : State :=
  raise (.releaseLapsed d r.number) (cancelHire r (modDock d heldRecord s))

theorem lapsed_eq (d : Nat) (r : Hire) (s : State) : lapsed d r s =
    raise (.releaseLapsed d r.number) { setDock d (heldRecord (s.dock d)) s with
      hires := s.hires.filter fun x => x.number != r.number
      cards := s.cards.map fun c => if c.id = r.card then
        { c with held := c.held - r.holdAmount, openCount := c.openCount - 1 } else c } := by
  unfold lapsed
  rw [cancelHire_eq]
  simp only [beq_iff_eq]
  rfl

theorem busOnly_lapse_hire (h : BusOnly s u) (ho : (s.dock d).owner = some (.hire r.number))
    (hp : (s.dock d).retirePending = false) (hb : s.batch = none) (hr : findHire r.number s = some r) :
    BusOnly (lapsed d r s) (lapse d u) := by
  have hheld := busOnly_becomeHeld (busOnly_endOperation h d) hp hb
  have howner : (u.dock d).owner = some (.hire r.number) := (busOnly_dock h Dock.owner (fun _ => rfl) d).trans ho
  have hfind : findHire r.number (becomeHeld d (endOperation d u)) = some r :=
    (busOnly_read hheld (findHire r.number) fun _ _ _ => rfl).trans hr
  simp only [lapse, howner, lapseHire, hfind]
  exact (hheld.map (cancelHire r) fun _ _ _ => rfl).tell _

/-! ## The lapse of a batch release -/

theorem modDock_same {f : Dock → Dock} (h : f (s.dock d) = s.dock d) : modDock d f s = s := by
  have hdocks : s.docks.setIfInBounds d (s.dock d) = s.docks := by
    ext i hi : 1
    by_cases hdi : d = i
    · subst hdi
      simp [State.dock, hi]
    · simp [Vector.getElem_setIfInBounds_ne, hdi]
  unfold modDock setDock
  rw [h, hdocks]

/-- A van hold is placed under a COLLECT batch only, and one that stands stays (R107). -/
theorem holdIfWanted_same (h : (s.dock d).vanHold = true ∨ ∀ b, s.batch = some b → b.kind = .deliver) :
    holdIfWanted d s = s := by
  unfold holdIfWanted
  split
  · rename_i b k hb hk
    split
    · rename_i hwant
      rcases h with h | h
      · exact modDock_same (by rw [← h])
      · cases hwant.1.symm.trans (h b hb)
    · rfl
  · rfl

/-- A batch that waits for nothing goes on after a release of it (R118). -/
theorem batchReleaseEnded_running (hb : s.batch = some b) (hx : b.expiryWaiting = false) : batchReleaseEnded s = s := by
  simp [batchReleaseEnded, hb, hx]

theorem busOnly_lapse_batch {v : State} (h : BusOnly s u) (ho : (s.dock d).owner = some .batch)
    (hheld : BusOnly v (becomeHeld d (endOperation d u))) (hb : v.batch = some b) (hx : b.expiryWaiting = false) :
    BusOnly v (lapse d u) := by
  have howner : (u.dock d).owner = some .batch := (busOnly_dock h Dock.owner (fun _ => rfl) d).trans ho
  simp only [lapse, howner]
  rwa [batchReleaseEnded_running ((busOnly_batch hheld).trans hb) hx]

/-- A dock whose bike is held for the van already, or under a DELIVER batch, becomes HELD as it is (R4, R107). -/
theorem busOnly_becomeHeld_batch (hd : d < 64) (h : BusOnly s u) (hp : (s.dock d).retirePending = false)
    (hb : s.batch = some b) (hvan : (s.dock d).vanHold = true ∨ b.kind = .deliver) :
    BusOnly (modDock d heldRecord s) (becomeHeld d u) := by
  have hheld := busOnly_modDock h heldRecord (fun _ => rfl) d
  have hsame : holdIfWanted d (modDock d heldRecord u) = modDock d heldRecord u := by
    refine holdIfWanted_same (hvan.imp (fun hv => ?_) fun hk x hx => ?_)
    · rw [dock_modDock_self hd]
      exact (busOnly_dock h Dock.vanHold (fun _ => rfl) d).trans hv
    · cases (hb.symm.trans ((busOnly_batch h).symm.trans hx))
      exact hk
  unfold becomeHeld
  rw [if_neg (by simp [busOnly_retirePending h d, hp])]
  exact hheld.trans (hsame.symm ▸ BusOnly.refl _)

/-- A dock with its retirement pending is RETIRED instead (R5). -/
theorem busOnly_becomeHeld_pending (h : BusOnly s u) (hp : (s.dock d).retirePending = true) :
    BusOnly (retires d s) (becomeHeld d u) := by
  unfold becomeHeld
  rw [if_pos ((busOnly_retirePending h d).trans hp)]
  exact busOnly_enterRetired h d

theorem retires_batch (d : Nat) (s : State) : (retires d s).batch = s.batch := by simp [retires]

end Sys2Proof.Machine

namespace Sys2Proof.Settled

open Sys2Proof.Machine

/-- Settles O19: both rows come to the lapse, for a hire and for the batch. -/
theorem lockedWithLapses : Obligations.LockedWithLapses := by
  refine ⟨?_, ?_, ?_⟩
  · intro s dock tag kind n h r d hd hflight hs hphase ho hp hb hr hT
    obtain rfl := findHire_number hr
    have hact := busOnly_lapse_hire (endExchange_busOnly s) ho hp hb hr
    rw [lapsed_eq] at hact
    exact ⟨_, exec_lockedWith_lapse hflight hs hphase hT kind, hact.trans (moveOn_busOnly _)⟩
  · intro s dock tag kind low d hpoll hinst hd hs hT
    have hrow (u : State) (hu : HandedOn s u) := arrive_releasing (kind := byteKind kind)
      ((busOnly_state hu.busOnly d).trans hs) (hT.imp_right fun h => (congrArg (·.bind Bike.id) (busOnly_bike hu.busOnly d)).trans h)
    have hphase (u : State) (hu : HandedOn s u) : (u.dock d).phase = (s.dock d).phase :=
      busOnly_dock hu.busOnly Dock.phase (fun _ => rfl) d
    refine ⟨fun hp => exec_inserted_of hpoll hinst fun u hu => ?_, fun h r hopen ho hp hb hr => ?_⟩
    · rw [hrow u hu, if_pos ((hphase u hu).trans hp)]
      exact hu.busOnly
    · obtain rfl := findHire_number hr
      refine exec_inserted_of hpoll hinst fun u hu => ?_
      rw [hrow u hu, if_neg (by rw [hphase u hu]; rcases hopen with h | h <;> simp [h]), ← lapsed_eq]
      exact busOnly_lapse_hire hu.busOnly ho hp hb hr
  · intro s dock tag kind n b d hd hflight hs hphase ho hb hx hT
    have hrow := exec_lockedWith_lapse hflight hs hphase hT kind
    have hend := busOnly_endOperation (endExchange_busOnly s) d
    refine ⟨fun hp hvan => ⟨_, hrow, ?_⟩, fun hp => ⟨_, hrow, ?_⟩⟩
    · exact (busOnly_lapse_batch (endExchange_busOnly s) ho (busOnly_becomeHeld_batch hd hend hp hb hvan) hb hx).trans
        (moveOn_busOnly _)
    · exact (busOnly_lapse_batch (endExchange_busOnly s) ho (busOnly_becomeHeld_pending hend hp)
        ((retires_batch d s).trans hb) hx).trans (moveOn_busOnly _)

end Sys2Proof.Settled
end

section
/-! PROOFS. Acts that neither an entry nor a raise reads, nor they what such an act writes: the order of the two is free
(R154, R173). -/

namespace Sys2Proof.Machine

variable {d : Nat} {s t : State} {g g' : State → State}

/-- The journal written. -/
def writeJournal (j : Journal) (s : State) : State := { s with journal := j }

theorem evalHeld_eq (s : State) : evalHeld s =
    if s.journal.held then
      if s.journal.records.length ≤ s.settings.lowerWatermark then writeJournal { s.journal with held := false } s else s
    else if s.settings.upperWatermark ≤ s.journal.records.length then
      raise (.journalHigh s.journal.records.length) (writeJournal { s.journal with held := true } s)
    else s := rfl

/-- The journal with a record appended (R153, R155). -/
def Journal.append (j : Journal) (e : Entry) (station minute : Nat) : Journal :=
  { j with records := j.records ++ [{ seq := j.nextSeq, station := station, minute := minute, entry := e }]
           nextSeq := (j.nextSeq + 1) % Config.sequenceNumbers }

theorem appendRecord_eq (e : Entry) (s : State) : appendRecord e s =
    if Config.journalPlaces ≤ s.journal.records.length then
      writeJournal { s.journal with lost := min (s.journal.lost + 1) Config.lostTop, overrun := true } s
    else evalHeld (if s.journal.records.isEmpty then
        raise (.journalData 1) (writeJournal (s.journal.append e s.settings.stationNumber s.clock.minute) s)
      else writeJournal (s.journal.append e s.settings.stationNumber s.clock.minute) s) := rfl

theorem frontOverrun_eq (s : State) : frontOverrun s =
    if s.journal.overrun ∧ s.journal.records.length < Config.journalPlaces then
      writeJournal { (appendRecord (.overrun s.journal.lost) s).journal with lost := 0, overrun := false }
        (appendRecord (.overrun s.journal.lost) s)
    else s := rfl

/-- The act `g` leaves the journal, the settings and the clock alone, and commutes with writes to the journal and with
raises. -/
structure Unheard (g : State → State) : Prop where
  journal : ∀ s, (g s).journal = s.journal
  settings : ∀ s, (g s).settings = s.settings
  clock : ∀ s, (g s).clock = s.clock
  write : ∀ j s, g (writeJournal j s) = writeJournal j (g s)
  raised : ∀ n s, g (raise n s) = raise n (g s)

theorem Unheard.comp (h : Unheard g) (h' : Unheard g') : Unheard fun s => g (g' s) where
  journal s := (h.journal _).trans (h'.journal s)
  settings s := (h.settings _).trans (h'.settings s)
  clock s := (h.clock _).trans (h'.clock s)
  write j s := (congrArg g (h'.write j s)).trans (h.write j _)
  raised n s := (congrArg g (h'.raised n s)).trans (h.raised n _)

theorem Unheard.evaluated (h : Unheard g) (s : State) : g (evalHeld s) = evalHeld (g s) := by
  simp only [evalHeld_eq, apply_ite g, h.raised, h.write, h.journal, h.settings]

theorem Unheard.appended (h : Unheard g) (e : Entry) (s : State) : g (appendRecord e s) = appendRecord e (g s) := by
  simp only [appendRecord_eq, apply_ite g, h.evaluated, h.raised, h.write, h.journal, h.settings, h.clock]

theorem Unheard.fronted (h : Unheard g) (s : State) : g (frontOverrun s) = frontOverrun (g s) := by
  rw [frontOverrun_eq, frontOverrun_eq, apply_ite g, h.write, h.journal, ← h.appended, h.journal]

/-- What an entry does not read may be done before it or after it. -/
theorem Unheard.entered (h : Unheard g) (e : Entry) (s : State) : g (enterRecord e s) = enterRecord e (g s) := by
  unfold enterRecord
  rw [h.appended, h.fronted]

theorem unheard_modDock (d : Nat) (f : Dock → Dock) : Unheard (modDock d f) :=
  ⟨fun _ => rfl, fun _ => rfl, fun _ => rfl, fun _ _ => rfl, fun n s => modDock_raise f n s⟩

end Sys2Proof.Machine
end

section
/-! PROOFS. The pull of a release (R48, R49, R53, R113). -/

namespace Sys2Proof.Machine

variable {d : Nat} {s u : State} {dock : Byte} {n : Nat} {r : Hire} {b : Batch}

/-! ## Rows -/

theorem exec_lockedEmpty_pull (h : s.bus.inFlight = some { what := .command (closingLock dock.toNat), ticks := some n })
    (hs : (s.dock dock.toNat).state = .releasing) (hp : (s.dock dock.toNat).phase = some .locking) :
    exec (.lockedEmpty dock) s = .next (moveOn (pull dock.toNat (endExchange s))) := by
  have hcloses : closesRelease (closingLock dock.toNat) (endExchange s) = true := by
    simp [closesRelease, endExchange, hs, hp]
  have hrow : onLockedEmpty dock s = moveOn (lockedEmptyFor (closingLock dock.toNat) (endExchange s)) := by
    unfold onLockedEmpty
    rw [acceptedBy_inFlight h rfl rfl]
    rfl
  unfold lockedEmptyFor at hrow
  rw [if_neg (by simp), if_pos hcloses] at hrow
  exact congrArg Host.Outcome.next hrow

theorem exec_removed_of {v : State} {low : Bool} (h : pollInFlight s = true) (hd : dock.toNat < s.installed)
    (hact : ∀ u, BusOnly s u → BusOnly v (bikeRemoved dock.toNat u)) :
    ∃ t, exec (.removed dock low) s = .next t ∧ BusOnly v t := by
  obtain ⟨u, hu, hrow⟩ := eventIs_accepted h hd low bikeRemoved
  exact ⟨_, congrArg Host.Outcome.next hrow, (hact u hu.busOnly).trans (moveOn_busOnly _)⟩

theorem bikeRemoved_releasing (hs : (s.dock d).state = .releasing) : bikeRemoved d s = pull d s := by
  simp only [bikeRemoved, hs]

/-! ## The pull of a hire's release -/

/-- The record of a STARTING hire that becomes OUT at a minute (R48). -/
def Hire.out (r : Hire) (minute : Nat) : Hire := { r with state := .out, start := some minute }

theorem findHire_hireOut (h : findHire n s = some r) : findHire n (hireOut n s) = some (r.out s.now) := by
  have hfind : s.hires.find? ((fun x => x.number == n) ∘ fun x => if x.number == n then x.out s.now else x) = some r := by
    rw [← h]
    refine congrArg (s.hires.find? ·) (funext fun x => ?_)
    dsimp only [Function.comp]
    split <;> rfl
  have hmap := List.find?_map (l := s.hires) (p := fun x => x.number == n) (f := fun x => if x.number == n then x.out s.now else x)
  rw [hfind] at hmap
  refine hmap.trans ?_
  simp [findHire_number h]

/-- The state after the pull of a hire's release: the hire OUT, the dock VACANT, journaled and told (R48). -/
def pulled (d : Nat) (r : Hire) (s : State) : State :=
  raise (.bikeTaken d r.number)
    (enterRecord (.hireStart r.number r.card r.bike d) (modDock d vacantRecord (hireOut r.number s)))

theorem pulled_eq (d : Nat) (r : Hire) (s : State) : pulled d r s =
    raise (.bikeTaken d r.number) (enterRecord (.hireStart r.number r.card r.bike d)
      { setDock d (vacantRecord (s.dock d)) s with
        hires := s.hires.map fun x =>
          if x.number = r.number then { x with state := .out, start := some s.clock.minute } else x }) := by
  simp only [pulled, hireOut, modHire, beq_iff_eq]
  rfl

theorem busOnly_pull_hire (h : BusOnly s u) (ho : (s.dock d).owner = some (.hire r.number))
    (hp : (s.dock d).retirePending = false) (hb : s.batch = none) (hr : findHire r.number s = some r) :
    BusOnly (pulled d r s) (pull d u) := by
  have howner : (u.dock d).owner = some (.hire r.number) := (busOnly_dock h Dock.owner (fun _ => rfl) d).trans ho
  have hout := (busOnly_endOperation h d).map (hireOut r.number) fun _ _ _ => rfl
  have hvacant := busOnly_becomeVacant (d := d) hout hp hb
  have hfind := (busOnly_read hvacant (findHire r.number) fun _ _ _ => rfl).trans (findHire_hireOut hr)
  unfold pull
  dsimp only
  rw [howner]
  dsimp only
  rw [hfind]
  exact (hvacant.enter _).tell _

/-! ## The collection -/

/-- The batch, the fault entries and the idle timer after bike `i` has been collected (R113, R117, R137). -/
def collecting (b : Batch) (i : Nat) (s : State) : State :=
  { s with
    batch := some { b with
      manifest := if b.manifest.any fun m => !m.done && m.bike == i then
        b.manifest.map fun m => if m.bike = i then { m with done := true } else m else b.manifest
      done := min (b.done + 1) 255
      idle := 60 * s.settings.batchIdle }
    bikeFaults := s.bikeFaults.filter fun f => f.bike != i
    due := { s.due with idle := false } }

theorem unheard_collecting (b : Batch) (i : Nat) : Unheard (collecting b i) :=
  ⟨fun _ => rfl, fun _ => rfl, fun _ => rfl, fun _ _ => rfl, fun n s => by
    unfold raise modPort setPort State.port
    cases n.kind.port <;> rfl⟩

theorem unheard_restartIdle : Unheard restartIdle :=
  ⟨fun _ => rfl, fun _ => rfl, fun _ => rfl, fun _ _ => rfl, fun n s => by
    unfold raise modPort setPort State.port
    cases n.kind.port <;> rfl⟩

/-- The batch with bike `i` counted, and its PENDING entry DONE (R113). -/
def Batch.count (b : Batch) (i : Nat) : Batch :=
  if b.manifest.any fun m => !m.done && m.bike == i then b.markDone i else b.countDone

theorem count_crew (b : Batch) (i : Nat) : (b.count i).crew = b.crew := by unfold Batch.count; split <;> rfl

theorem count_done (b : Batch) (i : Nat) : (b.count i).done = min (b.done + 1) 255 := by unfold Batch.count; split <;> rfl

theorem count_expiryWaiting (b : Batch) (i : Nat) : (b.count i).expiryWaiting = b.expiryWaiting := by
  unfold Batch.count; split <;> rfl

/-- The state in which a collection is journaled (R113). -/
def counted (b : Batch) (i : Nat) (s : State) : State := dropBikeFault i { s with batch := some (b.count i) }

theorem restartIdle_counted (hx : b.expiryWaiting = false) (i : Nat) (s : State) :
    restartIdle (counted b i s) = collecting b i s := by
  have hbatch : ({ b.count i with idle := 60 * s.settings.batchIdle, expiryWaiting := false } : Batch) =
      { b with
        manifest := if b.manifest.any fun m => !m.done && m.bike == i then
          b.manifest.map fun m => if m.bike = i then { m with done := true } else m else b.manifest
        done := min (b.done + 1) 255
        idle := 60 * s.settings.batchIdle } := by
    unfold Batch.count Batch.markDone Batch.countDone
    simp only [beq_iff_eq]
    split <;> simp [hx]
  unfold collecting
  rw [← hbatch]
  rfl

/-- The collection of an identified bike for a COLLECT batch that does not wait for its end (R113). -/
theorem collect_identified {bike : Option Bike} {i : Nat} (hi : bike.bind Bike.id = some i) (hb : s.batch = some b)
    (hk : b.kind = .collect) (hx : b.expiryWaiting = false) (d : Nat) : collect bike d s =
      raise (.batchProgress (min (b.done + 1) 255)) (enterRecord (.bikeCollected i d b.crew) (collecting b i s)) := by
  have hcounted : collected bike d s =
      raise (.batchProgress (min (b.done + 1) 255)) (enterRecord (.bikeCollected i d b.crew) (counted b i s)) := by
    have hmod : modBatch (fun b => if collectWants bike s then b.markDone ((bike.bind Bike.id).getD 0) else b.countDone) s =
        { s with batch := some (b.count i) } := by
      simp only [modBatch, collectWants, hb, hi, hk, Option.map_some, Batch.count, Option.getD_some, beq_self_eq_true,
        Bool.true_and]
    have hcrew : crewOf (counted b i s) = b.crew := count_crew b i
    unfold collected
    dsimp only
    rw [hmod, hi]
    change raise (.batchProgress (doneCount (enterRecord (.bikeCollected i d (crewOf (counted b i s))) (counted b i s))))
      (enterRecord (.bikeCollected i d (crewOf (counted b i s))) (counted b i s)) = _
    rw [hcrew, doneCount, enterRecord_batch]
    exact congrArg (fun n => raise (.batchProgress n) _) (count_done b i)
  have hbatch : (collected bike d s).batch = some (b.count i) := by
    rw [hcounted, raise_batch, enterRecord_batch]
    rfl
  rw [collect_eq, hbatch]
  dsimp only
  rw [if_neg (by simp [count_expiryWaiting, hx]), hcounted, unheard_restartIdle.raised, unheard_restartIdle.entered,
    restartIdle_counted hx]

/-- No reservation is topped up but under a DELIVER batch (R106). -/
theorem topUp_collect (hb : s.batch = some b) (hk : b.kind = .collect) : topUp s = s := by
  simp [topUp, hb, hk]

theorem busOnly_becomeVacant_collect (h : BusOnly s u) (hp : (s.dock d).retirePending = false) (hb : s.batch = some b)
    (hk : b.kind = .collect) : BusOnly (modDock d vacantRecord s) (becomeVacant d u) := by
  unfold becomeVacant
  rw [if_neg (by simp [busOnly_retirePending h d, hp]),
    topUp_collect (s := modDock d Dock.vacated u) ((busOnly_batch h).trans hb) hk]
  exact busOnly_modDock h vacantRecord (fun _ => rfl) d

/-- A dock with its retirement pending is RETIRED empty instead (R5). -/
theorem busOnly_becomeVacant_pending (h : BusOnly s u) (hp : (s.dock d).retirePending = true) :
    BusOnly (retires d (modDock d (fun k => { k with bike := none }) s)) (becomeVacant d u) := by
  unfold becomeVacant
  rw [if_pos ((busOnly_retirePending h d).trans hp)]
  exact busOnly_enterRetired (busOnly_modDock h (fun k => { k with bike := none }) (fun _ => rfl) d) d

/-- The pull of a batch release, for the state `v` that the dock's end leaves (R113). -/
theorem busOnly_pull_batch {v : State} {i : Nat} (h : BusOnly s u) (ho : (s.dock d).owner = some .batch)
    (hi : (s.dock d).bike.bind Bike.id = some i) (hv : BusOnly v (becomeVacant d (endOperation d u)))
    (hb : v.batch = some b) (hk : b.kind = .collect) (hx : b.expiryWaiting = false) :
    BusOnly (raise (.batchProgress (min (b.done + 1) 255)) (enterRecord (.bikeCollected i d b.crew) (collecting b i v)))
      (pull d u) := by
  have howner : (u.dock d).owner = some .batch := (busOnly_dock h Dock.owner (fun _ => rfl) d).trans ho
  have hbike : (u.dock d).bike.bind Bike.id = some i := (congrArg (·.bind Bike.id) (busOnly_bike h d)).trans hi
  unfold pull
  dsimp only
  rw [howner]
  dsimp only
  rw [collect_identified hbike ((busOnly_batch hv).trans hb) hk hx, batchReleaseEnded_running]
  · exact ((hv.map (collecting b i) fun _ _ _ => rfl).enter _).tell _
  · rw [raise_batch, enterRecord_batch]
    rfl
  · exact hx

/-- A collection journaled behind a retirement takes its tables into the state the retirement began with. -/
theorem collecting_retires (hd : d < 64) (b : Batch) (i : Nat) (s : State) :
    collecting b i (retires d (modDock d (fun k => { k with bike := none }) s)) =
      raise (.dockRetired d) (enterRecord (.dockRetired d none)
        (collecting b i (setDock d { vacantRecord (s.dock d) with state := .retired } s))) := by
  unfold retires
  rw [(unheard_collecting b i).raised, (unheard_collecting b i).entered, dock_modDock_self hd, modDock_modDock hd]
  rfl

end Sys2Proof.Machine

namespace Sys2Proof.Settled

open Sys2Proof.Machine

/-- Settles O20: both rows come to the pull, which starts a hire or is a collection. -/
theorem pullStartsHire : Obligations.PullStartsHire := by
  refine ⟨?_, ?_⟩
  · intro s dock h r d hpulled hd hs ho hp hb hr
    obtain rfl := findHire_number hr
    have hact (u : State) (hu : BusOnly s u) : BusOnly hpulled (pull d u) := by
      have := busOnly_pull_hire hu ho hp hb hr
      rwa [pulled_eq] at this
    refine ⟨fun n hflight hphase => ?_, fun low hpoll hinst => exec_removed_of hpoll hinst fun u hu => ?_⟩
    · exact ⟨_, exec_lockedEmpty_pull hflight hs hphase, (hact _ (endExchange_busOnly s)).trans (moveOn_busOnly _)⟩
    · rw [bikeRemoved_releasing ((busOnly_state hu d).trans hs)]
      exact hact u hu
  · intro s dock low b i d wanted after left collected hpoll hinst hd hs ho hb hk hx hi
    have hpull (u : State) (hu : BusOnly s u) : bikeRemoved d u = pull d u :=
      bikeRemoved_releasing ((busOnly_state hu d).trans hs)
    refine ⟨fun hp => exec_removed_of hpoll hinst fun u hu => ?_, fun hp => exec_removed_of hpoll hinst fun u hu => ?_⟩
    · rw [hpull u hu]
      exact busOnly_pull_batch hu ho hi (busOnly_becomeVacant_collect (busOnly_endOperation hu d) hp hb hk) hb hk hx
    · have hend := busOnly_becomeVacant_pending (busOnly_endOperation hu d) hp
      have hact := busOnly_pull_batch hu ho hi hend ((retires_batch d _).trans hb) hk hx
      rw [collecting_retires hd] at hact
      rw [hpull u hu]
      exact hact

end Sys2Proof.Settled
end

section
/-! PROOFS. Forced removals and lock faults: severe reports against a dock (R53, R60, R61, R62, R124, R128, R129). -/

namespace Sys2Proof.Machine

variable {d : Nat} {s u : State} {dock : Byte} {c : Category}

theorem exec_lockFault_of {v : State} {low : Bool} (h : pollInFlight s = true) (hd : dock.toNat < s.installed)
    (hact : ∀ u, BusOnly s u → BusOnly v (reportDock dock.toNat .lockFault true u)) :
    ∃ t, exec (.lockFault dock low) s = .next t ∧ BusOnly v t := by
  obtain ⟨u, hu, hrow⟩ := eventIs_accepted h hd low lockFaulted
  exact ⟨_, congrArg Host.Outcome.next hrow, (hact u hu.busOnly).trans (moveOn_busOnly _)⟩

/-! ## Severe reports -/

/-- The count of dock `d` after a severe report (R124). -/
def severeCount (d : Nat) (s : State) : Nat := max (s.dock d).faultCount s.settings.dockThreshold

theorem dock_reported (hd : d < 64) (c : Category) (n : Nat) (s : State) :
    (reported d c n s).dock d = { s.dock d with faultCount := n } := by
  unfold reported
  rw [enterRecord_dock, dock_modDock_self hd]

theorem busOnly_reportSevere (hd : d < 64) (h : BusOnly s u) (hmask : masked c s = false) :
    ∃ v, BusOnly (reported d c (severeCount d s) s) v ∧ (v.dock d).state = (s.dock d).state ∧
      reportDock d c true u = retireAtThreshold d v := by
  have hcount : (u.dock d).faultCount = (s.dock d).faultCount := busOnly_dock h Dock.faultCount (fun _ => rfl) d
  have hset : u.settings = s.settings := busOnly_read h State.settings fun _ _ _ => rfl
  have hreport := reportDock_severe (d := d) ((busOnly_masked h c).trans hmask)
  rw [hcount, hset] at hreport
  have hv := busOnly_reported h d c (severeCount d s)
  exact ⟨_, hv, (busOnly_state hv d).trans (by rw [dock_reported hd]), hreport⟩

/-- A dock at rest is retired by the threshold (R128). -/
theorem busOnly_reportSevere_retires (hd : d < 64) (h : BusOnly s u) (hmask : masked c s = false)
    (hs : (s.dock d).state = .vacant ∨ (s.dock d).state = .held) :
    BusOnly (retires d (reported d c (severeCount d s) s)) (reportDock d c true u) := by
  obtain ⟨v, hv, hstate, hreport⟩ := busOnly_reportSevere hd h hmask
  have hretire : retireAtThreshold d v = enterRetired d v := by
    rcases hs with hs | hs <;> simp only [retireAtThreshold, hstate, hs]
  rw [hreport, hretire]
  exact busOnly_enterRetired hv d

/-- A dock in flight has its retirement pending (R128). -/
theorem busOnly_reportSevere_pends (hd : d < 64) (h : BusOnly s u) (hmask : masked c s = false)
    (hs : (s.dock d).state = .releasing ∨ (s.dock d).state = .claimed ∨ (s.dock d).state = .latching ∨
      (s.dock d).state = .ejecting) :
    BusOnly (modDock d (fun k => { k with retirePending := true }) (reported d c (severeCount d s) s))
      (reportDock d c true u) := by
  obtain ⟨v, hv, hstate, hreport⟩ := busOnly_reportSevere hd h hmask
  have hretire : retireAtThreshold d v = modDock d (fun k => { k with retirePending := true }) v := by
    rcases hs with hs | hs | hs | hs <;> simp only [retireAtThreshold, hstate, hs]
  rw [hreport, hretire]
  exact busOnly_modDock hv _ (fun _ => rfl) d

/-- A dock retired by a report: one write to its record, and both records journaled in their order. -/
theorem retires_reported (hd : d < 64) (c : Category) (n : Nat) (s : State) : retires d (reported d c n s) =
    raise (.dockRetired d) (enterRecord (.dockRetired d ((s.dock d).bike.map fun b => b.id.getD 0))
      (enterRecord (.dockFault d c n) (modDock d (fun k => { k.asRetired with faultCount := n }) s))) := by
  unfold retires
  rw [dock_reported hd, reported, modDock_enterRecord, modDock_modDock hd]
  rfl

/-! ## The forced removal -/

/-- A bike that has gone from a dock by force: the dock VACANT, the bike journaled missing (R61). -/
def forcedOut (d : Nat) (s : State) : State :=
  enterRecord (.bikeMissing ((recordedId (s.dock d)).getD 0) d) (modDock d vacantRecord s)

theorem busOnly_forcedRemoval (hd : d < 64) (h : BusOnly s u) (hs : (s.dock d).state = .held)
    (hp : (s.dock d).retirePending = false) (hb : s.batch = none) (hmask : masked .lockFault s = false) :
    BusOnly (retires d (reported d .lockFault (severeCount d (forcedOut d s)) (forcedOut d s))) (bikeRemoved d u) := by
  have hstate := (busOnly_state h d).trans hs
  have hvacant : BusOnly (forcedOut d s) (enterRecord (.bikeMissing ((recordedId (u.dock d)).getD 0) d) (becomeVacant d u)) := by
    rw [recordedId, busOnly_bike h d]
    exact (busOnly_becomeVacant h hp hb).enter _
  have hmask' : masked .lockFault (forcedOut d s) = false := by
    unfold masked forcedOut
    rw [enterRecord_settings]
    exact hmask
  have hout : ((forcedOut d s).dock d).state = .vacant := by
    unfold forcedOut
    rw [enterRecord_dock, dock_modDock_self hd]
    rfl
  have hact := busOnly_reportSevere_retires hd hvacant hmask' (.inl hout)
  simp only [bikeRemoved, hstate, forcedRemoval]
  exact hact

theorem retires_forcedOut (hd : d < 64) (n : Nat) (s : State) : retires d (reported d .lockFault n (forcedOut d s)) =
    raise (.dockRetired d) (enterRecord (.dockRetired d none) (enterRecord (.dockFault d .lockFault n)
      (enterRecord (.bikeMissing ((recordedId (s.dock d)).getD 0) d)
        (setDock d { vacantRecord (s.dock d) with state := .retired, faultCount := n } s)))) := by
  rw [retires_reported hd, forcedOut, enterRecord_dock, dock_modDock_self hd, modDock_enterRecord, modDock_modDock hd]
  rfl

theorem severeCount_forcedOut (hd : d < 64) (s : State) : severeCount d (forcedOut d s) = severeCount d s := by
  unfold severeCount forcedOut
  rw [enterRecord_dock, enterRecord_settings, dock_modDock_self hd]
  rfl

end Sys2Proof.Machine

namespace Sys2Proof.Settled

open Sys2Proof.Machine

/-- Settles O21: REMOVED and LOCK_FAULT by the state of the dock. -/
theorem removalAndLockFault : Obligations.RemovalAndLockFault := by
  refine ⟨?_, ?_⟩
  · intro s dock low hpoll hinst hd d n
    refine ⟨fun hs hp hb hmask => exec_removed_of hpoll hinst fun u hu => ?_,
      fun hs => exec_removed_of hpoll hinst fun u hu => ?_⟩
    · have hact := busOnly_forcedRemoval hd hu hs hp hb hmask
      rwa [severeCount_forcedOut hd, retires_forcedOut hd] at hact
    · have hstays : bikeRemoved d u = u := by
        rcases hs with hs | hs <;> simp only [bikeRemoved, (busOnly_state hu d).trans hs]
      exact hstays.symm ▸ hu
  · intro s dock low hpoll hinst hd d n
    refine ⟨fun hmask => exec_lockFault_of hpoll hinst fun u hu => ?_,
      fun hmask hs => exec_lockFault_of hpoll hinst fun u hu => ?_,
      fun hmask hs => exec_lockFault_of hpoll hinst fun u hu => ?_⟩
    · rw [reportDock_masked ((busOnly_masked hu .lockFault).trans hmask)]
      exact hu
    · have hact := busOnly_reportSevere_retires hd hu (c := .lockFault) hmask (.inr hs)
      rwa [retires_reported hd] at hact
    · have hact := busOnly_reportSevere_pends hd hu (c := .lockFault) hmask hs
      rwa [reported, modDock_enterRecord, modDock_modDock hd] at hact

end Sys2Proof.Settled
end

section
/-! PROOFS. HIRE_START (R40, R41, R42, R43, R70, R71). -/

namespace Sys2Proof.Machine

variable {d dock : Nat} {s t u : State} {p : Port} {tag : Byte} {fields : List Byte} {k : BikeKind} {c : Card} {b : Bike}
  {r : Result} {id : Nat}

/-! ## The dock step -/

theorem kindAt_iff : kindAt d k s = true ↔ ∃ b, (s.dock d).bike = some b ∧ b.kind = k := by
  simp [kindAt, Option.any_eq_true]

/-- A named dock is refused by the first test that it fails (R41). -/
theorem dockStep_refused (h : dock ≠ 255) (hr : namedDock dock k s = some r) : dockStep dock k s = .inr r := by
  unfold dockStep
  rw [if_neg h, hr]

theorem namedDock_out (h : s.installed ≤ dock) : namedDock dock k s = some .noDock := if_pos h

theorem namedDock_refused (h : dock < s.installed) :
    (verdict dock s = .vanHold → namedDock dock k s = some .dockHeldVan) ∧
    (verdict dock s = .notPermitted → namedDock dock k s = some .notPermitted) ∧
    (verdict dock s = .lowCharge → namedDock dock k s = some .lowCharge) ∧
    (verdict dock s = .notReady → namedDock dock k s = some .dockNotReady) ∧
    (verdict dock s = .hireable → kindAt dock k s = false → namedDock dock k s = some .dockNotReady) := by
  have hin : ¬ s.installed ≤ dock := Nat.not_le.mpr h
  refine ⟨fun hv => ?_, fun hv => ?_, fun hv => ?_, fun hv => ?_, fun hv hk => ?_⟩ <;> simp [namedDock, hin, hv]
  exact hk

theorem dockStep_passes (hd : dock < s.installed) (h : dock ≠ 255) (hv : verdict dock s = .hireable)
    (hk : kindAt dock k s = true) : dockStep dock k s = .inl dock := by
  simp [dockStep, h, namedDock, Nat.not_le.mpr hd, hv, hk]

theorem mem_candidates : d ∈ candidates k s ↔ d < s.installed ∧ verdict d s = .hireable ∧ kindAt d k s = true := by
  simp [candidates, State.installedDocks]

theorem dockStep_noBike (h : ∀ d, d < s.installed → verdict d s = .hireable → kindAt d k s = false) :
    dockStep 255 k s = .inr .noBike := by
  have hnone : candidates k s = [] := List.eq_nil_iff_forall_not_mem.mpr fun d hd => by
    obtain ⟨hi, hv, hk⟩ := mem_candidates.mp hd
    rw [h d hi hv] at hk
    cases hk
  simp [dockStep, hnone, bestBy]

/-- The element that comes before every other of a list is the best of it. -/
theorem bestBy_eq {α : Type} [DecidableEq α] {before : α → α → Bool} {l : List α} {a : α} (ha : a ∈ l)
    (h : ∀ x ∈ l, x ≠ a → before a x = true ∧ before x a = false) : bestBy before l = some a := by
  induction l with
  | nil => cases ha
  | cons x rest ih =>
    unfold bestBy
    by_cases hrest : a ∈ rest
    · rw [ih hrest fun y hy => h y (List.mem_cons_of_mem x hy)]
      by_cases hx : x = a
      · subst hx
        simp
      · simp [(h x List.mem_cons_self hx).1]
    · obtain rfl : a = x := (List.mem_cons.mp ha).resolve_right hrest
      split
      · rfl
      · rename_i y hy
        have hmem := bestBy_mem hy
        have hne : y ≠ a := fun he => hrest (he ▸ hmem)
        simp [(h y (List.mem_cons_of_mem a hmem) hne).2]

/-- "any" takes the candidate that is preferred to every other (R42). -/
theorem dockStep_any (hd : d ∈ candidates k s)
    (h : ∀ e ∈ candidates k s, e ≠ d → preferred k s d e = true ∧ preferred k s e d = false) :
    dockStep 255 k s = .inl d := by
  simp [dockStep, bestBy_eq hd h]

/-! ## The card step -/

theorem cardStep_refused (h : findCard id s = some c) (hr : cardCheck c k s = some r) : cardStep id k s = .refused r := by
  unfold cardStep
  rw [h]
  dsimp only
  rw [hr]

theorem cardStep_passes (h : findCard id s = some c) (hr : cardCheck c k s = none) : cardStep id k s = .pass c := by
  unfold cardStep
  rw [h]
  dsimp only
  rw [hr]

/-- What is left of the card step for a GOOD card with fewer open hires than its policy allows (R70). -/
theorem cardCheck_good (hgood : c.standing = .good) (hopen : c.openCount < (s.policy c.policyIndex).maxHires) :
    cardCheck c k s = if k = .electric ∧ (s.policy c.policyIndex).electricPermitted = false then some .electricNotAllowed
      else if c.available < ((s.policy c.policyIndex).holdAmount : Int) then some .funds else none := by
  unfold cardCheck
  dsimp only
  rw [if_neg (by simp [hgood]), if_neg (by omega), if_neg (by omega)]

/-- A card passes that is GOOD, below its policy's limits, and funded (R70). -/
theorem cardCheck_passes (hgood : c.standing = .good) (hopen : c.openCount < (s.policy c.policyIndex).maxHires)
    (hkind : k = .electric → (s.policy c.policyIndex).electricPermitted = true)
    (hfunds : ((s.policy c.policyIndex).holdAmount : Int) ≤ c.balance - c.held) : cardCheck c k s = none := by
  rw [cardCheck_good hgood hopen, if_neg fun h => by simp [hkind h.1] at h]
  exact if_neg (Int.not_lt.mpr hfunds)

/-- The refusals of a card in the table, in their order (R70). -/
theorem cardCheck_refused (c : Card) (k : BikeKind) (s : State) :
    let pol := s.policy c.policyIndex
    (c.standing = .blocked → cardCheck c k s = some .cardBlocked) ∧
    (c.standing = .good → pol.maxHires = 0 → cardCheck c k s = some .notPermitted) ∧
    (c.standing = .good → pol.maxHires ≠ 0 → pol.maxHires ≤ c.openCount → cardCheck c k s = some .cardLimit) ∧
    (c.standing = .good → c.openCount < pol.maxHires → k = .electric → pol.electricPermitted = false →
      cardCheck c k s = some .electricNotAllowed) ∧
    (c.standing = .good → c.openCount < pol.maxHires → (k = .electric → pol.electricPermitted = true) →
      c.balance - c.held < (pol.holdAmount : Int) → cardCheck c k s = some .funds) := by
  intro pol
  refine ⟨fun h => if_pos h, fun h hmax => ?_, fun h hmax hopen => ?_, fun h hopen hk hp => ?_, fun h hopen hk hfunds => ?_⟩
  · exact (if_neg (by simp [h])).trans (if_pos hmax)
  · exact (if_neg (by simp [h])).trans ((if_neg hmax).trans (if_pos hopen))
  · exact (cardCheck_good h hopen).trans (if_pos ⟨hk, hp⟩)
  · exact (cardCheck_good h hopen).trans ((if_neg fun hn => by simp [pol, hn.2] at hk; exact hk hn.1).trans (if_pos hfunds))

/-- The card step for a card that is not in the table (R71). -/
theorem cardStep_absent (h : findCard id s = none) :
    (s.link = .offline → cardStep id k s = .refused .offline) ∧
    (s.link = .online → (8 ≤ s.authQueue.length ∨ ∃ e ∈ s.authQueue, e.card = id) → cardStep id k s = .refused .authBusy) ∧
    (s.link = .online → s.authQueue.length < 8 → (∀ e ∈ s.authQueue, e.card ≠ id) → cardStep id k s = .pending) := by
  unfold cardStep
  rw [h]
  dsimp only
  refine ⟨fun hl => if_pos hl, fun hl hbusy => ?_, fun hl hlen hnone => ?_⟩
  · rw [if_neg (by simp [hl])]
    rcases hbusy with hfull | hcard
    · exact if_pos hfull
    · split
      · rfl
      · exact if_pos (by simpa using hcard)
  · rw [if_neg (by simp [hl]), if_neg (Nat.not_le.mpr hlen), if_neg (by simpa using hnone)]

/-! ## The request -/

/-- The fields of a HIRE_START lie in their ranges, the journal is not HELD and the register has room (R40). -/
structure HireAsked (fields : List Byte) (s : State) : Prop where
  kind : numAt fields 7 1 ≤ 1
  card : numAt fields 0 7 ≠ 0
  unheld : s.journal.held = false
  room : s.hires.length < 96

/-- A HIRE_START refused, with hire 0 and the dock of the request (R40). -/
def hireRefused (fields : List Byte) (r : Result) (s : State) : Answer := (s, r, [.num 2 0, .num 1 (numAt fields 8 1)])

/-- HIRE_START from its dock step on (R40). -/
def hireSteps (fields : List Byte) (s : State) : Answer :=
  match dockStep (numAt fields 8 1) (fieldKind (numAt fields 7 1)) s with
  | .inr r => hireRefused fields r s
  | .inl d =>
    match cardStep (numAt fields 0 7) (fieldKind (numAt fields 7 1)) s with
    | .refused r => hireRefused fields r s
    | .pending => (claimDock (numAt fields 0 7) d (fieldKind (numAt fields 7 1)) s, .pending,
        [.num 1 (freeAuthTag s), .num 1 d])
    | .pass c =>
      match startHire c d s with
      | (s1, some h) => (s1, .ok, [.num 2 h, .num 1 d])
      | (_, none) => hireRefused fields .busBusy s

theorem hireStart_asked (h : HireAsked fields s) : hireStart fields p s = hireSteps fields s := by
  obtain ⟨hkind, hcard, hopen, hroom⟩ := h
  have hroom' : ¬ Config.hirePlaces ≤ s.hires.length := Nat.not_le.mpr hroom
  unfold hireStart
  dsimp only
  rw [if_neg (by omega), if_neg (by simp [hopen]), if_neg hroom']
  rfl

theorem hireStart_badRange (h : ¬ (numAt fields 7 1 ≤ 1 ∧ numAt fields 0 7 ≠ 0)) :
    hireStart fields p s = hireRefused fields .refusedRange s := if_pos (by omega)

theorem hireStart_held (h : numAt fields 7 1 ≤ 1 ∧ numAt fields 0 7 ≠ 0) (hheld : s.journal.held = true) :
    hireStart fields p s = hireRefused fields .journalHeld s := (if_neg (by omega)).trans (if_pos hheld)

theorem hireStart_full (h : numAt fields 7 1 ≤ 1 ∧ numAt fields 0 7 ≠ 0) (hopen : s.journal.held = false)
    (hfull : 96 ≤ s.hires.length) : hireStart fields p s = hireRefused fields .registerFull s :=
  (if_neg (by omega)).trans ((if_neg (by simp [hopen])).trans (if_pos hfull))

theorem hireSteps_dock (h : dockStep (numAt fields 8 1) (fieldKind (numAt fields 7 1)) s = .inr r) :
    hireSteps fields s = hireRefused fields r s := by
  unfold hireSteps
  rw [h]

section
variable (hd : dockStep (numAt fields 8 1) (fieldKind (numAt fields 7 1)) s = .inl d)
include hd

theorem hireSteps_card (h : cardStep (numAt fields 0 7) (fieldKind (numAt fields 7 1)) s = .refused r) :
    hireSteps fields s = hireRefused fields r s := by
  simp only [hireSteps, hd, h]

theorem hireSteps_pending (h : cardStep (numAt fields 0 7) (fieldKind (numAt fields 7 1)) s = .pending) :
    hireSteps fields s = (claimDock (numAt fields 0 7) d (fieldKind (numAt fields 7 1)) s, .pending,
      [.num 1 (freeAuthTag s), .num 1 d]) := by
  simp only [hireSteps, hd, h]

theorem hireSteps_busy (h : cardStep (numAt fields 0 7) (fieldKind (numAt fields 7 1)) s = .pass c)
    (hu : placeUnlatch d s = none) : hireSteps fields s = hireRefused fields .busBusy s := by
  have hstart : startHire c d s = (s, none) := by
    unfold startHire
    split
    · rfl
    · rw [hu]
  simp only [hireSteps, hd, h, hstart]

theorem hireSteps_accepted (h : cardStep (numAt fields 0 7) (fieldKind (numAt fields 7 1)) s = .pass c)
    (hb : (s.dock d).bike = some b) (hu : placeUnlatch d s = some t) : hireSteps fields s =
      (acceptHire c (b.id.getD 0) b.kind d t, .ok, [.num 2 (freeHireNumber t), .num 1 d]) := by
  have hstart : startHire c d s = (acceptHire c (b.id.getD 0) b.kind d t, some (freeHireNumber t)) := by
    unfold startHire
    rw [hb]
    dsimp only
    rw [hu]
  simp only [hireSteps, hd, h, hstart]

end

/-! ## The frame -/

theorem exec_hireStart_refused (h : Taken 0x10#8 p fields s)
    (hr : hireStart fields p (received p s) = hireRefused fields r (received p s)) :
    exec (.hireStart p tag fields) s = .next (Reads 0x10#8 tag p r [.num 2 0, .num 1 (numAt fields 8 1)] s) := by
  refine congrArg Host.Outcome.next (frameArrives_reads h rfl rfl fun t ht => ?_)
  rw [ht, hr]
  rfl

theorem HireAsked.received (h : HireAsked fields s) : HireAsked fields (received p s) :=
  ⟨h.kind, h.card, by simp [h.unheld], by simp [h.room]⟩

theorem exec_hireStart_dock (h : Taken 0x10#8 p fields s) (hasked : HireAsked fields s)
    (hr : dockStep (numAt fields 8 1) (fieldKind (numAt fields 7 1)) s = .inr r) :
    exec (.hireStart p tag fields) s = .next (Reads 0x10#8 tag p r [.num 2 0, .num 1 (numAt fields 8 1)] s) :=
  exec_hireStart_refused h ((hireStart_asked hasked.received).trans (hireSteps_dock (by simp [hr])))

/-- At a named hireable dock of the kind wanted HIRE_START goes on to its card step (R40, R41). -/
theorem dockStep_hireable_named (hd : numAt fields 8 1 < s.installed) (h64 : numAt fields 8 1 < 64)
    (hv : verdict (numAt fields 8 1) s = .hireable) (hb : (s.dock (numAt fields 8 1)).bike = some b)
    (hk : b.kind = fieldKind (numAt fields 7 1)) :
    dockStep (numAt fields 8 1) (fieldKind (numAt fields 7 1)) (received p s) = .inl (numAt fields 8 1) := by
  rw [dockStep_modPort]
  exact dockStep_passes hd (by omega) hv (kindAt_iff.mpr ⟨b, hb, hk⟩)

/-- An UNLATCH that R30 refuses is not placed. -/
theorem placeUnlatch_refused (h : UnlatchRefused d s) : placeUnlatch d s = none := by
  have hnone : unlatchChange d s = none := by
    rcases h with h | h | ⟨⟨x, hx, hxd⟩, hkeeps⟩ | ⟨hqueue, hfull⟩
    · exact unlatchChange_refused (.inl h)
    · exact unlatchChange_refused (.inr h)
    · unfold unlatchChange
      dsimp only
      split
      · rfl
      · split
        · rename_i q hq
          have hmem : q ∈ s.bus.queue := List.mem_of_find?_eq_some hq
          have hqd : q.dock = d := by simpa using List.find?_some hq
          have ⟨h1, h2⟩ := hkeeps q hmem hqd
          exact if_neg fun h4 => ((class_eq_four_iff q.kind).mp h4).elim h1 h2
        · rename_i hq
          exact absurd hxd (queuedAt_eq_none_iff.mp hq x hx)
    · unfold unlatchChange
      dsimp only
      rw [queuedAt_eq_none_iff.mpr hqueue]
      split
      · rfl
      · exact if_pos (by simpa [queueFull] using hfull)
  unfold placeUnlatch
  rw [hnone]

end Sys2Proof.Machine

namespace Sys2Proof.Settled

open Sys2Proof.Machine

/-- Settles O23: the dock step, the card step at a named dock, and the UNLATCH refused. -/
theorem hireStartRefused : Obligations.HireStartRefused := by
  refine ⟨?_, ?_, ?_⟩
  · intro s p tag fields htaken dock wanted no good ofKind
    have hrefused {r : Result} (h : hireStart fields p (received p s) = hireRefused fields r (received p s)) : no r :=
      exec_hireStart_refused htaken h
    refine ⟨fun hbad => hrefused (hireStart_badRange hbad), fun hgood hheld => hrefused (hireStart_held hgood (by simp [hheld])),
      fun hgood hopen hfull => hrefused (hireStart_full hgood (by simp [hopen]) (by simp [hfull])),
      fun hgood hopen hroom => ?_⟩
    have hasked : HireAsked fields s := ⟨hgood.1, hgood.2, hopen, hroom⟩
    have hdock {r : Result} (h : dockStep dock wanted s = .inr r) : no r := exec_hireStart_dock htaken hasked h
    have hkind (d : Nat) (h : ¬ ofKind d) : kindAt d wanted s = false :=
      Bool.eq_false_iff.mpr fun hk => h (kindAt_iff.mp hk)
    refine ⟨fun hne hout => hdock (dockStep_refused hne (namedDock_out hout)), fun hin hne => ?_, fun hany hnone => hdock ?_⟩
    · obtain ⟨h1, h2, h3, h4, h5⟩ := namedDock_refused (k := wanted) hin
      exact ⟨fun hv => hdock (dockStep_refused hne (h1 hv)), fun hv => hdock (dockStep_refused hne (h2 hv)),
        fun hv => hdock (dockStep_refused hne (h3 hv)), fun hv => hdock (dockStep_refused hne (h4 hv)),
        fun hv hk => hdock (dockStep_refused hne (h5 hv (hkind dock hk)))⟩
    · rw [hany]
      exact dockStep_noBike fun d hd hv => hkind d (hnone d hd hv)
  · intro s p tag fields b htaken d card wanted no hkind hcard hopen hroom hd h64 hv hb hbk
    have hasked : HireAsked fields (received p s) := HireAsked.received ⟨hkind, hcard, hopen, hroom⟩
    have hdock := dockStep_hireable_named (p := p) hd h64 hv hb hbk
    have hrefused {r : Result} (h : cardStep card wanted s = .refused r) : no r :=
      exec_hireStart_refused htaken ((hireStart_asked hasked).trans
        (hireSteps_card hdock ((cardStep_modPort p _ s card wanted).trans h)))
    refine ⟨fun c hc => ?_, fun hc => ?_⟩
    · have hcheck {r : Result} (h : cardCheck c wanted s = some r) : no r := hrefused (cardStep_refused hc h)
      obtain ⟨h1, h2, h3, h4, h5⟩ := cardCheck_refused c wanted s
      exact ⟨fun hs => hcheck (h1 hs), fun hs hm => hcheck (h2 hs hm), fun hs hm ho => hcheck (h3 hs hm ho),
        fun hs ho hk he => hcheck (h4 hs ho hk he), fun hs ho hk hf => hcheck (h5 hs ho hk hf)⟩
    · obtain ⟨h1, h2, h3⟩ := cardStep_absent (k := wanted) hc
      refine ⟨fun hl => hrefused (h1 hl), fun hl hbusy => hrefused (h2 hl hbusy), fun hl hlen hnone => ?_⟩
      have hclaimed : claimDock card d wanted (received p s) = received p (claimDock card d wanted s) := by cases p <;> rfl
      refine congrArg Host.Outcome.next (frameArrives_taken (u := claimDock card d wanted s) htaken rfl rfl ?_)
      rw [hireStart_asked hasked, hireSteps_pending hdock ((cardStep_modPort p _ s card wanted).trans (h3 hl hlen hnone)),
        freeAuthTag_modPort]
      exact congrArg (·, _) hclaimed
  · intro s p tag fields b c htaken d card wanted pol hkind hcard hopen hroom hd h64 hv hb hbk hc hgood hcount helectric hfunds
      hunlatch
    have hpass : cardStep card wanted (received p s) = .pass c :=
      (cardStep_modPort p _ s card wanted).trans (cardStep_passes hc (cardCheck_passes hgood hcount helectric hfunds))
    have hnone : placeUnlatch d (received p s) = none := placeUnlatch_refused (by cases p <;> exact hunlatch)
    exact exec_hireStart_refused htaken ((hireStart_asked (HireAsked.received ⟨hkind, hcard, hopen, hroom⟩)).trans
      (hireSteps_busy (dockStep_hireable_named hd h64 hv hb hbk) hpass hnone))

end Sys2Proof.Settled
end

section
/-! PROOFS. A HIRE_START that is accepted (R40 to R43, R72, R88). -/

namespace Sys2Proof.Machine

variable {d e : Nat} {s u : State} {p : Port} {tag : Byte} {fields : List Byte} {k : BikeKind} {c : Card} {b : Bike}

/-! ## The acceptance -/

/-- The hire entered and its hold placed: steps 1 and 2 of R43. -/
def enterHire (c : Card) (bikeId : Nat) (kind : BikeKind) (d : Nat) (s : State) : State :=
  placeHold c.id (s.policy c.policyIndex).holdAmount
    { s with hires := s.hires ++ [acceptedHire (freeHireNumber s) c bikeId kind d s], lastHire := freeHireNumber s }

/-- The record of a dock whose release for a hire begins (R43). -/
def releasingRecord (h : Nat) (k : Dock) : Dock :=
  { k with state := .releasing, owner := some (.hire h), bike := k.bike.map Bike.senseAborted, phase := some .unlatching,
           window := none }

theorem acceptHire_eq (c : Card) (bikeId : Nat) (kind : BikeKind) (d : Nat) (s : State) : acceptHire c bikeId kind d s =
    modDock d (releasingRecord (freeHireNumber s)) (enterHire c bikeId kind d s) := rfl

theorem busOnly_acceptHire (h : BusOnly s u) (c : Card) (bikeId : Nat) (kind : BikeKind) (d : Nat) :
    BusOnly (acceptHire c bikeId kind d s) (acceptHire c bikeId kind d u) := by
  rw [acceptHire_eq, acceptHire_eq, busOnly_read h freeHireNumber fun _ _ _ => rfl]
  exact busOnly_modDock (h.map (enterHire c bikeId kind d) fun _ _ _ => rfl) _ (fun _ => rfl) d

/-- The station after the acceptance, table by table (R43, R72, R88). -/
theorem acceptHire_written {i : Nat} (hb : (s.dock d).bike = some b) (hi : b.id = some i) (c : Card) :
    acceptHire c (b.id.getD 0) b.kind d s = { setDock d { s.dock d with
        state := .releasing, owner := some (.hire (freeHireNumber s)), bike := some { b with sense := none }
        phase := some .unlatching, window := none } s with
      lastHire := freeHireNumber s
      hires := s.hires ++ [acceptedHire (freeHireNumber s) c i b.kind d s]
      cards := s.cards.map fun x => if x.id = c.id then
        { x with held := x.held + (s.policy c.policyIndex).holdAmount, openCount := x.openCount + 1,
                 lastUse := s.clock.minute } else x } := by
  have hrecord : releasingRecord (freeHireNumber s) (s.dock d) = { s.dock d with
      state := .releasing, owner := some (.hire (freeHireNumber s)), bike := some { b with sense := none }
      phase := some .unlatching, window := none } := by
    unfold releasingRecord
    rw [hb]
    rfl
  rw [← hrecord, hi, acceptHire_eq]
  simp only [enterHire, placeHold, modCard, beq_iff_eq]
  rfl

/-! ## The dock that "any" prefers (R42) -/

theorem preferred_standard (h : sinceAt d s < sinceAt e s ∨ (sinceAt d s = sinceAt e s ∧ d < e)) :
    preferred .standard s d e = true ∧ preferred .standard s e d = false := by
  simp only [preferred, Bool.or_eq_true, Bool.or_eq_false_iff, Bool.and_eq_true, Bool.and_eq_false_iff, decide_eq_true_eq,
    decide_eq_false_iff_not, beq_iff_eq, beq_eq_false_iff_ne]
  omega

theorem preferred_electric (h : (s.dock e).level.getD 0 < (s.dock d).level.getD 0 ∨
    ((s.dock d).level.getD 0 = (s.dock e).level.getD 0 ∧ d < e)) :
    preferred .electric s d e = true ∧ preferred .electric s e d = false := by
  simp only [preferred, Bool.or_eq_true, Bool.or_eq_false_iff, Bool.and_eq_true, Bool.and_eq_false_iff, decide_eq_true_eq,
    decide_eq_false_iff_not, beq_iff_eq, beq_eq_false_iff_ne]
  omega

/-! ## The frame -/

/-- A port with no partial frame has nothing to drop when a frame arrives (R166). -/
theorem received_of_empty (h : (s.port p).partialFrame = []) : received p s = s := by
  have hsame : { s.port p with partialFrame := [] } = s.port p := by rw [← h]
  exact (congrArg (setPort p · s) hsame).trans (setPort_port p s)

theorem withReply_received (code tag : Byte) (p : Port) (r : Result) (reply : List ReplyField) (s : State) :
    WithReply code tag p r reply (received p s) = WithReply code tag p r reply s := by cases p <;> rfl

theorem busOnly_withReply (h : BusOnly s u) (code tag : Byte) (p : Port) (r : Result) (reply : List ReplyField) :
    BusOnly (WithReply code tag p r reply s) (WithReply code tag p r reply u) :=
  h.map (WithReply code tag p r reply) fun _ _ _ => by cases p <;> rfl

/-- HIRE_START at the dock of its dock step, for a card that passes, with an UNLATCH that finds a free place: the reply
goes out and the hire is accepted (R40, R43). -/
theorem exec_hireStart_accepted (htaken : Taken 0x10#8 p fields s) (hasked : HireAsked fields s)
    (hdock : dockStep (numAt fields 8 1) (fieldKind (numAt fields 7 1)) s = .inl d)
    (hcard : cardStep (numAt fields 0 7) (fieldKind (numAt fields 7 1)) s = .pass c)
    (hb : (s.dock d).bike = some b) (hfree : HandsFree d s) (hroom : s.bus.queue.length < 16) :
    ∃ t, exec (.hireStart p tag fields) s = .next t ∧ Placed (releaseUnlatch d) t ∧
      BusOnly (WithReply 0x10#8 tag p .ok [.num 2 (freeHireNumber s), .num 1 d] (acceptHire c (b.id.getD 0) b.kind d s)) t := by
  have hfree' : HandsFree d (received p s) := by cases p <;> exact hfree
  have hroom' : (received p s).bus.queue.length < 16 := by cases p <;> exact hroom
  have hunlatch := placeUnlatch_handsFree hfree' hroom'
  have hplaced : Placed (releaseUnlatch d) (kick (modBus (fun b => { b with queue := b.queue ++ [releaseUnlatch d] })
      (received p s))) := placed_kick (.inl (List.mem_append_right _ List.mem_cons_self))
  have hbus := (modBus_busOnly (fun b => { b with queue := b.queue ++ [releaseUnlatch d] }) (received p s)).trans (kick_busOnly _)
  generalize kick (modBus (fun b => { b with queue := b.queue ++ [releaseUnlatch d] }) (received p s)) = v at *
  have hnumber : freeHireNumber v = freeHireNumber s :=
    (busOnly_read hbus freeHireNumber fun _ _ _ => rfl).trans (freeHireNumber_modPort p _ s)
  have hempty : received p (acceptHire c (b.id.getD 0) b.kind d v) = acceptHire c (b.id.getD 0) b.kind d v := by
    refine received_of_empty ?_
    have hport : (v.port p).partialFrame = [] := by
      rw [busOnly_read hbus (fun t => t.port p) fun _ _ _ => by cases p <;> rfl, port_modPort_self]
    cases p <;> exact hport
  have hanswer : hireStart fields p (received p s) = (received p (acceptHire c (b.id.getD 0) b.kind d v), .ok,
      [.num 2 (freeHireNumber s), .num 1 d]) := by
    rw [hempty, hireStart_asked hasked.received, hireSteps_accepted ((dockStep_modPort p _ s _ _).trans hdock)
      ((cardStep_modPort p _ s _ _).trans hcard) ((congrArg Dock.bike (modPort_dock p _ s d)).trans hb) hunlatch, hnumber]
  refine ⟨_, congrArg Host.Outcome.next (frameArrives_taken htaken rfl rfl hanswer), ?_, ?_⟩
  · exact hplaced.of_bus (by cases p <;> rfl)
  · have hact := busOnly_withReply (busOnly_acceptHire hbus c (b.id.getD 0) b.kind d) 0x10#8 tag p .ok
      [.num 2 (freeHireNumber s), .num 1 d]
    rwa [show acceptHire c (b.id.getD 0) b.kind d (received p s) = received p (acceptHire c (b.id.getD 0) b.kind d s) by
      cases p <;> rfl, withReply_received] at hact

end Sys2Proof.Machine

namespace Sys2Proof.Settled

open Sys2Proof.Machine

/-- Settles O22: the dock step takes the dock, the card passes, and the hire is accepted. -/
theorem hireStartAccepted : Obligations.HireStartAccepted := by
  intro s p tag fields d b i c card wanted pol tar h since level better hireableOf htaken hcard hkind hopen hroom hd h64
    hdock hb hi hnamed hc hgood hcount helectric hfunds hfree hqueue
  have hoffered (e : Nat) : hireableOf e ↔ verdict e s = .hireable ∧ kindAt e wanted s = true :=
    and_congr_right fun _ => kindAt_iff.symm
  have hsince (e : Nat) : since e = sinceAt e s := by
    unfold since sinceAt
    cases (s.dock e).bike <;> rfl
  have hlevel (e : Nat) : level e = (s.dock e).level.getD 0 := by
    unfold level Dock.level
    cases (s.dock e).bike with
    | none => rfl
    | some x => cases hx : x.charge <;> simp [hx]
  obtain ⟨hv, hk⟩ := (hoffered d).mp hdock
  have hstep : dockStep (numAt fields 8 1) wanted s = .inl d := by
    rcases hnamed with hname | ⟨hany, hbest⟩
    · rw [hname]
      exact dockStep_passes hd (by omega) hv hk
    · rw [hany]
      refine dockStep_any (mem_candidates.mpr ⟨hd, hv, hk⟩) fun e he hne => ?_
      obtain ⟨hei, hev, hek⟩ := mem_candidates.mp he
      have hbetter := hbest e hei hne ((hoffered e).mpr ⟨hev, hek⟩)
      cases hw : wanted with
      | standard =>
        refine preferred_standard ?_
        rw [← hsince, ← hsince]
        exact Eq.mp (if_pos hw) hbetter
      | electric =>
        refine preferred_electric ?_
        rw [← hlevel, ← hlevel]
        exact Eq.mp (if_neg (by simp [hw])) hbetter
  obtain ⟨t, hrow, hplaced, hact⟩ := exec_hireStart_accepted (tag := tag) htaken ⟨hkind, hcard, hopen, hroom⟩ hstep
    (cardStep_passes hc (cardCheck_passes hgood hcount helectric hfunds)) hb hfree hqueue
  refine ⟨t, hrow, hplaced, ?_⟩
  have hid : c.id = card := (findCard_mem hc).2
  rw [acceptHire_written hb hi, acceptedHire, hid] at hact
  exact hact

end Sys2Proof.Settled
end

section
/-! PROOFS. Accepted arrivals: the bike taken in, its hire closed, the terminal told (R6, R54, R56, R74, R92, R93). -/

namespace Sys2Proof.Machine

variable {d e T : Nat} {s t u v : State} {k : BikeKind} {r : Hire} {c : Card} {b : Batch}

/-! ## Records written -/

theorem modDock_congr {f g : Dock → Dock} (h : f (s.dock d) = g (s.dock d)) : modDock d f s = modDock d g s := by
  unfold modDock
  rw [h]

theorem setDock_setDock (d : Nat) (k l : Dock) (s : State) : setDock d k (setDock d l s) = setDock d k s := by
  unfold setDock
  simp

theorem setDock_comm (h : d ≠ e) (k l : Dock) (s : State) : setDock d k (setDock e l s) = setDock e l (setDock d k s) := by
  have hdocks : (s.docks.setIfInBounds e l).setIfInBounds d k = (s.docks.setIfInBounds d k).setIfInBounds e l := by
    ext i hi : 1
    simp only [Vector.getElem_setIfInBounds]
    by_cases hdi : d = i
    · simp [hdi, show e ≠ i from fun he => h (hdi.trans he.symm)]
    · simp [hdi]
  unfold setDock
  dsimp only
  rw [hdocks]

/-- The cards and hires written. -/
def writeMoney (hires : List Hire) (cards : List Card) (s : State) : State := { s with hires := hires, cards := cards }

theorem unheard_writeMoney (hires : List Hire) (cards : List Card) : Unheard (writeMoney hires cards) :=
  ⟨fun _ => rfl, fun _ => rfl, fun _ => rfl, fun _ _ => rfl, fun n s => by
    unfold raise modPort setPort State.port
    cases n.kind.port <;> rfl⟩

theorem busOnly_applyPending (h : BusOnly s u) (hp : (s.dock d).retirePending = false) : BusOnly s (applyPending d u) := by
  rw [applyPending_none ((busOnly_retirePending h d).trans hp)]
  exact h

/-! ## A bike recorded nowhere else (R6) -/

/-- No installed dock other than `d` records bike `T`. -/
def Nowhere (d T : Nat) (s : State) : Prop := ∀ e, e < s.installed → e ≠ d → (s.dock e).bike.bind Bike.id ≠ some T

theorem busOnly_nowhere (h : BusOnly s u) (hn : Nowhere d T s) : Nowhere d T u := by
  intro e he hed
  rw [busOnly_bike h e]
  exact hn e ((busOnly_read h State.installed fun _ _ _ => rfl) ▸ he) hed

/-- The test of R6 at one dock. -/
theorem records_iff (e T : Nat) (s : State) : (match (s.dock e).bike with
    | some b => b.id == some T
    | none => false) = true ↔ (s.dock e).bike.bind Bike.id = some T := by
  cases (s.dock e).bike <;> simp

theorem recordedElsewhere_eq_none (h : Nowhere d T s) : recordedElsewhere d T s = none := by
  refine List.find?_eq_none.mpr fun e he => ?_
  simp only [Bool.and_eq_true, bne_iff_ne, not_and]
  exact fun hne => mt (records_iff e T s).mp (h e (List.mem_range.mp he) hne)

theorem clearElsewhere_nowhere (h : Nowhere d T s) : clearElsewhere d T s = s := by
  unfold clearElsewhere
  rw [recordedElsewhere_eq_none h]

/-! ## The bike taken in -/

/-- The record of a dock with a STANDARD bike `T` that has arrived (R4, R56). -/
def dockedRecord (T now : Nat) (k : Dock) : Dock :=
  { vacantRecord k with state := .held, bike := some (arrivedBike (some T) .standard now) }

/-- The state with a STANDARD bike `T` taken into dock `d`. -/
def docked (d T : Nat) (s : State) : State := setDock d (dockedRecord T s.now (s.dock d)) s

theorem newBike_standard (hT : T ≠ 0) (now : Nat) : newBike T .standard now = arrivedBike (some T) .standard now := by
  simp [newBike, arrivedBike, hT]

theorem busOnly_takeIn (h : BusOnly s u) (hp : (s.dock d).retirePending = false) (hT : T ≠ 0)
    (hb : ∀ b, s.batch = some b → b.kind = .deliver) : BusOnly (docked d T s) (takeIn d T .standard u) := by
  have hnow : u.now = s.now := busOnly_read h State.now fun _ _ _ => rfl
  have hin := busOnly_modDock h (fun k => { k.settled .held (some (newBike T .standard u.now)) with vanHold := false })
    (fun _ => rfl) d
  have hrecord : modDock d (fun k => { k.settled .held (some (newBike T .standard u.now)) with vanHold := false }) s =
      docked d T s := by
    refine modDock_congr (g := dockedRecord T s.now) ?_
    rw [newBike_standard hT, hnow]
    simp only [Dock.settled, dockedRecord, vacantRecord, Dock.powerOn, ← hp]
  unfold takeIn
  rw [holdIfWanted_same]
  · rwa [hrecord] at hin
  · exact .inr fun b hub => hb b ((busOnly_batch h).symm.trans hub)

/-! ## The hire closed -/

theorem findCard_modCard (id : Nat) (f : Card → Card) (hf : ∀ c, (f c).id = c.id) (h : findCard id s = some c) :
    findCard id (modCard id f s) = some (f c) := by
  have hfind : s.cards.find? ((fun x => x.id == id) ∘ fun x => if x.id == id then f x else x) = some c := by
    rw [← h]
    refine congrArg (s.cards.find? ·) (funext fun x => ?_)
    dsimp only [Function.comp]
    split
    · rw [hf]
    · rfl
  have hmap := List.find?_map (l := s.cards) (p := fun x => x.id == id) (f := fun x => if x.id == id then f x else x)
  rw [hfind] at hmap
  refine hmap.trans ?_
  simp [(findCard_mem h).2]

/-- The cards once a hire has been settled at a charge (R74). -/
def settledCards (r : Hire) (F : Nat) (s : State) : List Card :=
  s.cards.map fun x => if x.id = r.card then
    { x with held := x.held - r.holdAmount, balance := max (x.balance - F) (-99999), openCount := x.openCount - 1,
             lastUse := s.clock.minute } else x

/-- A hire is closed at a charge that leaves the balance at 0 or above: its record goes, its card is settled, and
HIRE_CLOSE is journaled (R74, R92, R94). -/
theorem closeHire_paid {m : Nat} (place : Place) (hc : findCard r.card s = some c) (hF : (hireCharge r m : Int) ≤ c.balance) :
    closeHire r m place s = enterRecord (.hireClose r.number r.card r.bike place (hireDuration r m) (hireCharge r m)
        (c.balance - hireCharge r m))
      (writeMoney (s.hires.filter fun x => x.number != r.number) (settledCards r (hireCharge r m) s) s) := by
  have hwritten : dropHire r.number (settle r.card r.holdAmount (hireCharge r m) s) =
      writeMoney (s.hires.filter fun x => x.number != r.number) (settledCards r (hireCharge r m) s) s := by
    unfold settledCards
    simp only [dropHire, settle, modCard, beq_iff_eq]
    rfl
  have hcard : findCard r.card (dropHire r.number (settle r.card r.holdAmount (hireCharge r m) s)) = some { c with
      held := c.held - r.holdAmount, balance := c.balance - hireCharge r m, openCount := c.openCount - 1,
      lastUse := s.now } := by
    have hsettled : settledBalance c.balance (hireCharge r m) = c.balance - hireCharge r m :=
      max_eq_left (by simp only [Config.balanceLow]; omega)
    rw [← hsettled]
    exact findCard_modCard r.card _ (fun _ => rfl) hc
  have hstays (e : Entry) (t : State) (ht : findCard r.card t = some { c with
      held := c.held - r.holdAmount, balance := c.balance - hireCharge r m, openCount := c.openCount - 1,
      lastUse := s.now }) : blockIfNegative r.card (enterRecord e t) = enterRecord e t := by
    have hsame : findCard r.card (enterRecord e t) = findCard r.card t := by
      unfold findCard
      rw [enterRecord_cards]
    unfold blockIfNegative
    rw [hsame, ht]
    exact if_neg fun hlow => by have := hlow.1; dsimp only at this; omega
  unfold closeHire
  dsimp only
  rw [hstays _ _ hcard, balanceOf, hcard, hwritten]

theorem openHireOf_bike (h : openHireOf T s = some r) : r.bike = T := by
  have := List.find?_some h
  simp only [Bool.and_eq_true, beq_iff_eq] at this
  exact this.1

theorem closeBikeHire_none (h : openHireOf T s = none) : closeBikeHire T d s = (s, none) := by
  unfold closeBikeHire
  rw [h]

theorem closeBikeHire_some (h : openHireOf T s = some r) :
    closeBikeHire T d s = (closeHire r s.now (.dock d) s, some (r.number, hireCharge r s.now)) := by
  unfold closeBikeHire
  rw [h]

/-! ## The arrival accepted -/

theorem reservationAside_same (h : (s.dock d).state ≠ .reserved ∨ (s.dock d).reserved = false) (delivery : Bool) :
    reservationAside d delivery s = s := by
  unfold reservationAside
  refine if_neg ?_
  rcases h with h | h <;> simp [h]

/-- A rider return of a bike that has no hire (R56). -/
def returnedForeign (d T : Nat) (s : State) : State :=
  raise (.returnDone d 0 0) (enterRecord (.returnForeign T d) (docked d T s))

/-- A rider return that closes a hire at a charge (R56, R93). -/
def returnedHire (d T : Nat) (r : Hire) (c : Card) (s : State) : State :=
  raise (.returnDone d r.number (hireCharge r s.now))
    (enterRecord (.hireClose r.number r.card T (.dock d) (hireDuration r s.now) (hireCharge r s.now)
        (c.balance - hireCharge r s.now))
      (writeMoney (s.hires.filter fun x => x.number != r.number) (settledCards r (hireCharge r s.now) s) (docked d T s)))

section
variable (hd : d < 64) (h : BusOnly s (reservationAside d false (clearElsewhere d T u)))
  (hp : (s.dock d).retirePending = false) (hT : T ≠ 0) (hb : ∀ b, s.batch = some b → b.kind = .deliver)
include hd h hp hT hb

theorem busOnly_acceptArrival_foreign (hopen : openHireOf T s = none) :
    BusOnly (returnedForeign d T s) (acceptArrival d T .standard false u) := by
  have hin := busOnly_takeIn h hp hT hb
  have hnone : openHireOf T (takeIn d T .standard (reservationAside d false (clearElsewhere d T u))) = none :=
    (busOnly_read hin (openHireOf T) fun _ _ _ => rfl).trans hopen
  rw [acceptArrival_eq, closeBikeHire_none hnone]
  refine busOnly_applyPending ((hin.enter (.returnForeign T d)).tell (.returnDone d 0 0)) ?_
  unfold returnedForeign
  rw [raise_dock, enterRecord_dock, docked, dock_setDock_self hd]
  rfl

theorem busOnly_acceptArrival_hire (hopen : openHireOf T s = some r) (hc : findCard r.card s = some c)
    (hF : (hireCharge r s.now : Int) ≤ c.balance) :
    BusOnly (returnedHire d T r c s) (acceptArrival d T .standard false u) := by
  have hin := busOnly_takeIn h hp hT hb
  obtain rfl := openHireOf_bike hopen
  generalize hv : takeIn d r.bike .standard (reservationAside d false (clearElsewhere d r.bike u)) = v at hin
  have hnow : v.now = s.now := busOnly_read hin State.now fun _ _ _ => rfl
  have hsome : openHireOf r.bike v = some r := (busOnly_read hin (openHireOf r.bike) fun _ _ _ => rfl).trans hopen
  have hcard : findCard r.card v = some c := (busOnly_read hin (findCard r.card) fun _ _ _ => rfl).trans hc
  have hclose := closeHire_paid (.dock d) hcard (hnow.symm ▸ hF)
  have hmoney : settledCards r (hireCharge r s.now) v = settledCards r (hireCharge r s.now) s :=
    busOnly_read hin (settledCards r (hireCharge r s.now)) fun _ _ _ => rfl
  have hhires : v.hires = s.hires := busOnly_read hin State.hires fun _ _ _ => rfl
  rw [hnow, hmoney, hhires] at hclose
  rw [acceptArrival_eq, hv, closeBikeHire_some hsome, hnow, hclose]
  refine busOnly_applyPending (((hin.map (writeMoney _ _) fun _ _ _ => rfl).enter _).tell _) ?_
  unfold returnedHire
  rw [raise_dock, enterRecord_dock]
  change ((docked d r.bike s).dock d).retirePending = false
  rw [docked, dock_setDock_self hd]
  rfl

end

end Sys2Proof.Machine
end

section
/-! PROOFS. Arrivals at a dock that is free: a rider return, a bike recorded at another dock (R6), a delivery (R109,
R110). -/

namespace Sys2Proof.Machine

variable {d e T : Nat} {s t u v : State} {k : BikeKind} {r : Hire} {c : Card} {b : Batch} {kind : Byte}

/-! ## The arrival by its dock (R54) -/

theorem byteKind_standard (h : kind ≠ 1#8) : byteKind kind = .standard := by simp [byteKind, kindByteElectric, h]

theorem HandedOn.dock (h : HandedOn s u) (e : Nat) : u.dock e = s.dock e := by
  obtain ⟨b, rfl, -, -⟩ := h
  rfl

theorem HandedOn.read {α : Type} (h : HandedOn s u) (f : State → α) (hf : ∀ (v : State) (b : Bus), f { v with bus := b } = f v) :
    f u = f s := by
  obtain ⟨b, rfl, -, -⟩ := h
  exact hf s b

theorem arrive_free (h : (s.dock d).state = .vacant ∨ (s.dock d).state = .reserved) : arrive d T k s = arriveFree d T k s := by
  rcases h with h | h <;> simp [arrive, arriveSettled, h]

theorem isDelivery_noBatch (h : s.batch = none) (d T : Nat) : isDelivery d T s = false := by simp [isDelivery, h]

theorem reservationLost_none (h : (s.dock d).state ≠ .reserved) : reservationLost d s = s := if_neg h

/-- An arrival that is no delivery, where rider returns are taken, is accepted (R54, R56). -/
theorem arriveFree_accepts (hdel : isDelivery d T s = false) (hret : returnAllowed d (reservationLost d s) = true) (hT : T ≠ 0) :
    arriveFree d T k s = acceptArrival d T k false (reservationLost d s) := by
  rw [arriveFree_eq, if_neg (by simp [hdel]), if_pos hret, if_neg hT]

/-- Where no tag was read it enters identification (R59). -/
theorem arriveFree_latches (hdel : isDelivery d 0 s = false) (hret : returnAllowed d (reservationLost d s) = true) :
    arriveFree d 0 k s = enterLatching d (reservationLost d s) := by
  rw [arriveFree_eq, if_neg (by simp [hdel]), if_pos hret, if_pos rfl]

/-- Where rider returns are not taken it is refused (R57). -/
theorem arriveFree_refuses (hdel : isDelivery d T s = false) (hret : returnAllowed d (reservationLost d s) = false) :
    arriveFree d T k s = refuseArrival d (reservationLost d s) := by
  rw [arriveFree_eq, if_neg (by simp [hdel]), if_neg (by simp [hret])]

/-- An arrival with a tag at a VACANT dock with no batch open (R54). -/
theorem arrive_vacant_accepts (h : HandedOn s u) (hs : (s.dock d).state = .vacant) (hb : s.batch = none)
    (hret : returnAllowed d s = true) (hT : T ≠ 0) (hkind : kind ≠ 1#8) :
    arrive d T (byteKind kind) u = acceptArrival d T .standard false u := by
  have hstate : (u.dock d).state = .vacant := by rw [h.dock, hs]
  have hlost : reservationLost d u = u := reservationLost_none (by simp [hstate])
  have hallowed : returnAllowed d u = true := (h.read (returnAllowed d) fun _ _ => rfl).trans hret
  rw [arrive_free (.inl hstate), byteKind_standard hkind,
    arriveFree_accepts (isDelivery_noBatch ((h.read State.batch fun _ _ => rfl).trans hb) d T) (hlost.symm ▸ hallowed) hT, hlost]

/-- R6 leaves a VACANT dock as it is, and no reservation is to be moved. -/
theorem busOnly_reservationAside (h : BusOnly s u) (hs : (s.dock d).state ≠ .reserved) (delivery : Bool) :
    BusOnly s (reservationAside d delivery u) := by
  rw [reservationAside_same (.inl ((busOnly_state h d).symm ▸ hs))]
  exact h

/-! ## A bike that another dock records (R6) -/

theorem recordedElsewhere_eq_some {x : Bike} (he : e < s.installed) (hne : e ≠ d) (hx : (s.dock e).bike = some x)
    (hid : x.id = some T) (honly : ∀ y, y < s.installed → y ≠ d → y ≠ e → (s.dock y).bike.bind Bike.id ≠ some T) :
    recordedElsewhere d T s = some e := by
  cases hfound : recordedElsewhere d T s with
  | none =>
    have := List.find?_eq_none.mp hfound e (List.mem_range.mpr he)
    simp [hne, hx, hid] at this
  | some y =>
    have hy := List.mem_range.mp (List.mem_of_find?_eq_some hfound)
    have htest := List.find?_some hfound
    simp only [Bool.and_eq_true, bne_iff_ne] at htest
    by_contra hye
    exact honly y hy htest.1 (fun h => hye (by rw [h])) ((records_iff y T s).mp htest.2)

/-- The record of a dock whose bike has lost its id (R6). -/
def namelessRecord (k : Dock) : Dock := { k with bike := k.bike.map Bike.anonymous }

/-- A HELD or CLAIMED dock loses the id of its bike, with a report (R6, R124). -/
theorem busOnly_clearElsewhere_held (he : e < 64) (h : BusOnly s u) (hrec : recordedElsewhere d T u = some e)
    (hs : (s.dock e).state = .held ∨ (s.dock e).state = .claimed) (hmask : masked .auditMismatch s = false)
    (hn : (s.dock e).faultCount + 1 < s.settings.dockThreshold) (h15 : (s.dock e).faultCount + 1 ≤ 15) :
    BusOnly (reported e .auditMismatch ((s.dock e).faultCount + 1) (modDock e namelessRecord s)) (clearElsewhere d T u) := by
  have hcount : ((modDock e namelessRecord s).dock e).faultCount = (s.dock e).faultCount := by rw [dock_modDock_self he]; rfl
  have hclear : clearElsewhere d T u = reportDock e .auditMismatch false (modDock e namelessRecord u) := by
    rw [clearElsewhere, hrec]
    rcases hs with hs | hs <;> simp only [(busOnly_state h e).trans hs] <;> rfl
  rw [hclear, ← hcount]
  exact busOnly_reportBelow (busOnly_modDock h namelessRecord (fun _ => rfl) e) hmask (hcount.symm ▸ hn) (hcount.symm ▸ h15)

theorem busOnly_clearElsewhere_retired (h : BusOnly s u) (hrec : recordedElsewhere d T u = some e)
    (hs : (s.dock e).state = .retired) : BusOnly (modDock e namelessRecord s) (clearElsewhere d T u) := by
  have hclear : clearElsewhere d T u = modDock e namelessRecord u := by
    rw [clearElsewhere, hrec]
    simp only [(busOnly_state h e).trans hs]
    rfl
  rw [hclear]
  exact busOnly_modDock h namelessRecord (fun _ => rfl) e

/-- At a dock that releases it for a hire the pull is taken (R6, R48). -/
theorem busOnly_clearElsewhere_releasing (h : BusOnly s u) (hrec : recordedElsewhere d T u = some e)
    (hs : (s.dock e).state = .releasing) (ho : (s.dock e).owner = some (.hire r.number))
    (hp : (s.dock e).retirePending = false) (hb : s.batch = none) (hr : findHire r.number s = some r) :
    BusOnly (pulled e r s) (clearElsewhere d T u) := by
  have hclear : clearElsewhere d T u = pull e u := by
    rw [clearElsewhere, hrec]
    simp only [(busOnly_state h e).trans hs]
  rw [hclear]
  exact busOnly_pull_hire h ho hp hb hr

/-! ## The hire that a pull has just started -/

/-- A hire that becomes OUT is the one that the return of its bike finds (R85). -/
theorem openHireOf_hireOut (hr : findHire r.number s = some r) (hone : ∀ x ∈ s.hires, x.number = r.number → x = r)
    (hopen : openHireOf r.bike s = none) : openHireOf r.bike (hireOut r.number s) = some (r.out s.now) := by
  have hmem := (findHire_mem hr).1
  cases hfound : openHireOf r.bike (hireOut r.number s) with
  | none =>
    have hout : r.out s.now ∈ (hireOut r.number s).hires := List.mem_map.mpr ⟨r, hmem, if_pos (by simp)⟩
    have := List.find?_eq_none.mp hfound _ hout
    simp [Hire.out] at this
  | some y =>
    obtain ⟨x, hx, hxy⟩ := List.mem_map.mp (List.mem_of_find?_eq_some hfound)
    have htest := List.find?_some hfound
    by_cases hnum : x.number = r.number
    · obtain rfl := hone x hx hnum
      rw [if_pos (by simp)] at hxy
      rw [← hxy]
      rfl
    · rw [if_neg (by simpa using hnum)] at hxy
      subst hxy
      exact absurd htest (List.find?_eq_none.mp hopen x hx)

/-- A hire closed in the minute of its start costs nothing (R92). -/
theorem hireDuration_out (r : Hire) (m : Nat) : hireDuration (r.out m) m = 0 := by simp [hireDuration, Hire.out]

theorem charge_zero (t : Terms) (k : BikeKind) : charge t k 0 = 0 := by
  simp [charge, cappedCharge, chargeUnits]

theorem hireCharge_out (r : Hire) (m : Nat) : hireCharge (r.out m) m = 0 := by
  unfold hireCharge
  rw [hireDuration_out, charge_zero]

end Sys2Proof.Machine
end

section
/-! PROOFS. A pull and a return in one arrival (R6, R56), and deliveries (R109, R110). -/

namespace Sys2Proof.Machine

variable {d e T : Nat} {s t u v : State} {k : BikeKind} {r : Hire} {c : Card} {b : Batch}

/-! ## What has happened at another dock first -/

theorem docked_after (hdock : v.dock d = s.dock d) (hnow : v.now = s.now) (T : Nat) :
    docked d T v = setDock d (dockedRecord T s.now (s.dock d)) v := by
  unfold docked
  rw [hdock, hnow]

theorem filter_out (n m : Nat) (l : List Hire) :
    (l.map fun x => if x.number == n then x.out m else x).filter (fun x => x.number != n) = l.filter fun x => x.number != n := by
  have hsame (x : Hire) : (if x.number == n then x.out m else x).number = x.number := by split <;> rfl
  induction l with
  | nil => rfl
  | cons x l ih =>
    rw [List.map_cons, List.filter_cons, List.filter_cons, ih, hsame]
    by_cases hx : x.number = n <;> simp [hx]

/-- The record of one dock, the hires and the cards written. -/
def writeReturn (d : Nat) (k : Dock) (hires : List Hire) (cards : List Card) (s : State) : State :=
  writeMoney hires cards (setDock d k s)

theorem unheard_writeReturn (d : Nat) (k : Dock) (hires : List Hire) (cards : List Card) :
    Unheard (writeReturn d k hires cards) := (unheard_writeMoney hires cards).comp (unheard_modDock d fun _ => k)

/-- The arrival that closes the hire its own pull has started: the two in the order of their journal records, with the
hire gone and the card settled at no charge (R48, R56). -/
theorem returnedHire_pulled (hne : e ≠ d) (r : Hire) (c : Card) (s : State) :
    returnedHire d r.bike (r.out s.now) c (pulled e r s) =
      raise (.returnDone d r.number 0) (enterRecord (.hireClose r.number r.card r.bike (.dock d) 0 0 c.balance)
        (raise (.bikeTaken e r.number) (enterRecord (.hireStart r.number r.card r.bike e)
          (writeMoney (s.hires.filter fun x => x.number != r.number) (settledCards r 0 s)
            (setDock d (dockedRecord r.bike s.now (s.dock d)) (setDock e (vacantRecord (s.dock e)) s)))))) := by
  have hnow : (pulled e r s).now = s.now := by simp only [pulled, State.now, raise_clock, enterRecord_clock]; rfl
  have hdock : (pulled e r s).dock d = s.dock d := by
    rw [pulled, raise_dock, enterRecord_dock]
    exact dock_modDock_other hne vacantRecord _
  have hhires : (pulled e r s).hires.filter (fun x => x.number != r.number) = s.hires.filter fun x => x.number != r.number := by
    rw [pulled, raise_hires, enterRecord_hires]
    exact filter_out r.number s.now s.hires
  have hcards : settledCards (r.out s.now) 0 (pulled e r s) = settledCards r 0 s := by
    unfold settledCards pulled
    rw [raise_cards, enterRecord_cards, raise_clock, enterRecord_clock]
    rfl
  have hreturn := unheard_writeReturn d (dockedRecord r.bike s.now (s.dock d)) (s.hires.filter fun x => x.number != r.number)
    (settledCards r 0 s)
  unfold returnedHire
  rw [hnow, hireDuration_out, hireCharge_out, docked_after hdock hnow, hcards, Nat.cast_zero, sub_zero]
  change raise _ (enterRecord _ (writeMoney ((pulled e r s).hires.filter fun x => x.number != r.number) _ _)) = _
  rw [hhires]
  change raise _ (enterRecord _ (writeReturn d (dockedRecord r.bike s.now (s.dock d))
    (s.hires.filter fun x => x.number != r.number) (settledCards r 0 s) (pulled e r s))) = _
  rw [pulled, hreturn.raised, hreturn.entered]
  rfl

/-! ## A delivery -/

/-- The batch with bike `T` delivered and its idle timer restarted (R110, R117). -/
def Batch.delivered (b : Batch) (T idle : Nat) : Batch :=
  { b with
    manifest := b.manifest.map fun m => if m.bike = T then { m with done := true } else m
    done := min (b.done + 1) 255, idle := 60 * idle, expiryWaiting := false }

/-- The batch and the idle timer after the delivery of bike `T`. -/
def delivering (b : Batch) (T : Nat) (s : State) : State :=
  { s with batch := some (b.delivered T s.settings.batchIdle), due := { s.due with idle := false } }

/-- A delivery before a surplus reservation is given back: journaled and told (R110). -/
def deliveryTold (b : Batch) (d T : Nat) (s : State) : State :=
  raise (.batchProgress (min (b.done + 1) 255)) (enterRecord (.bikeDelivered T d b.crew) (delivering b T s))

theorem deliver_told (hb : s.batch = some b) (d T : Nat) : deliver d T s = giveBackSurplus (deliveryTold b d T s) := by
  have hmarked : modBatch (Batch.markDone T) s = { s with batch := some (b.markDone T) } := by
    unfold modBatch
    rw [hb]
    rfl
  have hidle : restartIdle { s with batch := some (b.markDone T) } = delivering b T s := by
    unfold delivering Batch.delivered
    simp only [restartIdle, modBatch, Batch.markDone, beq_iff_eq]
    rfl
  unfold deliver deliveryTold
  dsimp only
  rw [hmarked, unheard_restartIdle.raised, unheard_restartIdle.entered, hidle, doneCount, enterRecord_batch]
  rfl

theorem busOnly_reservedDocks (h : BusOnly s u) : reservedDocks u = reservedDocks s := by
  have hinstalled : u.installedDocks = s.installedDocks := busOnly_read h State.installedDocks fun _ _ _ => rfl
  unfold reservedDocks
  rw [hinstalled]
  refine List.filter_congr fun e _ => ?_
  rw [busOnly_state h e, busOnly_dock h Dock.reserved (fun _ => rfl) e]

theorem giveBackSurplus_none (hb : s.batch = some b) (h : (reservedDocks s).length ≤ b.pendingCount) : giveBackSurplus s = s := by
  unfold giveBackSurplus
  rw [hb]
  exact if_neg (Nat.not_lt.mpr h)

theorem giveBackSurplus_some (hb : s.batch = some b) (h : b.pendingCount < (reservedDocks s).length)
    (he : (reservedDocks s).getLast? = some e) : giveBackSurplus s = giveBack e s := by
  unfold giveBackSurplus
  rw [hb]
  dsimp only
  rw [if_pos h, he]

theorem giveBackSurplus_cases (s : State) : giveBackSurplus s = s ∨ ∃ e, giveBackSurplus s = giveBack e s := by
  unfold giveBackSurplus
  split
  · split
    · split
      · exact .inr ⟨_, rfl⟩
      · exact .inl rfl
    · exact .inl rfl
  · exact .inl rfl

theorem busOnly_giveBackSurplus (h : BusOnly s u) : BusOnly (giveBackSurplus s) (giveBackSurplus u) := by
  unfold giveBackSurplus
  rw [busOnly_batch h, busOnly_reservedDocks h]
  split
  · split
    · split
      · exact busOnly_modDock h (fun k => { k with state := .vacant, reserved := false }) (fun _ => rfl) _
      · exact h
    · exact h
  · exact h

/-- The highest number of a range that passes a test is the last that the filter leaves. -/
theorem getLast?_filter_range {n : Nat} {p : Nat → Bool} (he : e < n) (hp : p e = true) (hmax : ∀ x, x < n → p x = true → x ≤ e) :
    ((List.range n).filter p).getLast? = some e := by
  induction n with
  | zero => cases he
  | succ n ih =>
    rw [List.range_succ, List.filter_append]
    by_cases hn : p n = true
    · have hen : n ≤ e := hmax n (Nat.lt_succ_self n) hn
      obtain rfl : e = n := by omega
      simp [hp]
    · have hne : e ≠ n := fun h => hn (h ▸ hp)
      simp only [List.filter_cons, hn, Bool.false_eq_true, if_false, List.filter_nil, List.append_nil]
      exact ih (by omega) fun x hx => hmax x (by omega)

/-- The docks that are RESERVED once bike `T` stands in dock `d`. -/
theorem reservedDocks_delivery (hd : d < 64) (b : Batch) (T : Nat) (s : State) :
    reservedDocks (deliveryTold b d T (docked d T s)) =
      (List.range s.installed).filter fun e => e != d && (s.dock e).state == .reserved && (s.dock e).reserved := by
  have hdock (e : Nat) : (deliveryTold b d T (docked d T s)).dock e = (docked d T s).dock e := by
    rw [deliveryTold, raise_dock, enterRecord_dock]
    rfl
  have hinstalled : (deliveryTold b d T (docked d T s)).installedDocks = List.range s.installed := by
    rw [State.installedDocks, deliveryTold, raise_installed, enterRecord_installed]
    rfl
  unfold reservedDocks
  rw [hinstalled]
  refine List.filter_congr fun e _ => ?_
  rw [hdock, docked, dock_setDock hd]
  by_cases hde : d = e
  · simp [hde, dockedRecord]
  · simp [hde, bne_iff_ne.mpr (Ne.symm hde)]

/-- An arrival accepted as a delivery (R110). -/
theorem busOnly_acceptArrival_delivery (hd : d < 64) (h : BusOnly s (clearElsewhere d T u))
    (hp : (s.dock d).retirePending = false) (hT : T ≠ 0) (hb : s.batch = some b) (hk : b.kind = .deliver)
    (hopen : openHireOf T s = none) :
    BusOnly (giveBackSurplus (deliveryTold b d T (docked d T s))) (acceptArrival d T .standard true u) := by
  have hin := busOnly_takeIn (T := T) h hp hT fun x hx => by cases hb.symm.trans hx; exact hk
  have hnone : openHireOf T (takeIn d T .standard (clearElsewhere d T u)) = none :=
    (busOnly_read hin (openHireOf T) fun _ _ _ => rfl).trans hopen
  have hbatch : (takeIn d T .standard (clearElsewhere d T u)).batch = some b := (busOnly_batch hin).trans hb
  have htell : tellArrival d T true (takeIn d T .standard (clearElsewhere d T u), none) =
      giveBackSurplus (deliveryTold b d T (takeIn d T .standard (clearElsewhere d T u))) := by
    unfold tellArrival
    rw [if_pos (by simp [hbatch]), deliver_told hbatch]
  have haside : reservationAside d true (clearElsewhere d T u) = clearElsewhere d T u := if_neg (by simp)
  rw [acceptArrival_eq, haside, closeBikeHire_none hnone, htell]
  refine busOnly_applyPending (busOnly_giveBackSurplus (((hin.map (delivering b T) fun _ _ _ => rfl).enter _).tell _)) ?_
  have htold : ((deliveryTold b d T (docked d T s)).dock d).retirePending = false := by
    rw [deliveryTold, raise_dock, enterRecord_dock]
    change ((docked d T s).dock d).retirePending = false
    rw [docked, dock_setDock_self hd]
    rfl
  change ((giveBackSurplus (deliveryTold b d T (docked d T s))).dock d).retirePending = false
  rcases giveBackSurplus_cases (deliveryTold b d T (docked d T s)) with hsame | ⟨e, hback⟩
  · rw [hsame, htold]
  · rw [hback]
    rcases dock_modDock_or e (fun k => { k with state := .vacant, reserved := false }) (deliveryTold b d T (docked d T s)) d
      with hkeep | ⟨-, hkeep⟩ <;> exact (congrArg Dock.retirePending hkeep).trans htold

end Sys2Proof.Machine
end

section
/-! PROOFS. The statement of arrivals that are accepted. -/

namespace Sys2Proof.Machine

variable {d e T : Nat} {s t u v : State} {r : Hire} {c : Card} {b : Batch} {x : Bike}

theorem busOnly_nowhere_clear (h : BusOnly s u) (hn : Nowhere d T s) : BusOnly s (clearElsewhere d T u) := by
  rw [clearElsewhere_nowhere (busOnly_nowhere h hn)]
  exact h

/-! ## A bike recorded at another dock -/

/-- A bike that has lost its id, and with it what was known of it (R6). -/
def Bike.nameless (x : Bike) : Bike := { x with id := none, kind := .standard, charge := none, sense := none }

theorem nameless_written (hx : (s.dock e).bike = some x) :
    modDock e namelessRecord s = setDock e { s.dock e with bike := some x.nameless } s := by
  refine modDock_congr (g := fun _ => _) ?_
  unfold namelessRecord
  rw [hx]
  rfl

theorem reported_nameless (he : e < 64) (hx : (s.dock e).bike = some x) (c : Category) (n : Nat) :
    reported e c n (modDock e namelessRecord s) =
      enterRecord (.dockFault e c n) (setDock e { s.dock e with bike := some x.nameless, faultCount := n } s) := by
  rw [nameless_written hx, reported, modDock, dock_setDock_self he, setDock_setDock]

/-- What R6 does at another dock leaves the VACANT dock of the arrival free to take the bike. -/
theorem busOnly_foreign_after (hd : d < 64) (h : BusOnly v (clearElsewhere d T u)) (hdock : v.dock d = s.dock d)
    (hnow : v.now = s.now) (hs : (s.dock d).state = .vacant) (hp : (s.dock d).retirePending = false) (hT : T ≠ 0)
    (hb : v.batch = none) (hopen : openHireOf T v = none) :
    BusOnly (raise (.returnDone d 0 0) (enterRecord (.returnForeign T d) (setDock d (dockedRecord T s.now (s.dock d)) v)))
      (acceptArrival d T .standard false u) := by
  have haside := busOnly_reservationAside h (d := d) (by simp [hdock, hs]) false
  have hact := busOnly_acceptArrival_foreign hd haside (by rw [hdock, hp]) hT (fun b hvb => by cases hb.symm.trans hvb) hopen
  rwa [returnedForeign, docked_after hdock hnow] at hact

section
variable (hd : d < 64) (hu : HandedOn s u) (hne : e ≠ d) (hrec : recordedElsewhere d T u = some e)
  (hs : (s.dock d).state = .vacant) (hp : (s.dock d).retirePending = false) (hb : s.batch = none) (hT : T ≠ 0)
  (hopen : openHireOf T s = none)
include hd hu hne hrec hs hp hb hT hopen

/-- The arrival of a bike that a HELD or CLAIMED dock records (R6). -/
theorem busOnly_foreign_after_held (he : e < 64) (hx : (s.dock e).bike = some x)
    (hse : (s.dock e).state = .held ∨ (s.dock e).state = .claimed) (hmask : masked .auditMismatch s = false)
    (hn : (s.dock e).faultCount + 1 < s.settings.dockThreshold) (h15 : (s.dock e).faultCount + 1 ≤ 15) :
    BusOnly (raise (.returnDone d 0 0) (enterRecord (.returnForeign T d) (setDock d (dockedRecord T s.now (s.dock d))
      (enterRecord (.dockFault e .auditMismatch ((s.dock e).faultCount + 1))
        (setDock e { s.dock e with bike := some x.nameless, faultCount := (s.dock e).faultCount + 1 } s)))))
      (acceptArrival d T .standard false u) := by
  have hclear := busOnly_clearElsewhere_held he hu.busOnly hrec hse hmask hn h15
  rw [reported_nameless he hx] at hclear
  refine busOnly_foreign_after hd hclear ?_ ?_ hs hp hT ?_ ?_
  · rw [enterRecord_dock, dock_setDock_other hne]
  · rw [State.now, enterRecord_clock]
    rfl
  · rw [enterRecord_batch]
    exact hb
  · unfold openHireOf
    rw [enterRecord_hires]
    exact hopen

/-- The arrival of a bike that a RETIRED dock records (R6). -/
theorem busOnly_foreign_after_retired (hx : (s.dock e).bike = some x) (hse : (s.dock e).state = .retired) :
    BusOnly (raise (.returnDone d 0 0) (enterRecord (.returnForeign T d) (setDock d (dockedRecord T s.now (s.dock d))
      (setDock e { s.dock e with bike := some x.nameless } s)))) (acceptArrival d T .standard false u) := by
  have hclear := busOnly_clearElsewhere_retired hu.busOnly hrec hse
  rw [nameless_written hx] at hclear
  exact busOnly_foreign_after hd hclear (dock_setDock_other hne _ s) rfl hs hp hT hb hopen

end

theorem openHireOf_pulled (e : Nat) (r : Hire) (s : State) (T : Nat) :
    openHireOf T (pulled e r s) = openHireOf T (hireOut r.number s) := by
  unfold openHireOf pulled
  rw [raise_hires, enterRecord_hires]
  rfl

/-- The arrival of a bike that a dock still releases for a hire: the pull, and the return that closes the hire at no
charge (R48, R56). -/
theorem busOnly_return_pulled (hd : d < 64) (hu : HandedOn s u) (hne : e ≠ d) (hrec : recordedElsewhere d r.bike u = some e)
    (hs : (s.dock d).state = .vacant) (hp : (s.dock d).retirePending = false) (hb : s.batch = none) (hT : r.bike ≠ 0)
    (hopen : openHireOf r.bike s = none) (hse : (s.dock e).state = .releasing) (ho : (s.dock e).owner = some (.hire r.number))
    (hpe : (s.dock e).retirePending = false) (hr : findHire r.number s = some r)
    (hone : ∀ x ∈ s.hires, x.number = r.number → x = r) (hc : findCard r.card s = some c) (hbal : 0 ≤ c.balance) :
    BusOnly (returnedHire d r.bike (r.out s.now) c (pulled e r s)) (acceptArrival d r.bike .standard false u) := by
  have hclear := busOnly_clearElsewhere_releasing hu.busOnly hrec hse ho hpe hb hr
  have hdock : (pulled e r s).dock d = s.dock d := by
    rw [pulled, raise_dock, enterRecord_dock]
    exact dock_modDock_other hne vacantRecord _
  have hnow : (pulled e r s).now = s.now := by simp only [pulled, State.now, raise_clock, enterRecord_clock]; rfl
  have hbatch : (pulled e r s).batch = none := by
    rw [pulled, raise_batch, enterRecord_batch]
    exact hb
  have hcard : findCard (r.out s.now).card (pulled e r s) = some c := by
    unfold findCard pulled
    rw [raise_cards, enterRecord_cards]
    exact hc
  refine busOnly_acceptArrival_hire hd (busOnly_reservationAside hclear (by simp [hdock, hs]) false) (by rw [hdock, hp]) hT
    (fun b hvb => by cases hbatch.symm.trans hvb) ?_ hcard ?_
  · rw [openHireOf_pulled]
    exact openHireOf_hireOut hr hone hopen
  · rw [hnow, hireCharge_out]
    exact_mod_cast hbal

/-! ## A delivery -/

theorem isDelivery_pending (hb : s.batch = some b) (hk : b.kind = .deliver) (hT : T ≠ 0)
    (hwanted : ∃ m ∈ b.manifest, m.bike = T ∧ m.done = false)
    (hplace : (s.dock d).state = .reserved ∨ ((s.dock d).state = .vacant ∧ (effective d s).cls ≠ .closed)) :
    isDelivery d T s = true := by
  obtain ⟨m, hm, hmT, hmd⟩ := hwanted
  have hpending : b.manifest.any (fun m => !m.done && m.bike == T) = true := List.any_eq_true.mpr ⟨m, hm, by simp [hmT, hmd]⟩
  unfold isDelivery
  rw [hb]
  dsimp only
  rw [hpending, hk]
  rcases hplace with h | ⟨h, hcls⟩
  · simp [h, hT]
  · simp [h, hT, hcls]

/-- The arrival of a PENDING manifest bike is a delivery (R109, R110). -/
theorem busOnly_arrive_delivery {kind : Byte} (hd : d < 64) (hu : HandedOn s u) (hp : (s.dock d).retirePending = false)
    (hb : s.batch = some b) (hk : b.kind = .deliver) (hT : T ≠ 0) (hkind : kind ≠ 1#8)
    (hwanted : ∃ m ∈ b.manifest, m.bike = T ∧ m.done = false)
    (hplace : (s.dock d).state = .reserved ∨ ((s.dock d).state = .vacant ∧ (effective d s).cls ≠ .closed))
    (hn : Nowhere d T s) (hopen : openHireOf T s = none) :
    BusOnly (giveBackSurplus (deliveryTold b d T (docked d T s))) (arrive d T (byteKind kind) u) := by
  have hdel : isDelivery d T u = true :=
    (hu.read (isDelivery d T) fun _ _ => rfl).trans (isDelivery_pending hb hk hT hwanted hplace)
  have hfree : (u.dock d).state = .vacant ∨ (u.dock d).state = .reserved := by
    rw [hu.dock]
    exact hplace.elim .inr fun h => .inl h.1
  rw [arrive_free hfree, byteKind_standard hkind, arriveFree_eq, if_pos hdel]
  exact busOnly_acceptArrival_delivery hd (busOnly_nowhere_clear hu.busOnly hn) hp hT hb hk hopen

theorem deliveryTold_batch (b : Batch) (d T : Nat) (s : State) :
    (deliveryTold b d T s).batch = some (b.delivered T s.settings.batchIdle) := by
  rw [deliveryTold, raise_batch, enterRecord_batch]
  rfl

theorem giveBack_delivery (hne : e ≠ d) (b : Batch) (T : Nat) (s : State) :
    giveBack e (deliveryTold b d T (docked d T s)) =
      setDock e { s.dock e with state := .vacant, reserved := false } (deliveryTold b d T (docked d T s)) := by
  refine modDock_congr (g := fun _ => _) ?_
  have hdock : (deliveryTold b d T (docked d T s)).dock e = s.dock e := by
    rw [deliveryTold, raise_dock, enterRecord_dock]
    exact dock_setDock_other hne.symm _ s
  rw [hdock]

end Sys2Proof.Machine

namespace Sys2Proof.Settled

open Sys2Proof.Machine

/-- Settles O24: the rider return, after R6 at another dock where that applies, and the delivery. -/
theorem riderReturn : Obligations.RiderReturn := by
  refine ⟨?_, ?_, ?_⟩
  · intro s dock tag kind low d T docked hpoll hinst hd hs hp hb hret hT hkind hnowhere
    have hbatch : ∀ b, s.batch = some b → b.kind = .deliver := fun b h => by cases hb.symm.trans h
    have haside {u : State} (hu : HandedOn s u) : BusOnly s (reservationAside d false (clearElsewhere d T u)) :=
      busOnly_reservationAside (busOnly_nowhere_clear hu.busOnly hnowhere) (by simp [hs]) false
    refine ⟨?_, fun hopen => ?_⟩
    · intro r c hopen hc D F hF
      refine exec_inserted_of hpoll hinst fun u hu => ?_
      rw [arrive_vacant_accepts hu hs hb hret hT hkind]
      exact busOnly_acceptArrival_hire hd (haside hu) hp hT hbatch hopen hc hF
    · refine exec_inserted_of hpoll hinst fun u hu => ?_
      rw [arrive_vacant_accepts hu hs hb hret hT hkind]
      exact busOnly_acceptArrival_foreign hd (haside hu) hp hT hbatch hopen
  · intro s dock tag kind low e b d T n docked nameless foreign hpoll hinst hd hs hp hb hret hT hkind he he64 hne hbike hid
      honly hopen
    have hrec {u : State} (hu : HandedOn s u) : recordedElsewhere d T u = some e :=
      (hu.read (recordedElsewhere d T) fun _ _ => rfl).trans (recordedElsewhere_eq_some he hne hbike hid honly)
    refine ⟨?_, ?_, ?_⟩
    · intro hse hmask hn h15
      refine exec_inserted_of hpoll hinst fun u hu => ?_
      rw [arrive_vacant_accepts hu hs hb hret hT hkind]
      exact busOnly_foreign_after_held hd hu hne (hrec hu) hs hp hb hT hopen he64 hbike hse hmask hn h15
    · intro hse
      refine exec_inserted_of hpoll hinst fun u hu => ?_
      rw [arrive_vacant_accepts hu hs hb hret hT hkind]
      exact busOnly_foreign_after_retired hd hu hne (hrec hu) hs hp hb hT hopen hbike hse
    · intro h r c hse ho hpe hr hrT hone hc hbal
      refine exec_inserted_of hpoll hinst fun u hu => ?_
      obtain rfl := findHire_number hr
      rw [arrive_vacant_accepts hu hs hb hret hT hkind]
      have hact := busOnly_return_pulled hd hu hne (hrT.symm ▸ hrec hu) hs hp hb (hrT.symm ▸ hT) (hrT.symm ▸ hopen) hse ho hpe
        hr hone hc hbal
      rw [returnedHire_pulled hne, hrT] at hact
      simp only [settledCards, Nat.cast_zero, sub_zero] at hact
      exact hact
  · intro s dock tag kind low b d T after reservedNow count delivered hpoll hinst hd hp hb hk hT hkind hwanted hplace hnowhere
      hopen
    have hact (u : State) (hu : HandedOn s u) :=
      busOnly_arrive_delivery hd hu hp hb hk hT hkind hwanted hplace hnowhere hopen
    have hbatch : (deliveryTold b d T (Machine.docked d T s)).batch = some after := deliveryTold_batch b d T _
    have hcount : (reservedDocks (deliveryTold b d T (Machine.docked d T s))).length = count := by
      rw [reservedDocks_delivery hd, ← List.countP_eq_length_filter]
    refine ⟨fun hle => exec_inserted_of hpoll hinst fun u hu => ?_,
      fun e he64 hlt he hmax => exec_inserted_of hpoll hinst fun u hu => ?_⟩
    · have h := hact u hu
      rw [giveBackSurplus_none hbatch (hcount.le.trans hle)] at h
      exact h
    · have hlast : (reservedDocks (deliveryTold b d T (Machine.docked d T s))).getLast? = some e := by
        rw [reservedDocks_delivery hd]
        refine getLast?_filter_range he.1 (by simp [he.2.1, he.2.2]) fun x hx hrx => hmax x ?_
        simpa [reservedNow, hx, and_assoc] using hrx
      have h := hact u hu
      rw [giveBackSurplus_some hbatch (hlt.trans_eq hcount.symm) hlast, giveBack_delivery he.2.1] at h
      exact h

end Sys2Proof.Settled
end

section
/-! PROOFS. Arrivals that are refused or that enter identification (R57, R58, R59). -/

namespace Sys2Proof.Machine

variable {d e T : Nat} {s t u v : State} {dock : Byte}

theorem HandsFree.of_same (h : HandsFree d s) (hb : t.bus = s.bus) (ho : (t.dock d).owed = (s.dock d).owed) :
    HandsFree d t := by
  unfold HandsFree
  rwa [hb, ho]

/-- What is shown of the state an arrival makes, but for the bus, with a fact that the bus keeps as it goes on. -/
theorem exec_inserted_stays {v : State} {tag : BitVec 24} {kind : Byte} {low : Bool} {P : State → Prop}
    (hP : ∀ u, P u → P (moveOn u)) (h : pollInFlight s = true) (hd : dock.toNat < s.installed)
    (hact : ∀ u, HandedOn s u → P (arrive dock.toNat tag.toNat (byteKind kind) u) ∧
      BusOnly v (arrive dock.toNat tag.toNat (byteKind kind) u)) :
    ∃ t, exec (.inserted dock tag kind low) s = .next t ∧ P t ∧ BusOnly v t := by
  obtain ⟨u, hu, hrow⟩ := exec_inserted h hd tag kind low
  obtain ⟨hkept, hbus⟩ := hact u hu
  exact ⟨_, hrow, hP _ hkept, hbus.trans (moveOn_busOnly _)⟩

/-! ## The refusal (R57) -/

/-- The record of a dock that refuses an arrival (R57). -/
def rejectingRecord (k : Dock) : Dock := { vacantRecord k with state := .ejecting, phase := some .rejecting }

theorem busOnly_refuseArrival (hd : d < 64) (h : BusOnly s u) (hfree : HandsFree d u) (hp : (s.dock d).retirePending = false) :
    BusOnly (raise (.returnRefused d) (modDock d rejectingRecord s)) (refuseArrival d u) := by
  have hrecord : modDock d (fun k => { k.settled .ejecting none with vanHold := false, phase := some .rejecting }) s =
      modDock d rejectingRecord s := by
    refine modDock_congr ?_
    simp only [Dock.settled, rejectingRecord, vacantRecord, Dock.powerOn, hp]
  have hplaced := busOnly_modDock (h.trans (placeLock_busOnly ownReject ((nothingInHand_iff d u).mpr hfree)))
    (fun k => { k.settled .ejecting none with vanHold := false, phase := some .rejecting }) (fun _ => rfl) d
  rw [hrecord] at hplaced
  refine busOnly_applyPending (hplaced.tell (.returnRefused d)) ?_
  rw [raise_dock, dock_modDock_self hd]
  rfl

theorem stands_refuseArrival (hd : d < 64) (h : BusOnly s u) (hfree : HandsFree d u) (hp : (s.dock d).retirePending = false) :
    Stands ownReject d (refuseArrival d u) := by
  have hplaced := h.trans (placeLock_busOnly ownReject ((nothingInHand_iff d u).mpr hfree))
  unfold refuseArrival
  rw [applyPending_none]
  · refine (stands_placeLock hd ownReject hfree).of_same (by rw [raise_bus]; rfl) ?_
    rw [raise_dock, dock_modDock_self hd]
    rfl
  · rw [raise_dock, dock_modDock_self hd]
    exact (busOnly_retirePending hplaced d).trans hp

/-! ## The re-read (R59) -/

/-- The re-read of a LATCHING dock. -/
def reread (d : Nat) : Cmd := { kind := .status, dock := d, owner := .release, live := true }

/-- The record of a dock whose re-read has been placed (R59, R60). -/
def rereadRecord (k : Dock) : Dock :=
  if k.rereadAgain then { k with rereadAgain := false } else { k with identRetries := k.identRetries + 1 }

section
variable (hfree : HandsFree d u) (hroom : u.bus.queue.length < 16)
include hfree hroom

theorem tryReread_handsFree : tryReread d u =
    modDock d rereadRecord (kick (modBus (fun b => { b with queue := b.queue ++ [reread d] }) u)) := by
  unfold tryReread
  rw [placeQuiet_handsFree .status .release hfree hroom]
  rfl

theorem busOnly_tryReread (h : BusOnly s u) : BusOnly (modDock d rereadRecord s) (tryReread d u) := by
  rw [tryReread_handsFree hfree hroom]
  refine busOnly_modDock (h.trans ((modBus_busOnly _ u).trans (kick_busOnly _))) rereadRecord (fun k => ?_) d
  unfold rereadRecord
  cases hk : k.rereadAgain <;> simp [Dock.unowed, hk]

theorem placed_tryReread : Placed (reread d) (tryReread d u) := by
  rw [tryReread_handsFree hfree hroom]
  have hplaced : Placed (reread d) (modBus (fun b => { b with queue := b.queue ++ [reread d] }) u) :=
    .inl (List.mem_append_right _ List.mem_cons_self)
  exact (placed_kick hplaced).of_bus rfl

end

/-- The record of a dock with an unidentified bike whose first re-read has been placed (R59). -/
def latchingRecord (now : Nat) (k : Dock) : Dock :=
  { vacantRecord k with state := .latching, bike := some (arrivedBike none .standard now), identRetries := 1 }

/-- The record of a dock that has become LATCHING, before its first re-read (R59). -/
def enteredRecord (now : Nat) (k : Dock) : Dock :=
  { k.settled .latching (some (newBike 0 .standard now)) with vanHold := false }

theorem enterLatching_eq (d : Nat) (s : State) :
    enterLatching d s = applyPending d (tryReread d (modDock d (enteredRecord s.now) s)) := rfl

theorem latching_written (hd : d < 64) (hp : (s.dock d).retirePending = false) (now : Nat) :
    modDock d rereadRecord (modDock d (enteredRecord now) s) = modDock d (latchingRecord now) s := by
  rw [modDock_modDock hd]
  refine modDock_congr ?_
  simp [rereadRecord, enteredRecord, Dock.settled, latchingRecord, vacantRecord, Dock.powerOn, newBike, arrivedBike, hp]

theorem enterLatching_handsFree (hd : d < 64) (h : BusOnly s u) (hfree : HandsFree d u) (hroom : u.bus.queue.length < 16)
    (hp : (s.dock d).retirePending = false) :
    Placed (reread d) (enterLatching d u) ∧ BusOnly (modDock d (latchingRecord s.now) s) (enterLatching d u) := by
  have hnow : u.now = s.now := busOnly_read h State.now fun _ _ _ => rfl
  have hentered : HandsFree d (modDock d (enteredRecord s.now) u) :=
    hfree.of_same rfl (by rw [dock_modDock_self hd]; rfl)
  have hread := busOnly_tryReread hentered hroom (busOnly_modDock h (enteredRecord s.now) (fun _ => rfl) d)
  rw [latching_written hd hp] at hread
  have hpending : ((tryReread d (modDock d (enteredRecord s.now) u)).dock d).retirePending = false := by
    rw [busOnly_retirePending hread, dock_modDock_self hd]
    rfl
  rw [enterLatching_eq, hnow, applyPending_none hpending]
  exact ⟨placed_tryReread hentered hroom, hread⟩

/-! ## An arrival at a RETIRED dock (R58) -/

/-- The arrival repeats that of the bike that stands in the dock (R58). -/
def repeats (T : Nat) (bike : Option Bike) : Bool :=
  match bike with
  | some b => if T = 0 then b.id.isNone else b.id == some T
  | none => false

theorem arriveRetired_repeats (h : repeats T (s.dock d).bike = true) : arriveRetired d T s = s := if_pos h

theorem arriveRetired_empty (h : (s.dock d).bike = none) :
    arriveRetired d T s = raise (.returnRefused d) (placeLock retiredReject d s) := by
  unfold arriveRetired
  simp only [h]
  rfl

theorem arriveRetired_stranded {b : Bike} (h : (s.dock d).bike = some b) (hrep : repeats T (some b) = false) :
    arriveRetired d T s = enterRecord (.bikeMissing (b.id.getD 0) d)
      (modDock d (fun k => { k with bike := none }) (raise (.returnRefused d) (placeLock retiredReject d s))) := by
  unfold arriveRetired
  simp only [h]
  exact if_neg (ne_true_of_eq_false hrep)

theorem arrive_retired {k : BikeKind} (h : (s.dock d).state = .retired) : arrive d T k s = arriveRetired d T s := by
  simp [arrive, arriveSettled, h]

end Sys2Proof.Machine
end

section
/-! PROOFS. A reservation moved on (R111), and another bike at a HELD dock (R55). -/

namespace Sys2Proof.Machine

variable {d e T : Nat} {s t u v : State} {kind : BikeKind}

/-! ## The reservation moved (R111) -/

/-- Dock `d` has lost its reservation. -/
def unreserved (d : Nat) (s : State) : State := modDock d (fun k => { k with reserved := false }) s

theorem eligible_unreserved (hne : e ≠ d) (s : State) : eligible e (unreserved d s) = eligible e s := by
  have hdock : (unreserved d s).dock e = s.dock e := dock_modDock_other hne.symm _ s
  unfold eligible
  rw [hdock]
  rfl

/-- The test by which the next dock of a reservation is looked for. -/
theorem movable_iff (s : State) (e : Nat) : (e != d && eligible e (unreserved d s)) = true ↔ e ≠ d ∧ eligible e s = true := by
  rw [Bool.and_eq_true, bne_iff_ne]
  exact and_congr_right fun hne => by rw [eligible_unreserved hne]

theorem moveReservation_some (he : e < s.installed) (hne : e ≠ d) (hel : eligible e s = true)
    (hlow : ∀ x, x < e → x ≠ d → eligible x s = false) : moveReservation d s = reserve e (unreserved d s) := by
  have hfind : (unreserved d s).installedDocks.find? (fun x => x != d && eligible x (unreserved d s)) = some e := by
    refine List.find?_range_eq_some.mpr ⟨(movable_iff s e).mpr ⟨hne, hel⟩, List.mem_range.mpr he, fun x hx => ?_⟩
    rw [Bool.not_eq_true', Bool.eq_false_iff]
    intro hmov
    obtain ⟨hxd, hxe⟩ := (movable_iff s x).mp hmov
    cases (hlow x hx hxd).symm.trans hxe
  unfold moveReservation
  dsimp only
  rw [← unreserved, hfind]

theorem moveReservation_none (h : ∀ x, x < s.installed → x ≠ d → eligible x s = false) :
    moveReservation d s = unreserved d s := by
  have hfind : (unreserved d s).installedDocks.find? (fun x => x != d && eligible x (unreserved d s)) = none := by
    refine List.find?_eq_none.mpr fun x hx hmov => ?_
    obtain ⟨hne, hel⟩ := (movable_iff s x).mp hmov
    cases (h x (List.mem_range.mp hx) hne).symm.trans hel
  unfold moveReservation
  dsimp only
  rw [← unreserved, hfind]

theorem moveReservation_cases (d : Nat) (s : State) : moveReservation d s = unreserved d s ∨
    ∃ e, e ≠ d ∧ moveReservation d s = reserve e (unreserved d s) := by
  unfold moveReservation
  dsimp only
  split
  · rename_i e he
    have := List.find?_some he
    simp only [Bool.and_eq_true, bne_iff_ne] at this
    exact .inr ⟨e, this.1, rfl⟩
  · exact .inl rfl

theorem busOnly_moveReservation (h : BusOnly s u) (d : Nat) : BusOnly (moveReservation d s) (moveReservation d u) := by
  have hfirst : BusOnly (unreserved d s) (unreserved d u) := busOnly_modDock h _ (fun _ => rfl) d
  have hinstalled : (unreserved d u).installedDocks = (unreserved d s).installedDocks :=
    busOnly_read hfirst State.installedDocks fun _ _ _ => rfl
  have heligible (x : Nat) : eligible x (unreserved d u) = eligible x (unreserved d s) := by
    have heff : effective x (unreserved d u) = effective x (unreserved d s) :=
      busOnly_read hfirst (effective x) fun _ _ _ => rfl
    unfold eligible
    rw [busOnly_state hfirst x, heff]
  unfold moveReservation
  dsimp only
  rw [← unreserved, ← unreserved, hinstalled]
  simp only [heligible]
  split
  · exact busOnly_modDock hfirst (fun k => { k with state := .reserved, reserved := true }) (fun _ => rfl) _
  · exact hfirst

theorem moveReservation_dock (hd : d < 64) (s : State) :
    (moveReservation d s).dock d = { s.dock d with reserved := false } := by
  rcases moveReservation_cases d s with h | ⟨e, hne, h⟩ <;> rw [h]
  · exact dock_modDock_self hd _ s
  · exact (dock_modDock_other hne _ _).trans (dock_modDock_self hd _ s)

theorem moveReservation_bike (d : Nat) (s : State) (x : Nat) : ((moveReservation d s).dock x).bike = (s.dock x).bike := by
  have hkeeps (e : Nat) (f : Dock → Dock) (hf : ∀ k, (f k).bike = k.bike) (t : State) :
      ((modDock e f t).dock x).bike = (t.dock x).bike := by
    rcases dock_modDock_or e f t x with h | ⟨-, h⟩ <;> rw [h]
    exact hf _
  have hfirst := hkeeps d (fun k => { k with reserved := false }) (fun _ => rfl) s
  rcases moveReservation_cases d s with h | ⟨e, -, h⟩ <;> rw [h]
  · exact hfirst
  · exact (hkeeps e (fun k => { k with state := .reserved, reserved := true }) (fun _ => rfl) _).trans hfirst

theorem moveReservation_bus (d : Nat) (s : State) : (moveReservation d s).bus = s.bus := by
  rcases moveReservation_cases d s with h | ⟨e, -, h⟩ <;> rw [h] <;> rfl

/-- A move reads and writes the Dock Table alone. -/
theorem moveReservation_read {α : Type} (d : Nat) (s : State) (f : State → α)
    (hf : ∀ (v : State) (k : Vector Dock Config.docks), f { v with docks := k } = f v) : f (moveReservation d s) = f s := by
  rcases moveReservation_cases d s with h | ⟨e, -, h⟩ <;> rw [h]
  · exact hf s _
  · exact (hf (unreserved d s) _).trans (hf s _)

theorem handsFree_moveReservation (hd : d < 64) (h : HandsFree d s) : HandsFree d (moveReservation d s) :=
  h.of_same (moveReservation_bus d s) (by rw [moveReservation_dock hd])

theorem nowhere_moveReservation (h : Nowhere d T s) : Nowhere d T (moveReservation d s) := by
  intro e he hne
  rw [moveReservation_bike]
  exact h e (moveReservation_read d s State.installed (fun _ _ => rfl) ▸ he) hne

/-- The reservation is dropped, or passes to the lowest-numbered dock that may take it (R111). -/
def MovedOn (s moved : State) : Prop :=
  ((∀ e, ¬(e < s.installed ∧ eligible e s = true)) ∧ moved = s) ∨
    ∃ e, (e < s.installed ∧ eligible e s = true) ∧ (∀ x, x < s.installed ∧ eligible x s = true → e ≤ x) ∧
      moved = setDock e { s.dock e with state := .reserved, reserved := true } s

/-- Whatever the dock itself becomes next, the rest is as if its reservation had been moved apart from it. -/
theorem MovedOn.written {moved : State} (h : MovedOn s moved) (hs : (s.dock d).state = .reserved) (k : Dock) :
    setDock d k (moveReservation d s) = setDock d k moved := by
  have hself : eligible d s = false := by simp [eligible, hs]
  rcases h with ⟨hnone, rfl⟩ | ⟨e, ⟨he, hel⟩, hlow, rfl⟩
  · rw [moveReservation_none fun x hx _ => Bool.eq_false_iff.mpr fun hel => hnone x ⟨hx, hel⟩]
    exact setDock_setDock d k _ moved
  · have hne : e ≠ d := fun hed => by rw [hed, hself] at hel; cases hel
    rw [moveReservation_some he hne hel fun x hx _ =>
      Bool.eq_false_iff.mpr fun hel => absurd (hlow x ⟨hx.trans he, hel⟩) (Nat.not_le.mpr hx)]
    have hdock : (unreserved d s).dock e = s.dock e := dock_modDock_other hne.symm _ s
    unfold reserve modDock
    rw [hdock, setDock_comm hne.symm, setDock_comm hne.symm]
    exact congrArg (setDock e _) (setDock_setDock d k _ s)

/-! ## Another bike at a HELD dock (R55) -/

/-- The record of a dock whose bike is replaced by bike `T`, below the threshold (R55, R124). -/
def replacedRecord (T now : Nat) (kind : BikeKind) (k : Dock) : Dock :=
  { k with bike := some (newBike T kind now), vanHold := false }

/-- Steps 2 to 5 of R55 where R6 has nothing to do, the report stays below the threshold and the bike has no hire. -/
theorem busOnly_replaceBike (hd : d < 64) (h : BusOnly s u) (hb : s.batch = none) (hn : Nowhere d T s)
    (hopen : openHireOf T s = none) (hmask : masked .auditMismatch s = false)
    (hcount : (s.dock d).faultCount + 1 < s.settings.dockThreshold) (h15 : (s.dock d).faultCount + 1 ≤ 15) :
    BusOnly (enterRecord (.dockFault d .auditMismatch ((s.dock d).faultCount + 1))
      (enterRecord (.auditMismatch d (recordedId (s.dock d)) (some T)) (modDock d (fun k =>
        { replacedRecord T s.now kind k with faultCount := (s.dock d).faultCount + 1 }) s))) (replaceBike d T kind u) := by
  have hnow : u.now = s.now := busOnly_read h State.now fun _ _ _ => rfl
  have hid : recordedId (u.dock d) = recordedId (s.dock d) := busOnly_dock h recordedId (fun _ => rfl) d
  have hjournaled := (busOnly_modDock h (replacedRecord T s.now kind) (fun _ => rfl) d).enter
    (.auditMismatch d (recordedId (s.dock d)) (some T))
  have hfault : ((enterRecord (.auditMismatch d (recordedId (s.dock d)) (some T))
      (modDock d (replacedRecord T s.now kind) s)).dock d).faultCount = (s.dock d).faultCount := by
    rw [enterRecord_dock, dock_modDock_self hd]
    rfl
  have hreport := busOnly_reportBelow (d := d) (c := .auditMismatch) hjournaled
    (by unfold masked; rw [enterRecord_settings]; exact hmask)
    (by rw [hfault, enterRecord_settings]; exact hcount) (by rw [hfault]; exact h15)
  rw [hfault, reported, modDock_enterRecord, modDock_modDock hd] at hreport
  have hheld : holdIfWanted d (modDock d (replacedRecord T s.now kind) u) = modDock d (replacedRecord T s.now kind) u :=
    holdIfWanted_same (.inr fun b hub => by cases ((busOnly_batch h).trans hb).symm.trans hub)
  have hnone : openHireOf T (reportDock d .auditMismatch false (enterRecord (.auditMismatch d (recordedId (s.dock d)) (some T))
      (modDock d (replacedRecord T s.now kind) u))) = none := by
    refine (busOnly_read hreport (openHireOf T) fun _ _ _ => rfl).trans ?_
    unfold openHireOf
    rw [enterRecord_hires, enterRecord_hires]
    exact hopen
  unfold replaceBike
  rw [clearElsewhere_nowhere (busOnly_nowhere h hn)]
  dsimp only
  rw [hid, hnow]
  change BusOnly _ (tellReturn d (closeBikeHire T d (reportDock d .auditMismatch false
    (enterRecord _ (holdIfWanted d (modDock d (replacedRecord T s.now kind) u))))))
  rw [hheld, closeBikeHire_none hnone]
  exact hreport

end Sys2Proof.Machine
end

section
/-! PROOFS. The statement of arrivals that are refused, latched or mismatched. -/

namespace Sys2Proof.Machine

variable {d e T : Nat} {s t u moved : State} {kind : BikeKind} {b : Batch}

theorem eligible_iff (e : Nat) (s : State) : eligible e s = true ↔
    (s.dock e).state = .vacant ∧ ((effective e s).cls = .vanOnly ∨ returnAllowed e s = true) := by
  simp [eligible, returnAllowed]

theorem MovedOn.modDock (h : MovedOn s moved) (hd : d < 64) (hs : (s.dock d).state = .reserved) {f : Dock → Dock}
    (hf : ∀ k : Dock, f { k with reserved := false } = f k) :
    modDock d f (moveReservation d s) = setDock d (f (s.dock d)) moved := by
  unfold Machine.modDock
  rw [moveReservation_dock hd, hf, h.written hs]

/-- No entry of the bike is PENDING, so the arrival is no delivery (R109). -/
theorem isDelivery_done (hb : s.batch = some b) (hdone : ∀ m ∈ b.manifest, m.bike = T → m.done = true) (d : Nat) :
    isDelivery d T s = false := by
  have hnone : b.manifest.any (fun m => !m.done && m.bike == T) = false := by
    refine List.any_eq_false.mpr fun m hm => ?_
    by_cases hT : m.bike = T
    · simp [hdone m hm hT]
    · simp [hT]
  simp [isDelivery, hb, hnone]

/-! ## At a RESERVED dock -/

section
variable (hd : d < 64) (hu : HandedOn s u) (hs : (s.dock d).state = .reserved) (hp : (s.dock d).retirePending = false)
  (hdel : isDelivery d T s = false) (hmoved : MovedOn s moved)
include hd hu hs hp hdel hmoved

/-- The refusal at a RESERVED dock (R57, R111). -/
theorem arrive_reserved_refuses (hret : returnAllowed d s = false) (hfree : HandsFree d s) :
    Stands ownReject d (arrive d T kind u) ∧
      BusOnly (raise (.returnRefused d) (setDock d (rejectingRecord (s.dock d)) moved)) (arrive d T kind u) := by
  have hstate : (u.dock d).state = .reserved := by rw [hu.dock, hs]
  have hlost : reservationLost d u = moveReservation d u := if_pos hstate
  have hallowed : returnAllowed d (moveReservation d u) = false :=
    (moveReservation_read d u (returnAllowed d) fun _ _ => rfl).trans ((hu.read (returnAllowed d) fun _ _ => rfl).trans hret)
  have hbus := busOnly_moveReservation hu.busOnly d
  have hfree' := handsFree_moveReservation hd (hu.handsFree hfree)
  have hp' : ((moveReservation d s).dock d).retirePending = false := by
    rw [moveReservation_dock hd]
    exact hp
  rw [arrive_free (.inr hstate), arriveFree_refuses ((hu.read (isDelivery d T) fun _ _ => rfl).trans hdel) (hlost ▸ hallowed),
    hlost, ← hmoved.modDock hd hs (f := rejectingRecord) fun _ => rfl]
  exact ⟨stands_refuseArrival hd hbus hfree' hp', busOnly_refuseArrival hd hbus hfree' hp'⟩

/-- The rider return at a RESERVED dock (R56, R111). -/
theorem arrive_reserved_accepts (hb : s.batch = some b) (hk : b.kind = .deliver) (hret : returnAllowed d s = true) (hT : T ≠ 0)
    (hn : Nowhere d T s) (hopen : openHireOf T s = none) :
    BusOnly (raise (.returnDone d 0 0) (enterRecord (.returnForeign T d)
      (setDock d (dockedRecord T s.now (s.dock d)) moved))) (arrive d T .standard u) := by
  have hstate : (u.dock d).state = .reserved := by rw [hu.dock, hs]
  have hlost : reservationLost d u = moveReservation d u := if_pos hstate
  have hallowed : returnAllowed d (moveReservation d u) = true :=
    (moveReservation_read d u (returnAllowed d) fun _ _ => rfl).trans ((hu.read (returnAllowed d) fun _ _ => rfl).trans hret)
  have hdock := moveReservation_dock hd s
  have hbatch : (moveReservation d s).batch = some b := (moveReservation_read d s State.batch fun _ _ => rfl).trans hb
  have hnow : (moveReservation d s).now = s.now := moveReservation_read d s State.now fun _ _ => rfl
  have hclear := busOnly_nowhere_clear (busOnly_moveReservation hu.busOnly d) (nowhere_moveReservation hn)
  have haside : BusOnly (moveReservation d s) (reservationAside d false (clearElsewhere d T (moveReservation d u))) := by
    rw [reservationAside_same (.inr ((busOnly_dock hclear Dock.reserved (fun _ => rfl) d).trans (by rw [hdock])))]
    exact hclear
  have hact := busOnly_acceptArrival_foreign hd haside (by rw [hdock]; exact hp) hT
    (fun x hx => by cases hbatch.symm.trans hx; exact hk)
    ((moveReservation_read d s (openHireOf T) fun _ _ => rfl).trans hopen)
  have hwritten : docked d T (moveReservation d s) = setDock d (dockedRecord T s.now (s.dock d)) moved := by
    rw [← hmoved.modDock hd hs (f := dockedRecord T s.now) fun _ => rfl, ← hnow]
    rfl
  rw [returnedForeign, hwritten] at hact
  rwa [arrive_free (.inr hstate),
    arriveFree_accepts ((hu.read (isDelivery d T) fun _ _ => rfl).trans hdel) (hlost ▸ hallowed) hT, hlost]

end

/-! ## At a VACANT dock -/

section
variable (hd : d < 64) (hu : HandedOn s u) (hs : (s.dock d).state = .vacant) (hp : (s.dock d).retirePending = false)
  (hb : s.batch = none) (hfree : HandsFree d s)
include hd hu hs hp hb hfree

theorem arrive_vacant_refuses (hret : returnAllowed d s = false) : Stands ownReject d (arrive d T kind u) ∧
    BusOnly (raise (.returnRefused d) (modDock d rejectingRecord s)) (arrive d T kind u) := by
  have hstate : (u.dock d).state = .vacant := by rw [hu.dock, hs]
  have hlost : reservationLost d u = u := reservationLost_none (by simp [hstate])
  have hallowed : returnAllowed d u = false := (hu.read (returnAllowed d) fun _ _ => rfl).trans hret
  rw [arrive_free (.inl hstate),
    arriveFree_refuses (isDelivery_noBatch ((hu.read State.batch fun _ _ => rfl).trans hb) d T) (hlost.symm ▸ hallowed), hlost]
  exact ⟨stands_refuseArrival hd hu.busOnly (hu.handsFree hfree) hp, busOnly_refuseArrival hd hu.busOnly (hu.handsFree hfree) hp⟩

theorem arrive_vacant_latches (hroom : s.bus.queue.length < 16) (hret : returnAllowed d s = true) :
    Placed (reread d) (arrive d 0 kind u) ∧ BusOnly (modDock d (latchingRecord s.now) s) (arrive d 0 kind u) := by
  have hstate : (u.dock d).state = .vacant := by rw [hu.dock, hs]
  have hlost : reservationLost d u = u := reservationLost_none (by simp [hstate])
  have hallowed : returnAllowed d u = true := (hu.read (returnAllowed d) fun _ _ => rfl).trans hret
  rw [arrive_free (.inl hstate),
    arriveFree_latches (isDelivery_noBatch ((hu.read State.batch fun _ _ => rfl).trans hb) d 0) (hlost.symm ▸ hallowed), hlost]
  exact enterLatching_handsFree hd hu.busOnly (hu.handsFree hfree) (hu.room hroom) hp

end

/-! ## At a dock with a bike, and at a RETIRED dock -/

theorem arrive_own (hs : (s.dock d).state = .held ∨ (s.dock d).state = .claimed)
    (hT : T = 0 ∨ recordedId (s.dock d) = some T) : arrive d T kind s = s := by
  rcases hs with h | h <;> simp [arrive, arriveSettled, h, hT]

theorem arrive_other (hs : (s.dock d).state = .held) (hT : T ≠ 0) (hid : recordedId (s.dock d) ≠ some T) :
    arrive d T kind s = replaceBike d T kind s := by
  simp [arrive, arriveSettled, mismatch, hs, hT, hid]

/-- The record of a HELD dock whose bike is replaced, its count raised by the report (R55). -/
theorem replaced_written {kind : Byte} (hT : T ≠ 0) (now n : Nat) :
    modDock d (fun k => { replacedRecord T now (byteKind kind) k with faultCount := n }) s = setDock d { s.dock d with
      bike := some (arrivedBike (some T) (if kind = 1#8 then .electric else .standard) now)
      vanHold := false, faultCount := n } s := by
  have hbike : newBike T (byteKind kind) now = arrivedBike (some T) (if kind = 1#8 then .electric else .standard) now := by
    simp [newBike, arrivedBike, byteKind, kindByteElectric, hT]
  refine modDock_congr (g := fun _ => _) ?_
  rw [replacedRecord, hbike]

theorem repeats_some {x : Bike} : repeats T (some x) = true ↔ (T = 0 ∧ x.id = none) ∨ (T ≠ 0 ∧ x.id = some T) := by
  unfold repeats
  by_cases hT : T = 0 <;> simp [hT]

section
variable (hd : d < 64) (hu : HandedOn s u) (hs : (s.dock d).state = .retired) (hfree : HandsFree d s)
include hd hu hs hfree

theorem arrive_retired_empty (hbike : (s.dock d).bike = none) : Stands retiredReject d (arrive d T kind u) ∧
    BusOnly (raise (.returnRefused d) s) (arrive d T kind u) := by
  have hfree' := hu.handsFree hfree
  rw [arrive_retired (by rw [hu.dock, hs]), arriveRetired_empty (by rw [hu.dock, hbike])]
  exact ⟨(stands_placeLock hd retiredReject hfree').of_same (by rw [raise_bus]) (by rw [raise_dock]),
    (hu.busOnly.trans (placeLock_busOnly retiredReject ((nothingInHand_iff d u).mpr hfree'))).tell _⟩

theorem arrive_retired_stranded {x : Bike} (hbike : (s.dock d).bike = some x) (hrep : repeats T (some x) = false) :
    Stands retiredReject d (arrive d T kind u) ∧ BusOnly (enterRecord (.bikeMissing (x.id.getD 0) d)
      (raise (.returnRefused d) (modDock d (fun k => { k with bike := none }) s))) (arrive d T kind u) := by
  have hfree' := hu.handsFree hfree
  rw [arrive_retired (by rw [hu.dock, hs]), arriveRetired_stranded (by rw [hu.dock, hbike]) hrep, modDock_raise]
  have hplaced := hu.busOnly.trans (placeLock_busOnly retiredReject ((nothingInHand_iff d u).mpr hfree'))
  refine ⟨(stands_placeLock hd retiredReject hfree').of_same ?_ ?_,
    ((busOnly_modDock hplaced (fun k => { k with bike := none }) (fun _ => rfl) d).tell _).enter _⟩
  · rw [enterRecord_bus, raise_bus]
    rfl
  · rw [enterRecord_dock, raise_dock, dock_modDock_self hd]

end

end Sys2Proof.Machine

namespace Sys2Proof.Settled

open Sys2Proof.Machine

/-- Settles O25: the arrival by the state of its dock, the reservation of a RESERVED dock moved on first. -/
theorem arrivalRefusedOrLatched : Obligations.ArrivalRefusedOrLatched := by
  refine ⟨?_, ?_, ?_⟩
  · intro s dock tag kind low d hpoll hinst hd hs hp hb hfree hroom
    refine ⟨fun hret => ?_, fun hret hT => ?_⟩
    · exact exec_inserted_stays (fun _ h => stands_moveOn (o := ownReject) hd h) hpoll hinst fun u hu =>
        arrive_vacant_refuses hd hu hs hp hb hfree hret
    · refine exec_inserted_stays (fun _ h => placed_moveOn h) hpoll hinst fun u hu => ?_
      rw [hT]
      exact arrive_vacant_latches hd hu hs hp hb hfree hroom hret
  · intro s dock tag kind low d T k n reject rejects hpoll hinst hd
    refine ⟨fun hs hT => ?_, fun hs hT hid hp hb hn hopen hmask hcount h15 => ?_, fun x hs hbike hrep => ?_,
      fun x hs hfree hbike hzero htag => ?_, fun hs hfree hbike => ?_⟩
    · refine exec_inserted_of hpoll hinst fun u hu => ?_
      rw [arrive_own (by rw [hu.dock]; exact hs) (by rw [hu.dock]; exact hT)]
      exact hu.busOnly
    · refine exec_inserted_of hpoll hinst fun u hu => ?_
      rw [arrive_other (by rw [hu.dock]; exact hs) hT (by rw [hu.dock]; exact hid)]
      have hact := busOnly_replaceBike (kind := byteKind kind) hd hu.busOnly hb hn hopen hmask hcount h15
      rw [replaced_written hT] at hact
      exact hact
    · refine exec_inserted_of hpoll hinst fun u hu => ?_
      rw [arrive_retired (by rw [hu.dock]; exact hs),
        arriveRetired_repeats (by rw [hu.dock, hbike]; exact repeats_some.mpr hrep)]
      exact hu.busOnly
    · have hother : repeats T (some x) = false := Bool.eq_false_iff.mpr fun h =>
        (repeats_some.mp h).elim (fun h => hzero h.1 h.2) fun h => htag h.1 h.2
      exact exec_inserted_stays (fun _ h => stands_moveOn (o := retiredReject) hd h) hpoll hinst fun u hu =>
        arrive_retired_stranded hd hu hs hfree hbike hother
    · exact exec_inserted_stays (fun _ h => stands_moveOn (o := retiredReject) hd h) hpoll hinst fun u hu =>
        arrive_retired_empty hd hu hs hfree hbike
  · intro s dock tag kind low b moved d T mayReserve hpoll hinst hd _ hs hp hb hk hkind hdone hcases
    have hmay (e : Nat) : mayReserve e ↔ e < s.installed ∧ eligible e s = true := by rw [eligible_iff]
    have hmoved : MovedOn s moved := by
      simp only [hmay] at hcases
      exact hcases
    have hdel := isDelivery_done hb hdone d
    refine ⟨fun hret hfree => ?_, fun hret hT hn hopen => ?_⟩
    · exact exec_inserted_stays (fun _ h => stands_moveOn (o := ownReject) hd h) hpoll hinst fun u hu =>
        arrive_reserved_refuses hd hu hs hp hdel hmoved hret hfree
    · refine exec_inserted_of hpoll hinst fun u hu => ?_
      rw [byteKind_standard hkind]
      exact arrive_reserved_accepts hd hu hs hp hdel hmoved hb hk hret hT hn hopen

end Sys2Proof.Settled
end

section
/-! PROOFS. The re-reads of a LATCHING dock, and arrivals that end or restart an operation (R54, R57, R59, R60). -/

namespace Sys2Proof.Machine

variable {d e T : Nat} {s t u : State} {kind : BikeKind} {n : Nat} {dock flags : Byte}

/-! ## The retry (R59) -/

theorem rereadInHand_handsFree (h : HandsFree d s) : rereadInHand d s = false := by
  have hqueue : s.bus.queue.any (fun c => ownLive d c && c.kind == .status) = false :=
    List.any_eq_false.mpr fun c hc => by simp [ownLive, h.2.1 c hc]
  have hflight : inFlightAt d s = none := by
    unfold inFlightAt
    split
    · rename_i f hf
      split
      · rename_i c hc
        exact if_neg (h.2.2 c f.ticks (hf.trans (by rw [← hc])))
      · rfl
    · rfl
  unfold rereadInHand
  rw [hqueue, hflight]
  rfl

theorem rereadInHand_placed (h : Placed (reread d) s) : rereadInHand d s = true := by
  unfold rereadInHand
  rw [Bool.or_eq_true]
  rcases h with h | ⟨m, h⟩
  · exact .inl (List.any_eq_true.mpr ⟨_, h, by simp [ownLive, reread]⟩)
  · have hflight : inFlightAt d s = some (reread d) := by
      unfold inFlightAt
      rw [h]
      exact if_pos rfl
    rw [hflight]
    simp [ownLive, reread]

theorem retryReread_settled (h : (s.dock e).state ≠ .latching) : retryReread e s = s := if_neg fun hr => h hr.1

theorem retryReread_inHand (h : rereadInHand d s = true) : retryReread d s = s := if_neg fun hr => by simp [h] at hr

theorem retryReread_waiting (hs : (s.dock d).state = .latching) (h : rereadInHand d s = false) :
    retryReread d s = tryReread d s := if_pos ⟨hs, h⟩

theorem foldl_stays {α β : Type} {f : α → β → α} {a : α} {l : List β} (h : ∀ x ∈ l, f a x = a) : l.foldl f a = a := by
  induction l with
  | nil => rfl
  | cons x l ih =>
    rw [List.foldl_cons, h x List.mem_cons_self]
    exact ih fun y hy => h y (List.mem_cons_of_mem _ hy)

/-- Where all but one of the steps change nothing, before it or after it, that one is the whole. -/
theorem foldl_only {α β : Type} {f : α → β → α} {a : α} {x : β} {l : List β} (hx : x ∈ l) (hl : l.Nodup)
    (hbefore : ∀ y ∈ l, y ≠ x → f a y = a) (hafter : ∀ y ∈ l, y ≠ x → f (f a x) y = f a x) : l.foldl f a = f a x := by
  obtain ⟨l₁, l₂, rfl⟩ := List.append_of_mem hx
  obtain ⟨hout, -⟩ := List.nodup_cons.mp (List.nodup_middle.mp hl)
  have hne {y : β} (hy : y ∈ l₁ ++ l₂) : y ≠ x := fun h => hout (h ▸ hy)
  rw [List.foldl_append, List.foldl_cons,
    foldl_stays fun y hy => hbefore y (by simp [hy]) (hne (List.mem_append_left _ hy)),
    foldl_stays fun y hy => hafter y (by simp [hy]) (hne (List.mem_append_right _ hy))]

theorem reread_counted (h : (s.dock d).rereadAgain = false) :
    modDock d rereadRecord s = setDock d { s.dock d with identRetries := (s.dock d).identRetries + 1 } s := by
  refine modDock_congr (g := fun _ => _) ?_
  rw [rereadRecord, h]
  rfl

/-- The mark of the second tick has been taken. -/
def rereadServed (s : State) : State := modDue (fun d => { d with reread := false }) s

theorem onIdentRereadRetry_due (h : s.due.reread = true) : onIdentRereadRetry s =
    s.installedDocks.foldl (fun t d => retryReread d t) (rereadServed s) := if_pos h

section
variable (hdue : s.due.reread = true) (hothers : ∀ e, e < s.installed → e ≠ d → (s.dock e).state ≠ .latching)
include hdue hothers

/-- At the one LATCHING dock the waiting re-read is placed. -/
theorem onIdentRereadRetry_one (hd : d < s.installed) (hs : (s.dock d).state = .latching) (hfree : HandsFree d s) (hroom : s.bus.queue.length < 16) :
    onIdentRereadRetry s = tryReread d (rereadServed s) := by
  rw [onIdentRereadRetry_due hdue]
  generalize hv : rereadServed s = v
  have hdock (e : Nat) : v.dock e = s.dock e := by rw [← hv]; rfl
  have hfree' : HandsFree d v := hfree.of_same (by rw [← hv]; rfl) (by rw [hdock])
  have hretry : retryReread d v = tryReread d v :=
    retryReread_waiting (by rw [hdock, hs]) (rereadInHand_handsFree hfree')
  have hread : BusOnly (modDock d rereadRecord v) (tryReread d v) :=
    busOnly_tryReread hfree' (by rw [← hv]; exact hroom) (.refl v)
  rw [← hretry]
  refine foldl_only (List.mem_range.mpr hd) List.nodup_range (fun e he hne => ?_) fun e he hne => ?_
  · exact retryReread_settled (by rw [hdock]; exact hothers e (List.mem_range.mp he) hne)
  · refine retryReread_settled ?_
    rw [hretry, busOnly_state hread, dock_modDock_other hne.symm, hdock]
    exact hothers e (List.mem_range.mp he) hne

theorem onIdentRereadRetry_inHand (h : Placed (reread d) s) :
    onIdentRereadRetry s = rereadServed s := by
  rw [onIdentRereadRetry_due hdue]
  refine foldl_stays fun e he => ?_
  by_cases hne : e = d
  · rw [hne]
    exact retryReread_inHand (rereadInHand_placed (h.of_bus rfl))
  · exact retryReread_settled (hothers e (List.mem_range.mp he) hne)

end

/-! ## The second re-read unread (R60, R124) -/

theorem exec_statusIs_reread {tag : BitVec 24}
    (h : s.bus.inFlight = some { what := .command (reread dock.toNat), ticks := some n })
    (hs : (s.dock dock.toNat).state = .latching) : exec (.statusIs dock tag flags) s =
      .next (moveOn (rereadReply dock.toNat (statusFound tag flags) (endExchange s))) := by
  have hown : ownReread (reread dock.toNat) (endExchange s) = true := by simp [ownReread, reread, endExchange, hs]
  have hreply : statusFor (reread dock.toNat) (statusFound tag flags) (endExchange s) =
      rereadReply dock.toNat (statusFound tag flags) (endExchange s) := by
    unfold statusFor
    rw [if_neg (by simp [reread]), if_pos hown]
    rfl
  have hrow : onStatusIs dock tag flags s =
      moveOn (rereadReply dock.toNat (statusFound tag flags) (endExchange s)) := by
    unfold onStatusIs
    rw [acceptedBy_inFlight h rfl rfl]
    exact congrArg moveOn hreply
  exact congrArg Host.Outcome.next hrow

theorem rereadReply_unread (hflag : flags.getLsbD 0 = true) (hn : 2 ≤ (s.dock d).identRetries) :
    rereadReply d (statusFound 0#24 flags) s = unidentified d s := by
  unfold statusFound rereadReply rereadUnread
  simp [hflag, hn]

/-- The bike stays, unidentified, with its report (R60, R124). -/
theorem busOnly_unidentified (hd : d < 64) (h : BusOnly s u) (hp : (s.dock d).retirePending = false) (hb : s.batch = none)
    (hmask : masked .tagUnreadable s = false) (hcount : (s.dock d).faultCount + 1 < s.settings.dockThreshold)
    (h15 : (s.dock d).faultCount + 1 ≤ 15) : BusOnly (enterRecord (.returnUnidentified d)
      (enterRecord (.dockFault d .tagUnreadable ((s.dock d).faultCount + 1))
        (modDock d (fun k => { heldRecord k with faultCount := (s.dock d).faultCount + 1 }) s))) (unidentified d u) := by
  have hheld := busOnly_becomeHeld (busOnly_endOperation h d) hp hb
  have hfault : ((modDock d heldRecord s).dock d).faultCount = (s.dock d).faultCount := by rw [dock_modDock_self hd]; rfl
  have hreport := busOnly_reportBelow (d := d) (c := .tagUnreadable) hheld hmask (hfault.symm ▸ hcount) (hfault.symm ▸ h15)
  rw [hfault, reported, modDock_modDock hd] at hreport
  exact hreport.enter _

/-! ## Arrivals at a LATCHING or EJECTING dock -/

theorem arrive_latching_tag (hs : (s.dock d).state = .latching) (hT : T ≠ 0) :
    arrive d T kind s = identified d T kind s := by
  simp [arrive, arriveSettled, hs, hT]

theorem arrive_latching_none (hs : (s.dock d).state = .latching) : arrive d 0 kind s = restartIdentification d s := by
  simp [arrive, arriveSettled, hs]

/-- The record of a dock whose window timer has stopped. -/
def unwindowed (k : Dock) : Dock := { k with window := none }

theorem arrive_ejecting (hs : (s.dock d).state = .ejecting) :
    arrive d T kind s = arriveFree d T kind (endOperation d (modDock d unwindowed s)) := by
  simp only [arrive, arriveSettled, hs]
  rfl

theorem busOnly_ejection_ends (h : BusOnly s u) (d : Nat) :
    BusOnly (modDock d unwindowed s) (endOperation d (modDock d unwindowed u)) :=
  busOnly_endOperation (busOnly_modDock h unwindowed (fun _ => rfl) d) d

/-- The record of a dock whose identification starts again, before its re-read (R60). -/
def restartedRecord (k : Dock) : Dock := { k with identRetries := 0, rereadAgain := false }

/-- No re-read is in hand: one is placed (R60). -/
theorem restartIdentification_handsFree (hd : d < 64) (h : BusOnly s u) (hfree : HandsFree d u)
    (hroom : u.bus.queue.length < 16) (hp : (s.dock d).retirePending = false) :
    Placed (reread d) (restartIdentification d u) ∧
      BusOnly (modDock d (fun k => { k with identRetries := 1, rereadAgain := false }) s) (restartIdentification d u) := by
  have hfree' : HandsFree d (modDock d restartedRecord u) := hfree.of_same rfl (by rw [dock_modDock_self hd]; rfl)
  have hread := busOnly_tryReread hfree' hroom (busOnly_modDock h restartedRecord (fun _ => rfl) d)
  rw [modDock_modDock hd] at hread
  have hpending : ((tryReread d (modDock d restartedRecord u)).dock d).retirePending = false := by
    rw [busOnly_retirePending hread, dock_modDock_self hd]
    exact hp
  have hrestart : restartIdentification d u = tryReread d (modDock d restartedRecord u) := by
    unfold restartIdentification
    rw [rereadInHand_handsFree hfree]
    exact applyPending_none hpending
  rw [hrestart]
  exact ⟨placed_tryReread hfree' hroom, hread⟩

section
variable (hd : d < 64) (hu : HandedOn s u) (hp : (s.dock d).retirePending = false) (hb : s.batch = none)
include hd hu hp hb

/-- Identification that ends with a tag is a rider return, with no new permission check (R60). -/
theorem arrive_latching_returns (hs : (s.dock d).state = .latching) (hT : T ≠ 0) (hn : Nowhere d T s)
    (hopen : openHireOf T s = none) : BusOnly (returnedForeign d T s) (arrive d T .standard u) := by
  have hend := busOnly_endOperation hu.busOnly d
  rw [arrive_latching_tag (by rw [hu.dock, hs]) hT]
  unfold identified
  dsimp only
  rw [isDelivery_noBatch ((busOnly_batch hend).trans hb)]
  exact busOnly_acceptArrival_foreign hd
    (busOnly_reservationAside (busOnly_nowhere_clear hend hn) (by simp [hs]) false) hp hT (fun b h => by cases hb.symm.trans h) hopen

/-- An arrival at an EJECTING dock is taken as at a VACANT one: here a rider return (R54). -/
theorem arrive_ejecting_returns (hs : (s.dock d).state = .ejecting) (hret : returnAllowed d s = true) (hT : T ≠ 0)
    (hn : Nowhere d T s) (hopen : openHireOf T s = none) : BusOnly (returnedForeign d T s) (arrive d T .standard u) := by
  have hend := busOnly_ejection_ends hu.busOnly d
  have hdock : (modDock d unwindowed s).dock d = unwindowed (s.dock d) := dock_modDock_self hd _ s
  have hstate : ((modDock d unwindowed s).dock d).state ≠ .reserved := by simp [hdock, unwindowed, hs]
  have hlost : reservationLost d (endOperation d (modDock d unwindowed u)) = endOperation d (modDock d unwindowed u) :=
    reservationLost_none ((busOnly_state hend d).symm ▸ hstate)
  have hallowed : returnAllowed d (endOperation d (modDock d unwindowed u)) = true :=
    (busOnly_read hend (returnAllowed d) fun _ _ _ => rfl).trans hret
  have hnowhere : Nowhere d T (modDock d unwindowed s) := fun e he hne => by
    rw [dock_modDock_other hne.symm]
    exact hn e he hne
  have hact := busOnly_acceptArrival_foreign hd
    (busOnly_reservationAside (busOnly_nowhere_clear hend hnowhere) hstate false) (by rw [hdock]; exact hp) hT
    (fun b h => by cases hb.symm.trans h) hopen
  have hdocked : docked d T (modDock d unwindowed s) = docked d T s := by
    unfold docked
    rw [hdock, modDock, setDock_setDock]
    rfl
  rw [returnedForeign, hdocked] at hact
  rwa [arrive_ejecting (by rw [hu.dock, hs]),
    arriveFree_accepts (isDelivery_noBatch ((busOnly_batch hend).trans hb) d T) (hlost.symm ▸ hallowed) hT, hlost]

/-- Where rider returns are not taken it is refused again (R57). -/
theorem arrive_ejecting_refuses (hs : (s.dock d).state = .ejecting) (hret : returnAllowed d s = false) (hfree : HandsFree d s) :
    Stands ownReject d (arrive d T kind u) ∧
      BusOnly (raise (.returnRefused d) (modDock d rejectingRecord s)) (arrive d T kind u) := by
  have hend := busOnly_ejection_ends hu.busOnly d
  have hdock : (modDock d unwindowed s).dock d = unwindowed (s.dock d) := dock_modDock_self hd _ s
  have hlost : reservationLost d (endOperation d (modDock d unwindowed u)) = endOperation d (modDock d unwindowed u) :=
    reservationLost_none (by rw [busOnly_state hend, hdock]; simp [unwindowed, hs])
  have hallowed : returnAllowed d (endOperation d (modDock d unwindowed u)) = false :=
    (busOnly_read hend (returnAllowed d) fun _ _ _ => rfl).trans hret
  have hfree' : HandsFree d (endOperation d (modDock d unwindowed u)) :=
    handsFree_endOperation hd ((hu.handsFree hfree).of_same rfl (by rw [dock_modDock_self hd]; rfl))
  have hp' : ((modDock d unwindowed s).dock d).retirePending = false := by rw [hdock]; exact hp
  have hwritten : modDock d rejectingRecord (modDock d unwindowed s) = modDock d rejectingRecord s := by
    rw [modDock_modDock hd]
    rfl
  rw [arrive_ejecting (by rw [hu.dock, hs]),
    arriveFree_refuses (isDelivery_noBatch ((busOnly_batch hend).trans hb) d T) (hlost.symm ▸ hallowed), hlost, ← hwritten]
  exact ⟨stands_refuseArrival hd hend hfree' hp', busOnly_refuseArrival hd hend hfree' hp'⟩

end

end Sys2Proof.Machine

namespace Sys2Proof.Settled

open Sys2Proof.Machine

/-- Settles O26: the retry acts at the one LATCHING dock; the rest is what ends an identification or an ejection. -/
theorem identificationRereads : Obligations.IdentificationRereads := by
  refine ⟨?_, ?_⟩
  · intro s d rr hinst hd hs
    refine ⟨fun hdue hothers hfree hroom hagain => ?_, fun hdue hothers hplaced => ?_,
      fun dock flags n hdock hflag hflight hretries hp hb hmask hcount h15 => ?_⟩
    · have hrow := onIdentRereadRetry_one hdue hothers hinst hs hfree hroom
      have hread := busOnly_tryReread (u := rereadServed s) (d := d) hfree hroom (.refl _)
      rw [reread_counted (s := rereadServed s) hagain] at hread
      exact ⟨_, congrArg Host.Outcome.next hrow, placed_tryReread hfree hroom, hread⟩
    · exact congrArg Host.Outcome.next (onIdentRereadRetry_inHand hdue hothers hplaced)
    · subst hdock
      refine ⟨_, exec_statusIs_reread hflight hs, BusOnly.trans ?_ (moveOn_busOnly _)⟩
      rw [rereadReply_unread hflag (s := endExchange s) hretries.ge]
      exact busOnly_unidentified hd (endExchange_busOnly s) hp hb hmask hcount (by omega)
  · intro s dock tag kind low d T returned fresh hpoll hinst hd hp hb hkind
    refine ⟨fun hplace hT hfresh => ?_, fun hs hT hfree hroom => ?_, fun hs hret hfree => ?_⟩
    · obtain ⟨hn, hopen⟩ := hfresh
      refine exec_inserted_of hpoll hinst fun u hu => ?_
      rw [byteKind_standard hkind]
      rcases hplace with hs | ⟨hs, hret⟩
      · exact arrive_latching_returns hd hu hp hb hs hT hn hopen
      · exact arrive_ejecting_returns hd hu hp hb hs hret hT hn hopen
    · refine exec_inserted_stays (fun _ h => placed_moveOn h) hpoll hinst fun u hu => ?_
      rw [show tag.toNat = 0 from hT, arrive_latching_none (by rw [hu.dock]; exact hs)]
      exact restartIdentification_handsFree hd hu.busOnly (hu.handsFree hfree) (hu.room hroom) hp
    · exact exec_inserted_stays (fun _ h => stands_moveOn (o := ownReject) hd h) hpoll hinst fun u hu =>
        arrive_ejecting_refuses hd hu hp hb hs hret hfree

end Sys2Proof.Settled
end

section
/-! PROOFS. The operations that leave the books alone: the Card Table and the hire records (`SameBooks`). -/

namespace Sys2Proof.Machine

variable {s t u : State} {d : Nat}

/-! ## The relation -/

/-- The cards and the hires of `t` are those of `s`. -/
def SameBooks (s t : State) : Prop := t.cards = s.cards ∧ t.hires = s.hires

theorem SameBooks.refl (s : State) : SameBooks s s := ⟨rfl, rfl⟩

theorem SameBooks.trans (h : SameBooks s t) (k : SameBooks t u) : SameBooks s u :=
  ⟨k.1.trans h.1, k.2.trans h.2⟩

theorem SameBooks.ite {p : Prop} [Decidable p] (ht : SameBooks s t) (hu : SameBooks s u) :
    SameBooks s (if p then t else u) := by
  split
  · exact ht
  · exact hu

theorem SameBooks.foldl {α : Type} {f : State → α → State} (hf : ∀ t a, SameBooks t (f t a)) (l : List α) (s : State) :
    SameBooks s (l.foldl f s) := by
  induction l generalizing s with
  | nil => exact .refl s
  | cons a l ih => exact (hf s a).trans (ih _)

theorem DockWork.books (h : DockWork s t) : SameBooks s t :=
  ⟨congrArg Face.cards h.face, congrArg Face.hires h.face⟩

theorem BusOnly.books (h : BusOnly s t) : SameBooks s t := h.work.books

theorem Tells.books (h : Tells s t) : SameBooks s t := h.work.books

theorem setPort_books (p : Port) (x : PortState) (s : State) : SameBooks s (setPort p x s) := by
  cases p <;> exact ⟨rfl, rfl⟩

theorem modPort_books (p : Port) (f : PortState → PortState) (s : State) : SameBooks s (modPort p f s) :=
  setPort_books p _ s

theorem modDock_books (d : Nat) (f : Dock → Dock) (s : State) : SameBooks s (modDock d f s) := ⟨rfl, rfl⟩

theorem raise_books (n : Notice) (s : State) : SameBooks s (raise n s) := (raise_tells n s).books

theorem enterRecord_books (e : Entry) (s : State) : SameBooks s (enterRecord e s) := (enterRecord_tells e s).books

/-! ## The batch -/

theorem restartIdle_books (s : State) : SameBooks s (restartIdle s) := ⟨rfl, rfl⟩

theorem giveBackSurplus_books (s : State) : SameBooks s (giveBackSurplus s) := by
  unfold giveBackSurplus
  split
  · split
    · split <;> exact ⟨rfl, rfl⟩
    · exact .refl s
  · exact .refl s

theorem deliver_books (d T : Nat) (s : State) : SameBooks s (deliver d T s) := by
  unfold deliver
  have hmarked : SameBooks s (modBatch (Batch.markDone T) s) := ⟨rfl, rfl⟩
  exact (((hmarked.trans (enterRecord_books _ _)).trans (raise_books _ _)).trans (restartIdle_books _)).trans
    (giveBackSurplus_books _)

theorem released_books (s : State) : SameBooks s (released s) :=
  (SameBooks.foldl (fun t d => modDock_books d _ t) (reservedDocks s) s).trans
    (.foldl (fun t d => modDock_books d _ t) _ _)

theorem endBatch_books (o : BatchOutcome) (s : State) : SameBooks s (endBatch o s) := by
  unfold endBatch
  split
  · exact .refl s
  · rename_i b _
    exact ((released_books s).trans (enterRecord_books (.batchClosed b.crew b.kind o b.done b.pendingCount) _)).trans
      (raise_books (.batchEnded o) _)

theorem batchReleaseEnded_books (s : State) : SameBooks s (batchReleaseEnded s) := by
  unfold batchReleaseEnded
  split
  · exact .ite (endBatch_books _ s) (.refl s)
  · exact .refl s

theorem dropFaultOf_books (i : Option Nat) (s : State) : SameBooks s (dropFaultOf i s) := by
  cases i <;> exact ⟨rfl, rfl⟩

theorem collect_books (bike : Option Bike) (d : Nat) (s : State) : SameBooks s (collect bike d s) := by
  have hdropped (f : Batch → Batch) : SameBooks s (dropFaultOf (bike.bind Bike.id) (modBatch f s)) :=
    dropFaultOf_books _ (modBatch f s)
  have hc : SameBooks s (collected bike d s) := by
    unfold collected
    exact ((hdropped _).trans (enterRecord_books _ _)).trans (raise_books _ _)
  rw [collect_eq]
  split
  · exact .ite hc (hc.trans (restartIdle_books _))
  · exact hc

/-! ## Authorizations and reports -/

theorem endAuth_books (e : AuthEntry) (r : Result) (s : State) : SameBooks s (endAuth e r s) :=
  SameBooks.trans (t := becomeHeld e.dock (dropAuth e.tag s)) (becomeHeld_work e.dock (dropAuth e.tag s)).books
    (raise_books _ _)

theorem refuseClaim_books (d : Nat) (s : State) : SameBooks s (refuseClaim d s) := by
  unfold refuseClaim
  split
  · exact endAuth_books _ _ s
  · exact (becomeHeld_work d s).books

theorem refuseClaimRemoved_books (d : Nat) (s : State) : SameBooks s (refuseClaimRemoved d s) := by
  unfold refuseClaimRemoved
  split
  · exact raise_books _ (dropAuth _ s)
  · exact .refl s

theorem makeBikeFault_books (b : Nat) (s : State) : SameBooks s (makeBikeFault b s) := by
  unfold makeBikeFault
  dsimp only
  split
  · exact .refl s
  · split
    · exact ⟨rfl, rfl⟩
    · split <;> exact ⟨rfl, rfl⟩

theorem reportBike_books (b : Nat) (c : Category) (severe : Bool) (s : State) : SameBooks s (reportBike b c severe s) := by
  have hcounted (f : BikeFault → BikeFault) (e : Entry) :
      SameBooks s (enterRecord e (modBikeFault b f (makeBikeFault b s))) :=
    (makeBikeFault_books b s).trans (enterRecord_books e (modBikeFault b f _))
  have hquarantined (f : BikeFault → BikeFault) (t : State) :
      SameBooks t (raise (.bikeQuarantined b) (enterRecord (.bikeQuarantined b) (modBikeFault b f t))) :=
    (enterRecord_books _ (modBikeFault b f t)).trans (raise_books _ _)
  exact .ite (.refl s) (.ite ((hcounted _ _).trans (hquarantined _ _)) (hcounted _ _))

theorem senseStartedAt_books (d : Nat) (s : State) : SameBooks s (senseStartedAt d s) := by
  unfold senseStartedAt
  split
  · exact .ite ⟨rfl, rfl⟩ (.refl s)
  · exact .refl s

theorem senseDoneAt_books (d level : Nat) (s : State) : SameBooks s (senseDoneAt d level s) := by
  unfold senseDoneAt
  dsimp only
  split
  · split
    · split
      · exact .ite (reportBike_books _ .batteryPoor false (modDock d _ s)) ⟨rfl, rfl⟩
      · exact ⟨rfl, rfl⟩
    · exact .refl s
  · exact .refl s

theorem releaseOpened_books (d : Nat) (s : State) : SameBooks s (releaseOpened d s) := by
  have hopen (n : Notice) (f : Dock → Dock) : SameBooks s (raise n (modDock d f s)) := raise_books n (modDock d f s)
  unfold releaseOpened
  dsimp only
  split
  · exact hopen _ _
  · exact hopen _ _
  · exact ⟨rfl, rfl⟩

theorem openedFor_books (c : Cmd) (s : State) : SameBooks s (openedFor c s) :=
  .ite (releaseOpened_books _ s) (.ite ⟨rfl, rfl⟩ (.refl s))

theorem closeWith_books (p : Phase) (d : Nat) (s : State) : SameBooks s (closeWith p d s) :=
  (placeLock_work ownLock d (modDock d (fun k => { k with window := none }) s)).books

/-! ## The timers -/

theorem onAuthTimeout_books (s : State) : SameBooks s (onAuthTimeout s) := by
  unfold onAuthTimeout
  split
  · exact endAuth_books _ _ s
  · exact .refl s

theorem onBatchIdleExpiry_books (s : State) : SameBooks s (onBatchIdleExpiry s) :=
  .ite (.ite (endBatch_books _ (modDue _ s)) ⟨rfl, rfl⟩) (.refl s)

theorem advanceCursor_books (s : State) : SameBooks s (advanceCursor s) := by
  unfold advanceCursor
  dsimp only
  split <;> exact ⟨rfl, rfl⟩

theorem visit_books (s : State) : SameBooks s (visit s) := by
  have hp := (placeQuiet_work .status .patrol s.patrol.cursor s).books
  unfold visit
  dsimp only
  split
  · exact advanceCursor_books s
  · split
    · rename_i heq
      rw [heq] at hp
      exact hp.trans (advanceCursor_books _)
    · rename_i heq
      rw [heq] at hp
      exact hp

theorem onPatrolIntervalExpiry_books (s : State) : SameBooks s (onPatrolIntervalExpiry s) :=
  .ite (visit_books { modDue (fun d => { d with patrol := false }) s with patrol := { s.patrol with interval := 0 } })
    (.refl s)

theorem onPatrolPostscalerExpiry_books (s : State) : SameBooks s (onPatrolPostscalerExpiry s) :=
  .ite (raise_books _ { modDue (fun d => { d with postscaler := false }) s with
    patrol := { s.patrol with postscaler := 0 } }) (.refl s)

theorem onLeak_books (s : State) : SameBooks s (onLeak s) :=
  .ite (SameBooks.foldl (fun t d => modDock_books d _ t) _ s)
    (.refl s)

theorem onPollHoldoffClear_books (low : Bool) (s : State) : SameBooks s (onPollHoldoffClear low s) :=
  .ite (pollIfLow_busOnly (sampleWire low (modBus (fun b => { b with holdoff := false })
    (modDue (fun d => { d with holdoff := false }) s)))).books (.refl s)

theorem onIdentRereadRetry_books (s : State) : SameBooks s (onIdentRereadRetry s) :=
  .ite (SameBooks.foldl (fun t d => SameBooks.ite (tryReread_work d t).books (.refl t)) _
    (modDue (fun d => { d with reread := false }) s)) (.refl s)

theorem onAuditPass_books (s : State) : SameBooks s (onAuditPass s) :=
  .ite (auditStep_work (modDue (fun d => { d with auditPass := false }) s)).books (.refl s)

/-! ## The requests that concern neither cards nor hires -/

theorem openingWork_books (f : BatchFields) (s : State) : SameBooks s (openingWork f s).1 := by
  unfold openingWork
  dsimp only
  split
  · exact (topUp_work s).books
  · split <;> exact .foldl (fun t d => modDock_books d _ t) _ s

theorem batchRequests_books (fields : List Byte) (p : Port) (s : State) :
    SameBooks s (batchOpen fields p s).1 ∧ SameBooks s (batchTake fields p s).1 ∧
      SameBooks s (batchClose fields p s).1 ∧ SameBooks s (batchRead fields p s).1 := by
  refine ⟨?_, ?_, ?_, ?_⟩
  · unfold batchOpen
    dsimp only
    split
    · exact ⟨rfl, rfl⟩
    · split
      · exact .refl s
      · exact openingWork_books _ (restartIdle { s with batch := _ })
  · unfold batchTake
    dsimp only
    split
    · exact .refl s
    · split
      · exact ⟨rfl, rfl⟩
      · split
        · exact ⟨rfl, rfl⟩
        · rename_i hu
          exact SameBooks.trans (t := restartIdle s) ⟨rfl, rfl⟩ (placeUnlatch_work hu).books
  · unfold batchClose
    dsimp only
    split
    · exact .refl s
    · split
      · exact endBatch_books _ (restartIdle s)
      · exact ⟨rfl, rfl⟩
  · unfold batchRead
    split <;> exact ⟨rfl, rfl⟩

theorem claimDock_books (card d : Nat) (k : BikeKind) (s : State) : SameBooks s (claimDock card d k s) :=
  raise_books (.authNeeded (s.authQueue.length + 1)) (modDock d _ _)

theorem authDeny_books (fields : List Byte) (p : Port) (s : State) : SameBooks s (authDeny fields p s).1 := by
  unfold authDeny
  split
  · exact .refl s
  · exact endAuth_books _ _ s

theorem linkState_books (fields : List Byte) (p : Port) (s : State) : SameBooks s (linkState fields p s).1 := by
  unfold linkState
  dsimp only
  split
  · exact .refl s
  · split
    · exact ⟨rfl, rfl⟩
    · split
      · exact SameBooks.foldl (fun t e => endAuth_books e .offline t) _ { s with link := .offline }
      · exact .refl s

theorem faultRequests_books (fields : List Byte) (p : Port) (s : State) :
    SameBooks s (reportFault fields p s).1 ∧ SameBooks s (dockRestore fields p s).1 ∧
      SameBooks s (bikeClear fields p s).1 := by
  refine ⟨?_, ?_, ?_⟩
  · unfold reportFault
    dsimp only
    split
    · exact .refl s
    · split
      · exact .refl s
      · split
        · unfold reportBikeFault
          split
          · exact .refl s
          · split
            · exact .refl s
            · exact reportBike_books _ _ _ s
        · unfold reportDockFault
          split
          · exact .refl s
          · exact (reportDock_work _ _ _ s).books
  · have hrestored (d : Nat) : SameBooks s (restoreDock d s) :=
      .ite (becomeHeld_work d (modDock d _ s)).books (becomeVacant_work d (modDock d _ s)).books
    unfold dockRestore
    dsimp only
    split
    · exact .refl s
    · split
      · exact .refl s
      · exact hrestored _
  · unfold bikeClear
    dsimp only
    split
    · exact .refl s
    · split <;> exact ⟨rfl, rfl⟩

theorem configSet_books (fields : List Byte) (p : Port) (s : State) : SameBooks s (configSet fields p s).1 := by
  have hturned (old new : Nat) (t : State) : SameBooks t (patrolTurned old new t) := by
    unfold patrolTurned
    split
    · exact onPatrolPostscalerExpiry_books t
    · split <;> exact ⟨rfl, rfl⟩
  unfold configSet
  dsimp only
  split
  · exact .refl s
  · have hset := hturned s.settings.patrolEnable (writeSettings (configSettings fields) s.settings).patrolEnable
      { s with settings := writeSettings (configSettings fields) s.settings }
    exact .ite (hset.trans (evalHeld_tells _).books) hset

theorem journalRelease_books (fields : List Byte) (p : Port) (s : State) :
    SameBooks s (journalRelease fields p s).1 := by
  unfold journalRelease
  dsimp only
  split
  · exact .refl s
  · exact (evalHeld_tells { s with journal := _ }).books

theorem fullAudit_books (fields : List Byte) (p : Port) (s : State) : SameBooks s (fullAudit fields p s).1 := by
  unfold fullAudit
  split
  · exact .refl s
  · exact (auditStep_work { s with audit := _ }).books

/-! ## The parts of a station reset -/

theorem resetFirst_books (s : State) : SameBooks s (resetFirst s) :=
  (pollIfLow_busOnly (resetBus { s with
    station := .starting, docks := s.docks.map fun k => { k with owed := none } })).books

theorem abortBatch_books (s : State) : SameBooks s (abortBatch s) := by
  unfold abortBatch
  split
  · exact enterRecord_books _ s
  · exact .refl s

theorem resetDocks_books (s : State) : SameBooks s (resetDocks s) := .foldl (fun t d => modDock_books d _ t) _ s

theorem resetPorts_books (s : State) : SameBooks s (resetPorts s) :=
  (journalNotices_tells { s with
    terminal := resetPort s.terminal, uplink := resetPort s.uplink, service := resetPort s.service }).books

end Sys2Proof.Machine
end

section
/-! PROOFS. A law of the books (`BookLaw`): it reads only the cards and the hires, and every deal in them keeps it: a hire
entered with its hold, its cancellation, its close, a change of its state, a card written or removed. Such a law holds
after every operation of the blocks. -/

namespace Sys2Proof.Machine

variable {P : State → Prop} {s t : State} {d : Nat}

/-! ## The deals -/

/-- `P` speaks of the cards and hires alone, holds where there are none, and is kept by every deal in them. -/
structure BookLaw (P : State → Prop) : Prop where
  same : ∀ {s t : State}, SameBooks s t → P s → P t
  blank : ∀ {s : State}, s.cards = [] → s.hires = [] → P s
  turn : ∀ {s : State} (n : Nat) {f : Hire → Hire},
    (∀ r, (f r).number = r.number ∧ (f r).card = r.card ∧ (f r).holdAmount = r.holdAmount) → P s → P (modHire n f s)
  enter : ∀ {s : State} {r : Hire} (n : Nat), r.number ≠ 0 → r.number ∉ s.hires.map Hire.number →
    s.hires.length < Config.hirePlaces → (∃ c ∈ s.cards, c.id = r.card) → P s →
    P (placeHold r.card r.holdAmount { s with hires := s.hires ++ [r], lastHire := n })
  cancel : ∀ {s : State} {r : Hire}, r ∈ s.hires → P s → P (cancelHire r s)
  close : ∀ {s : State} {r : Hire} (e : Nat) (p : Place), r ∈ s.hires → P s → P (closeHire r e p s)
  write : ∀ {s : State} {w : List Nat} (c : CardSetting), w.length ≤ 8 → P s → P (writeCard w c s).1
  remove : ∀ {s : State} {c : Card}, c ∈ s.cards → c.openCount = 0 → P s →
    P { s with cards := s.cards.filter fun x => x.id != c.id }

theorem startingHireAt_mem {r : Hire} (h : startingHireAt d s = some r) : r ∈ s.hires := List.mem_of_find?_eq_some h

/-- No hire is numbered 0 (R87). -/
theorem freeHireNumber_ne_zero (s : State) : freeHireNumber s ≠ 0 := by
  obtain ⟨k, -, he, -⟩ := firstFree_eq 65535 (s.hires.map Hire.number) s.hires.length s.lastHire
  unfold freeHireNumber
  rw [he]
  exact Nat.one_le_iff_ne_zero.mp (triedAfter_range (by decide) _ k).1

namespace BookLaw

theorem ite {p : Prop} [Decidable p] (_ : BookLaw P) (hs : P s) (ht : P t) : P (if p then s else t) := by
  split
  · exact hs
  · exact ht

theorem foldl (_ : BookLaw P) {α : Type} {f : State → α → State} (hf : ∀ t a, P t → P (f t a)) (l : List α) (h : P s) :
    P (l.foldl f s) := by
  induction l generalizing s with
  | nil => exact h
  | cons a l ih => exact ih (hf s a h)

/-- `same`, for a step that leaves the cards and the hires where they stand. -/
theorem aslike (L : BookLaw P) (h : P s) (hc : t.cards = s.cards := by rfl) (hh : t.hires = s.hires := by rfl) : P t :=
  L.same ⟨hc, hh⟩ h

theorem work (L : BookLaw P) (hw : DockWork s t) (h : P s) : P t := L.same hw.books h

theorem bus (L : BookLaw P) (hb : BusOnly s t) (h : P s) : P t := L.same hb.books h

theorem raise (L : BookLaw P) (n : Notice) (h : P s) : P (raise n s) := L.same (raise_books n s) h

theorem record (L : BookLaw P) (e : Entry) (h : P s) : P (enterRecord e s) := L.same (enterRecord_books e s) h

/-! ## Cards and hires -/

theorem writeCards (L : BookLaw P) (l : List CardSetting) (tally : CardTally)
    (hlen : tally.written.length + l.length ≤ 8) (h : P s) : P (writeCards l tally s).1 := by
  induction l generalizing tally s with
  | nil => exact h
  | cons c l ih =>
    rw [List.length_cons] at hlen
    exact ih _ (by simp only [List.length_cons]; omega) (L.write c (by omega) h)

theorem closeBikeHire (L : BookLaw P) (b d : Nat) (h : P s) : P (closeBikeHire b d s).1 := by
  unfold Machine.closeBikeHire
  split
  · rename_i r hr
    exact L.close _ _ (openHireOf_mem hr).1 h
  · exact h

theorem hireOut (L : BookLaw P) (n : Nat) (h : P s) : P (hireOut n s) := L.turn n (fun _ => ⟨rfl, rfl, rfl⟩) h

theorem makeOverdue (L : BookLaw P) (r : Hire) (h : P s) : P (makeOverdue r s) :=
  L.raise _ (L.record _ (L.turn r.number (fun _ => ⟨rfl, rfl, rfl⟩) h))

theorem overdueCheck (L : BookLaw P) (h : P s) : P (overdueCheck s) := L.foldl (fun _ r ht => L.makeOverdue r ht) _ h

theorem hireWhenGone (L : BookLaw P) (d : Nat) (h : P s) : P (hireWhenGone d s) := by
  unfold Machine.hireWhenGone
  split
  · rename_i r hr
    exact L.cancel (startingHireAt_mem hr) h
  · exact h

/-! ## The release -/

theorem pull (L : BookLaw P) (d : Nat) (h : P s) : P (pull d s) := by
  have he : P (endOperation d s) := L.bus (endOperation_busOnly d s) h
  unfold Machine.pull
  dsimp only
  split
  · have hv := fun n => L.work (becomeVacant_work d _) (L.hireOut n he)
    refine L.raise _ ?_
    split
    · exact L.record _ (hv _)
    · exact hv _
  · exact L.same (batchReleaseEnded_books _) (L.same (collect_books _ d _) (L.work (becomeVacant_work d _) he))
  · exact L.work (becomeVacant_work d _) he

theorem lapseHire (L : BookLaw P) (d n : Nat) (h : P s) : P (lapseHire d n s) := by
  unfold Machine.lapseHire
  refine L.raise _ ?_
  split
  · rename_i r hr
    exact L.cancel (findHire_mem hr).1 h
  · exact h

theorem releaseOver (L : BookLaw P) (d : Nat) (o : Option Owner) (h : P s) : P (releaseOver d o s) := by
  unfold Machine.releaseOver
  split
  · exact L.lapseHire d _ h
  · exact L.same (batchReleaseEnded_books s) h
  · exact h

theorem lapse (L : BookLaw P) (d : Nat) (h : P s) : P (lapse d s) :=
  L.releaseOver d (s.dock d).owner (L.work ((endOperation_busOnly d s).work.trans (becomeHeld_work d _)) h)

theorem closingLockSilent (L : BookLaw P) (d : Nat) (h : P s) : P (closingLockSilent d s) :=
  L.releaseOver d (s.dock d).owner (L.work ((endOperation_busOnly d s).work.trans (enterRetired_work d _)) h)

theorem clearElsewhere (L : BookLaw P) (d T : Nat) (h : P s) : P (clearElsewhere d T s) := by
  unfold Machine.clearElsewhere
  split
  · exact h
  · rename_i e _
    split
    · exact L.work ((anonymize_work e s).trans (reportDock_work e _ _ _)) h
    · exact L.work ((anonymize_work e s).trans (reportDock_work e _ _ _)) h
    · exact L.work (anonymize_work e s) h
    · exact L.pull e h
    all_goals exact h

/-! ## Arrivals and removals -/

theorem tellReturn (L : BookLaw P) (d : Nat) {x : State × Option (Nat × Nat)} (h : P x.1) : P (tellReturn d x) := by
  unfold Machine.tellReturn
  split
  · exact L.raise _ h
  · exact h

theorem tellArrival (L : BookLaw P) (d T : Nat) (delivery : Bool) {x : State × Option (Nat × Nat)} (h : P x.1) :
    P (tellArrival d T delivery x) := by
  refine L.ite (L.same (deliver_books d T _) h) ?_
  unfold riderReturn
  split
  · exact L.raise _ h
  · exact L.raise _ (L.record _ h)

theorem takeIn (L : BookLaw P) (d T : Nat) (k : BikeKind) (h : P s) : P (takeIn d T k s) :=
  L.work ((modDock_work d _ s).trans (holdIfWanted_work d _)) h

theorem acceptArrival (L : BookLaw P) (d T : Nat) (k : BikeKind) (delivery : Bool) (h : P s) :
    P (acceptArrival d T k delivery s) := by
  have hclear := L.clearElsewhere d T h
  have haside : P (reservationAside d delivery (Machine.clearElsewhere d T s)) :=
    L.ite (L.work (moveReservation_work d _) hclear) hclear
  have htold := L.tellArrival d T delivery (L.closeBikeHire T d (L.takeIn d T k haside))
  rw [acceptArrival_eq]
  exact L.work (applyPending_work d _) (L.ite (L.work (placeSense_work d _) htold) htold)

theorem enterLatching (L : BookLaw P) (d : Nat) (h : P s) : P (enterLatching d s) :=
  L.work (((setDock_work d _ s).trans (tryReread_work d _)).trans (applyPending_work d _)) h

theorem refuseArrival (L : BookLaw P) (d : Nat) (h : P s) : P (refuseArrival d s) :=
  L.work ((((placeLock_work ownReject d s).trans (modDock_work d _ _)).trans (raise_tells _ _).work).trans
    (applyPending_work d _)) h

theorem arriveFree (L : BookLaw P) (d T : Nat) (k : BikeKind) (h : P s) : P (arriveFree d T k s) := by
  have hlost : P (reservationLost d s) := L.ite (L.work (moveReservation_work d s) h) h
  rw [arriveFree_eq]
  exact L.ite (L.acceptArrival d T k true h)
    (L.ite (L.ite (L.enterLatching d hlost) (L.acceptArrival d T k false hlost)) (L.refuseArrival d hlost))

theorem identified (L : BookLaw P) (d T : Nat) (k : BikeKind) (h : P s) : P (identified d T k s) :=
  L.acceptArrival d T k _ (L.bus (endOperation_busOnly d s) h)

theorem rereadUnread (L : BookLaw P) (d : Nat) (h : P s) : P (rereadUnread d s) :=
  L.ite (L.record _ (L.work (((endOperation_busOnly d s).work.trans (becomeHeld_work d _)).trans
    (reportDock_work d _ _ _)) h)) (L.work (tryReread_work d s) h)

theorem restartIdentification (L : BookLaw P) (d : Nat) (h : P s) : P (restartIdentification d s) :=
  L.work (applyPending_work d _)
    (L.ite (L.work (modDock_work d _ s) h) (L.work ((modDock_work d _ s).trans (tryReread_work d _)) h))

theorem mismatch (L : BookLaw P) (d T : Nat) (k : BikeKind) (h : P s) : P (mismatch d T k s) := by
  have hreplace {t : State} (ht : P t) : P (replaceBike d T k t) :=
    L.tellReturn d (L.closeBikeHire T d (L.work (((modDock_work d _ _).trans (holdIfWanted_work d _)).trans
      ((enterRecord_tells _ _).work.trans (reportDock_work d _ _ _))) (L.clearElsewhere d T ht)))
  exact hreplace (L.ite (L.same (refuseClaim_books d s) h) h)

theorem strandedGone (L : BookLaw P) (d : Nat) (h : P s) : P (strandedGone d s) := by
  unfold Machine.strandedGone
  split
  · exact L.record _ (L.work (modDock_work d _ s) h)
  · exact h

theorem arriveRetired (L : BookLaw P) (d T : Nat) (h : P s) : P (arriveRetired d T s) := by
  have hreject := L.raise (.returnRefused d) (L.work (placeLock_work retiredReject d s) h)
  unfold Machine.arriveRetired
  refine L.ite h ?_
  dsimp only
  split
  · exact L.record _ (L.work (modDock_work d _ _) hreject)
  · exact hreject

theorem startAtAudit (L : BookLaw P) (r : Hire) (d : Nat) (h : P s) : P (startAtAudit r d s) :=
  L.record _ (L.hireOut r.number h)

theorem afterResolution (L : BookLaw P) (d : Nat) (h : P s) : P (afterResolution d s) :=
  L.ite (L.work (enterRetired_work d s) h) (L.ite (L.work (retireAtThreshold_work d s) h) h)

theorem resolveEmpty (L : BookLaw P) (d : Nat) (h : P s) : P (resolveEmpty d s) := by
  have hstarted : P (startedWhenGone d s) := by
    unfold startedWhenGone
    split
    · exact L.startAtAudit _ d h
    · exact h
  rw [resolveEmpty_eq]
  exact L.afterResolution d (L.ite (L.work (modDock_work d _ _) hstarted)
    (L.work ((modDock_work d _ _).trans (topUp_work _)) hstarted))

theorem clearIfRead (L : BookLaw P) (d T : Nat) (h : P s) : P (clearIfRead d T s) := L.ite h (L.clearElsewhere d T h)

theorem closeIfRead (L : BookLaw P) (d T : Nat) (h : P s) : P (closeIfRead d T s) := L.ite h (L.closeBikeHire T d h)

theorem resolveFound (L : BookLaw P) (d : Nat) (f : Found) (h : P s) : P (resolveFound d f s) := by
  have hhire : P (hireWhenFound d f s) := by
    unfold hireWhenFound
    split
    · rename_i r hr
      exact L.ite (L.cancel (startingHireAt_mem hr) h) (L.startAtAudit r d h)
    · exact h
  have hin := L.closeIfRead d f.tag (L.takeIn d f.tag f.kind (L.clearIfRead d f.tag hhire))
  have hlocked := L.ite (p := f.closed = true) hin (L.work (placeLock_work patrolLock d _) hin)
  rw [resolveFound_eq]
  exact L.afterResolution d (L.work (senseCheck_work d _) hlocked)

theorem resolve (L : BookLaw P) (d : Nat) (found : Option Found) (h : P s) : P (resolve d found s) := by
  unfold Machine.resolve
  split
  · exact L.resolveFound d _ h
  · exact L.resolveEmpty d h

theorem resolveByEvent (L : BookLaw P) (d : Nat) (found : Option Found) (h : P s) : P (resolveByEvent d found s) :=
  L.work ((modAudit_work _ _).trans (auditEnd_work _)) (L.resolve d found h)

theorem arriveSettled (L : BookLaw P) (d T : Nat) (k : BikeKind) (h : P s) : P (arriveSettled d T k s) := by
  unfold Machine.arriveSettled
  split
  · exact L.arriveFree d T k h
  · exact L.arriveFree d T k h
  · exact L.arriveFree d T k (L.work ((modDock_work d _ s).trans (endOperation_busOnly d _).work) h)
  · exact L.ite (L.restartIdentification d h) (L.identified d T k h)
  · exact L.ite h (L.mismatch d T k h)
  · exact L.ite h (L.mismatch d T k h)
  · exact L.arriveRetired d T h
  · exact L.resolveByEvent d _ h
  · exact h

theorem arrive (L : BookLaw P) (d T : Nat) (k : BikeKind) (h : P s) : P (arrive d T k s) :=
  L.ite (L.ite (L.ite h (L.lapse d h)) (L.arriveSettled d T k (L.pull d h))) (L.arriveSettled d T k h)

theorem forcedRemoval (L : BookLaw P) (d : Nat) (h : P s) : P (forcedRemoval d s) :=
  L.work (((becomeVacant_work d _).trans (enterRecord_tells _ _).work).trans (reportDock_work d _ _ _))
    (L.ite (L.same (refuseClaimRemoved_books d s) h) h)

/-- An operation ends that leaves its dock VACANT. -/
theorem endedVacant (L : BookLaw P) (d : Nat) (h : P s) : P (becomeVacant d (endOperation d s)) :=
  L.work ((endOperation_busOnly d s).work.trans (becomeVacant_work d _)) h

theorem bikeRemoved (L : BookLaw P) (d : Nat) (h : P s) : P (bikeRemoved d s) := by
  unfold Machine.bikeRemoved
  split
  · exact h
  · exact h
  · exact L.endedVacant d h
  · exact L.forcedRemoval d h
  · exact L.forcedRemoval d h
  · exact L.pull d h
  · exact L.endedVacant d h
  · exact L.strandedGone d h
  · exact L.resolveByEvent d _ h

/-! ## The comparison and the replies -/

theorem compareFree (L : BookLaw P) (d : Nat) (f : Found) (h : P s) : P (compareFree d f s) :=
  L.work (reportDock_work d _ _ _) (L.arrive d _ _ (L.record _ h))

theorem compareGone (L : BookLaw P) (d : Nat) (h : P s) : P (compareGone d s) :=
  L.work ((becomeVacant_work d _).trans (reportDock_work d _ _ _)) (L.record _ h)

theorem compareRetired (L : BookLaw P) (d : Nat) (f : Found) (h : P s) : P (compareRetired d f s) :=
  L.closeIfRead d f.tag (L.record _ (L.work (modDock_work d _ _) (L.clearIfRead d f.tag h)))

theorem compareRow (L : BookLaw P) (d : Nat) (found : Option Found) (h : P s) : P (compareRow d found s).1 := by
  have hrefused := L.same (refuseClaim_books d s) h
  unfold Machine.compareRow
  split
  · exact h
  · exact h
  · exact L.compareFree d _ h
  · exact L.compareFree d _ h
  · exact L.compareGone d h
  · exact L.ite (L.strandedGone d hrefused) (L.compareGone d hrefused)
  · split
    · exact h
    · exact L.mismatch d _ _ h
  · split
    · exact h
    · exact L.mismatch d _ _ h
  · split
    · exact L.strandedGone d h
    · exact h
  · split
    · exact h
    · exact L.compareRetired d _ h
  all_goals exact h

theorem compare (L : BookLaw P) (d : Nat) (found : Option Found) (h : P s) : P (compare d found s).1 := by
  have hrow := L.compareRow d found h
  unfold Machine.compare Machine.afterRow
  split
  · split
    · exact L.work ((placeLock_work _ d _).trans (senseCheck_work d _)) hrow
    · exact L.work (senseCheck_work d _) hrow
  · exact hrow

theorem compareLock (L : BookLaw P) (d : Nat) (found : Option Found) (h : P s) : P (compareLock d found s) :=
  L.ite h (L.compare d found h)

theorem auditFinding (L : BookLaw P) (d : Nat) (found : Option Found) (h : P s) : P (auditFinding d found s) := by
  have hc := L.compare d found h
  unfold Machine.auditFinding
  split
  · exact L.ite (L.work (modAudit_work _ _) hc) hc
  · exact L.ite (L.resolve d found h) hc
  · exact hc

theorem patrolStatusReply (L : BookLaw P) (d : Nat) (found : Option Found) (h : P s) :
    P (patrolStatusReply d found s) :=
  L.ite (L.work (auditStep_work _) (L.auditFinding d found (L.work (modAudit_work _ s) h))) (L.compare d found h)

theorem patrolStatusSilent (L : BookLaw P) (d : Nat) (h : P s) : P (patrolStatusSilent d s) := by
  have hleft : P (leaveOutstanding d s) := L.work (modAudit_work _ s) h
  exact L.ite (L.work (auditStep_work _)
    (L.ite (L.work (enterRetiredEmpty_work d _) (L.hireWhenGone d hleft)) hleft)) h

theorem lockedWithFor (L : BookLaw P) (c : Cmd) (T : Nat) (k : BikeKind) (h : P s) : P (lockedWithFor c T k s) :=
  L.ite (L.compareLock _ _ h) (L.ite (L.ite (L.lapse _ h) (L.arrive _ T k (L.pull _ h)))
    (L.ite (L.arrive _ T k h) (L.ite h (L.arrive _ T k h))))

theorem lockedEmptyFor (L : BookLaw P) (c : Cmd) (h : P s) : P (lockedEmptyFor c s) :=
  L.ite (L.compareLock _ _ h) (L.ite (L.pull _ h) (L.ite (L.endedVacant _ h) h))

theorem rereadReply (L : BookLaw P) (d : Nat) (found : Option Found) (h : P s) : P (rereadReply d found s) := by
  unfold Machine.rereadReply
  split
  · exact L.endedVacant d h
  · exact L.ite (L.rereadUnread d h) (L.identified d _ _ h)

theorem statusFor (L : BookLaw P) (c : Cmd) (found : Option Found) (h : P s) : P (statusFor c found s) :=
  L.ite (L.patrolStatusReply _ found h) (L.ite (L.rereadReply _ found h) (L.compare _ found h))

theorem noReplyFor (L : BookLaw P) (c : Cmd) (h : P s) : P (noReplyFor c s) := by
  unfold Machine.noReplyFor
  dsimp only
  split
  · exact L.patrolStatusSilent _ h
  · exact L.ite (L.same (closeWith_books _ _ s) h) h
  · exact L.ite (L.closingLockSilent _ h) (L.ite (L.endedVacant _ h) h)
  · exact L.ite (L.endedVacant _ h) h
  · exact L.ite (L.rereadUnread _ h) h
  · exact h

end BookLaw

end Sys2Proof.Machine
end

section
/-! PROOFS. A law of the books holds after every row of the table, every request, both starts of the station, and with
that after every step. -/

namespace Sys2Proof.Machine

variable {P : State → Prop} {s t : State} {d : Nat}

/-- The first check of HIRE_RESTORE: the number is in its range, which starts at 1 (R100). -/
theorem restoreRefusal_none_number {f : Restore} (h : restoreRefusal f s = none) : f.hire ≠ 0 := by
  unfold restoreRefusal at h
  split at h
  · cases h
  rename_i hrange
  simpa using List.findIdx?_eq_none_iff.mp hrange (f.hire != 0) (by simp [restoreChecks])

namespace BookLaw

/-! ## The rows of the dock bus and of the timers -/

theorem onDockResponseTimeout (L : BookLaw P) (h : P s) : P (onDockResponseTimeout s) := by
  unfold Machine.onDockResponseTimeout
  split
  · refine L.ite ?_ h
    unfold timedOutOnBus
    split
    · exact L.bus (pollEnded_busOnly s) h
    · exact L.work ((reportDock_work _ _ _ _).trans (moveOn_busOnly _).work)
        (L.noReplyFor _ (L.bus (endExchange_busOnly s) h))
  · exact h

/-- A frame taken as the reply of the command in flight, or ignored (R21, R36). -/
theorem repliedOrIgnored (L : BookLaw P) {act : Cmd → State → State} (ha : ∀ c {t}, P t → P (act c t))
    (dock code : Byte) (h : P s) : P (match acceptedBy dock code s with
      | some c => replied (act c) s
      | none => ignoreFrame s) := by
  split
  · exact L.bus (moveOn_busOnly _) (ha _ (L.bus (endExchange_busOnly s) h))
  · exact L.bus (ignoreFrame_busOnly s) h

theorem eventIs (L : BookLaw P) {act : Nat → State → State} (ha : ∀ d {t}, P t → P (act d t)) (dock : Byte)
    (low : Bool) (h : P s) : P (eventIs dock low act s) :=
  L.ite (L.bus (moveOn_busOnly _) (ha _ (L.bus ((endExchange_busOnly s).trans
      ((sampleWire_busOnly low _).trans (pollIfLow_busOnly _))) h)))
    (L.bus ((ignoreFrame_busOnly s).trans (sampleWire_busOnly low _)) h)

theorem serveDue (L : BookLaw P) (h : P s) : P (serveDue s) := by
  have hwindow (f : Nat → State → State) (hf : ∀ d t, SameBooks t (f d t)) (t : State) :
      SameBooks t (t.installedDocks.foldl (fun t d => f d t) t) := .foldl (fun t d => hf d t) _ t
  have hrelease := hwindow onReleaseWindowExpiry (fun d t => .ite (closeWith_books _ d t) (.refl t))
  have heject := hwindow onEjectWindowExpiry (fun d t => .ite (closeWith_books _ d t) (.refl t))
  have hauth (t : State) : SameBooks t (authTimeouts t) := .foldl (fun t _ => onAuthTimeout_books t) _ t
  have hsense := hwindow onSenseTimerExpiry (fun d t => .ite (modDock_books d _ t) (.refl t))
  have htimers := (((hrelease s).trans (heject _)).trans (hauth _)).trans ((onBatchIdleExpiry_books _).trans (hsense _))
  have hpatrol := ((htimers.trans (onPatrolIntervalExpiry_books _)).trans (onPatrolPostscalerExpiry_books _)).trans
    (onLeak_books _)
  exact L.onDockResponseTimeout (L.same ((hpatrol.trans (onPollHoldoffClear_books _ _)).trans
    ((onIdentRereadRetry_books _).trans (onAuditPass_books _))) h)

theorem endMinute (L : BookLaw P) (h : P s) : P (endMinute s) := L.overdueCheck (L.aslike h)

theorem onSecondTick (L : BookLaw P) (h : P s) : P (onSecondTick s) := by
  have hserved := L.serveDue h
  have hclock : P (tickClock (Machine.serveDue s)) :=
    L.ite hserved (L.ite (L.endMinute hserved) (L.aslike hserved))
  exact L.aslike hclock

/-! ## The requests -/

/-- A hire is entered with its hold, and its dock begins to release (R43). -/
theorem acceptHire (L : BookLaw P) {c : Card} (hc : c ∈ s.cards) (hroom : s.hires.length < Config.hirePlaces)
    (i : Nat) (k : BikeKind) (d : Nat) (h : P s) : P (acceptHire c i k d s) := by
  have hentered := L.enter (r := acceptedHire (freeHireNumber s) c i k d s) (freeHireNumber s)
    (freeHireNumber_ne_zero s) (freeHireNumber_free hroom) hroom ⟨c, hc, rfl⟩ h
  exact L.work (modDock_work d _ _ : DockWork _ (beginRelease d _ _)) hentered

theorem startHire (L : BookLaw P) {c : Card} (hc : c ∈ s.cards) (hroom : s.hires.length < Config.hirePlaces) (d : Nat)
    (h : P s) : P (startHire c d s).1 := by
  unfold Machine.startHire
  split
  · exact h
  · split
    · exact h
    · rename_i hu
      have hbooks := (placeUnlatch_work hu).books
      exact L.acceptHire (hbooks.1 ▸ hc) (hbooks.2 ▸ hroom) _ _ d (L.same hbooks h)

theorem startHire_of (L : BookLaw P) {c : Card} {n : Option Nat} (hs : Machine.startHire c d s = (t, n))
    (hc : c ∈ s.cards) (hroom : ¬ Config.hirePlaces ≤ s.hires.length) (h : P s) : P t := by
  have := L.startHire hc (Nat.lt_of_not_le hroom) d h
  rwa [hs] at this

theorem hireStart (L : BookLaw P) (fields : List Byte) (p : Port) (h : P s) : P (hireStart fields p s).1 := by
  unfold Machine.hireStart
  dsimp only
  split
  · exact h
  split
  · exact h
  split
  · exact h
  rename_i hroom
  split
  · exact h
  · split
    · exact h
    · exact L.same (claimDock_books _ _ _ s) h
    · rename_i hpass
      split
      · rename_i hs
        exact L.startHire_of hs (cardStep_pass hpass) hroom h
      · exact h

theorem resumeHire (L : BookLaw P) (card d : Nat) (k : BikeKind) (h : P s) : P (resumeHire card d k s).1 := by
  unfold Machine.resumeHire
  split
  · exact h
  · split
    · exact h
    · exact h
    · rename_i hpass
      split
      · exact h
      · rename_i hroom
        split
        · rename_i hs
          exact L.startHire_of hs (cardStep_pass hpass) hroom h
        · exact h

theorem authGrant (L : BookLaw P) (fields : List Byte) (p : Port) (h : P s) : P (authGrant fields p s).1 := by
  unfold Machine.authGrant
  dsimp only
  split
  · exact h
  · split
    · exact h
    · rename_i e _
      have hgrant : P (installGrant (grantCard fields e.card) e s).1 :=
        L.work (becomeHeld_work e.dock _) (L.aslike (L.write (w := []) (grantCard fields e.card) (Nat.zero_le 8) h))
      exact L.raise (.authDone _ _) (L.resumeHire e.card e.dock e.wanted hgrant)

theorem hireCloseRemote (L : BookLaw P) (fields : List Byte) (p : Port) (h : P s) :
    P (hireCloseRemote fields p s).1 := by
  unfold Machine.hireCloseRemote
  dsimp only
  split
  · exact h
  · split
    · exact h
    · rename_i r hr
      split
      · exact h
      · exact L.close _ _ (findHire_mem hr).1 h

theorem hireRestore (L : BookLaw P) (fields : List Byte) (p : Port) (h : P s) : P (hireRestore fields p s).1 := by
  unfold Machine.hireRestore
  dsimp only
  split
  · exact h
  · rename_i hnone
    obtain ⟨hfree, -, hcard, -, hroom⟩ := restoreRefusal_none hnone
    have hentered := L.enter (r := restoredHire (restoreFields fields) (policyIndexOf (restoreFields fields).card s))
      (max s.lastHire (restoreFields fields).hire) (restoreRefusal_none_number hnone) hfree hroom hcard h
    split
    · exact L.makeOverdue _ hentered
    · exact hentered

theorem cardSet (L : BookLaw P) (fields : List Byte) (p : Port) (h : P s) : P (cardSet fields p s).1 := by
  unfold Machine.cardSet
  dsimp only
  split
  · exact h
  · rename_i hcount
    split
    · exact h
    · exact L.writeCards _ _ (by simp [cardSettings]; omega) h

theorem cardRemove (L : BookLaw P) (fields : List Byte) (p : Port) (h : P s) : P (cardRemove fields p s).1 := by
  unfold Machine.cardRemove
  dsimp only
  split
  · exact h
  · rename_i c hc
    split
    · exact h
    · rename_i hopen
      obtain ⟨hc, hid⟩ := findCard_mem hc
      rw [← hid]
      exact L.remove hc (Nat.eq_zero_of_not_pos hopen) h

theorem timeSet (L : BookLaw P) (fields : List Byte) (p : Port) (h : P s) : P (timeSet fields p s).1 := by
  unfold Machine.timeSet
  dsimp only
  split
  · exact h
  · exact L.overdueCheck (L.aslike h)

/-! ## The starts of the station -/

theorem dropDock (L : BookLaw P) (d : Nat) (h : P s) : P (dropDock d s) := by
  rw [dropDock_eq]
  exact L.work (setDock_work d _ _) (L.hireWhenGone d (L.same (missedWhenDropped_tells d s).books h))

theorem applyInstalled (L : BookLaw P) (h : P s) : P (applyInstalled s) := by
  have hrenumbered : P (renumberDocks s) := L.ite (L.foldl (fun _ d ht => L.dropDock d ht) _ h)
    (L.foldl (fun _ d ht => L.work (setDock_work d _ _) ht) _ h)
  rw [applyInstalled_eq]
  exact L.aslike hrenumbered

theorem stationReset (L : BookLaw P) (h : P s) : P (stationReset s) := by
  have hdropped := L.applyInstalled (L.same ((resetFirst_books s).trans (abortBatch_books _)) h)
  have hpatrol : P (resetPatrol (resetDocks (Machine.applyInstalled (abortBatch (resetFirst s))))) :=
    L.aslike (L.same (resetDocks_books _) hdropped)
  have hports := L.same (resetPorts_books _) hpatrol
  exact L.work (auditStep_work _) (L.aslike hports)

theorem onPowerOn (L : BookLaw P) (low : Bool) (s : State) : P (onPowerOn low s) :=
  L.work (((sampleWire_busOnly low _).trans (pollIfLow_busOnly _)).work.trans (auditStep_work _)) (L.blank rfl rfl)

theorem onResetPinHigh (L : BookLaw P) (low : Bool) (h : P s) : P (onResetPinHigh low s) :=
  L.ite (L.work (((sampleWire_busOnly low { s with pinLow := false }).trans (pollIfLow_busOnly _)).work.trans
    (auditStep_work _)) (L.aslike h)) h

/-! ## Frames -/

theorem aside (L : BookLaw P) : Aside fun s t => P s → P t :=
  ⟨fun _ => id, fun _ _ _ _ h => L.aslike h, fun p x s h => L.same (setPort_books p x s) h⟩

/-- Every request's rule, by its code (R169). -/
theorem rule (L : BookLaw P) {code : Byte} {rule : List Byte → Port → State → Answer} (hr : blockRule code = some rule)
    (fields : List Byte) (p : Port) (h : P s) : P (rule fields p s).1 := by
  obtain ⟨take, endN, mask⟩ := L.aside.notices fields p s
  obtain ⟨query, read, card, peek, dock⟩ := L.aside.onlyReads fields p s
  obtain ⟨policy, tariff, attr⟩ := L.aside.tableOnly fields p s
  obtain ⟨bopen, btake, bclose, bread⟩ := batchRequests_books fields p s
  obtain ⟨report, restore, clear⟩ := faultRequests_books fields p s
  have orElse {c : Prop} [Decidable c] {a : List Byte → Port → State → Answer}
      {o : Option (List Byte → Port → State → Answer)} (ha : P (a fields p s).1)
      (ho : ∀ r, o = some r → P (r fields p s).1) :
      ∀ r, (if c then some a else o) = some r → P (r fields p s).1 := by
    intro r hr
    split at hr
    · cases hr
      exact ha
    · exact ho r hr
  suffices hall : ∀ r, blockRule code = some r → P (r fields p s).1 from hall rule hr
  exact orElse (take h) <| orElse h <| orElse (endN h) <| orElse (mask h) <| orElse (dock h) <| orElse h <|
    orElse (L.hireStart fields p h) <| orElse (query h) <| orElse (L.same report h) <| orElse h <|
    orElse (L.cardSet fields p h) <| orElse (L.cardRemove fields p h) <| orElse (card h) <| orElse h <|
    orElse (L.authGrant fields p h) <| orElse (L.same (authDeny_books fields p s) h) <|
    orElse (L.same (linkState_books fields p s) h) <|
    orElse (policy h) <| orElse (tariff h) <| orElse (attr h) <| orElse (L.hireCloseRemote fields p h) <|
    orElse (L.hireRestore fields p h) <| orElse (read h) <| orElse (peek h) <|
    orElse (L.same (journalRelease_books fields p s) h) <| orElse (L.same (configSet_books fields p s) h) <|
    orElse (L.timeSet fields p h) <| orElse (L.stationReset h) <| orElse (L.same (fullAudit_books fields p s) h) <|
    orElse (L.same bopen h) <| orElse (L.same btake h) <| orElse (L.same bclose h) <| orElse (L.same bread h) <|
    orElse (L.same restore h) <| orElse (L.same clear h) fun _ h => absurd h nofun

/-- A request frame that is taken (R168, R169). -/
theorem takeFrame (L : BookLaw P) (fr : Frame) (p : Port) (h : P s) : P (takeFrame fr p s) := by
  suffices ha : P (answerTo fr p s).1 from L.same (modPort_books p _ _) ha
  unfold answerTo
  split
  · exact h
  · split
    · rename_i hr
      exact L.rule hr _ p h
    · exact h

theorem frameCompletes (L : BookLaw P) (fr : Frame) (p : Port) (h : P s) : P (frameCompletes fr p s) :=
  L.ite h (L.ite (L.same (modPort_books p _ s) h) (L.takeFrame fr p h))

theorem frameArrives (L : BookLaw P) (p : Port) (code tag : Byte) (fields : List Byte) (h : P s) :
    P (frameArrives p code tag fields s) := L.ite h (L.frameCompletes _ p (L.same (modPort_books p _ s) h))

theorem searchOn (L : BookLaw P) (n : Nat) (p : Port) (h : P s) : P (searchOn n p s) := by
  induction n generalizing s with
  | zero => exact h
  | succ n ih =>
    unfold Machine.searchOn
    dsimp only
    split
    · exact ih (L.frameCompletes _ p (L.same (modPort_books p _ s) h))
    · exact L.same (modPort_books p _ s) h

theorem onReplySent (L : BookLaw P) (p : Port) (h : P s) : P (onReplySent p s) := by
  have hsent (f : PortState → PortState) : P (modPort p f s) := L.same (modPort_books p f s) h
  unfold Machine.onReplySent
  dsimp only
  split
  · exact h
  · split
    · exact L.takeFrame _ p (hsent _)
    · exact hsent _

/-- The rows of a port's line that take no frame (R166, R167). -/
theorem line (L : BookLaw P) (p : Port) (length : Byte) (h : P s) : P (onInterByteTimeout p s) ∧
    P (onFrameAttemptEnded p length s) ∧ P (onPortReset p s) ∧ P (onLineReturnsToMarking p s) := by
  have hport (f : PortState → PortState) : P (modPort p f s) := L.same (modPort_books p f s) h
  exact ⟨L.ite h (hport _), L.ite h (hport _), L.ite h (L.same (setPort_books p _ s) h), L.ite (hport _) h⟩

/-! ## Every command -/

theorem exec (L : BookLaw P) (h : P s) {c : Instr} (he : exec c s = .next t) : P t := by
  have frame (p : Port) (code tag : Byte) (fields : List Byte) : P (Machine.frameArrives p code tag fields s) :=
    L.frameArrives p code tag fields h
  cases c <;> cases he
  case powerOn low => exact L.onPowerOn low s
  case resetPinLow => exact L.ite h (L.stationReset (L.aslike h))
  case resetPinHigh low => exact L.onResetPinHigh low h
  case secondTick => exact L.onSecondTick h
  case stationMinuteIncrease => exact L.ite (L.aslike (L.endMinute h)) h
  case releaseWindowExpiry d => exact L.ite (L.same (closeWith_books _ d s) h) h
  case ejectWindowExpiry d => exact L.ite (L.same (closeWith_books _ d s) h) h
  case authTimeout => exact L.same (onAuthTimeout_books s) h
  case batchIdleExpiry => exact L.same (onBatchIdleExpiry_books s) h
  case senseTimerExpiry d => exact L.ite (L.same (modDock_books d _ s) h) h
  case patrolIntervalExpiry => exact L.same (onPatrolIntervalExpiry_books s) h
  case patrolPostscalerExpiry => exact L.same (onPatrolPostscalerExpiry_books s) h
  case leak => exact L.same (onLeak_books s) h
  case pollHoldoffClear low => exact L.same (onPollHoldoffClear_books low s) h
  case identRereadRetry => exact L.same (onIdentRereadRetry_books s) h
  case auditPass => exact L.same (onAuditPass_books s) h
  case dockAttentionLow => exact L.bus ((sampleWire_busOnly true s).trans (pollIfLow_busOnly _)) h
  case dockCommandSent => exact L.bus (modBus_busOnly _ s) h
  case dockResponseTimeout => exact L.onDockResponseTimeout h
  case dockFrameIgnored bytes low =>
    exact L.ite h (L.bus ((ignoreFrame_busOnly s).trans (sampleWire_busOnly low _)) h)
  case opened dock => exact L.repliedOrIgnored (fun c _ ht => L.same (openedFor_books c _) ht) dock _ h
  case lockedWith dock tag kind => exact L.repliedOrIgnored (fun c _ ht => L.lockedWithFor c _ _ ht) dock _ h
  case lockedEmpty dock => exact L.repliedOrIgnored (fun c _ ht => L.lockedEmptyFor c ht) dock _ h
  case statusIs dock tag flags => exact L.repliedOrIgnored (fun c _ ht => L.statusFor c _ ht) dock _ h
  case senseStarted dock =>
    exact L.repliedOrIgnored (fun c _ ht => L.same (senseStartedAt_books c.dock _) ht) dock _ h
  case noEvent dock => exact L.ite (L.bus (pollEnded_busOnly s) h) (L.bus (ignoreFrame_busOnly s) h)
  case inserted dock tag kind low => exact L.eventIs (fun d _ ht => L.arrive d _ _ ht) dock low h
  case removed dock low => exact L.eventIs (fun d _ ht => L.bikeRemoved d ht) dock low h
  case lockFault dock low => exact L.eventIs (fun d _ ht => L.work (reportDock_work d _ _ _) ht) dock low h
  case senseDone dock level low => exact L.eventIs (fun d _ ht => L.same (senseDoneAt_books d _ _) ht) dock low h
  case requestFrameBadCheck p bytes => exact L.ite h (L.searchOn _ p (L.same (modPort_books p _ s) h))
  case interByteTimeout p => exact (L.line p 0 h).1
  case framingError p => exact (L.line p 0 h).1
  case frameAttemptEnded p length => exact (L.line p length h).2.1
  case portReset p => exact (L.line p 0 h).2.2.1
  case lineReturnsToMarking p => exact (L.line p 0 h).2.2.2
  case replySent p => exact L.onReplySent p h
  case dockFrameKindDiscarded dock kind => exact L.ite h (L.bus (modBus_busOnly _ s) h)
  all_goals exact frame _ _ _ _

/-- A step takes a command off the queue and carries it out, or leaves the part idle. -/
theorem step (L : BookLaw P) (h : P s) (hs : step s = .next t) : P t := by
  unfold Machine.step at hs
  split at hs
  · cases hs
    exact h
  · exact L.exec (L.aslike h) hs

end BookLaw

end Sys2Proof.Machine
end

section
/-! PROOFS. The Card Table beside the hire records is a law of the books: `Accounts` with at most 96 hires of distinct
numbers. -/

namespace Sys2Proof.Machine

variable {s t : State} {hires : List Hire} {r : Hire}

/-- The Card Table agrees with at most 96 hires, which have distinct numbers (R63, R83). -/
structure Booked (s : State) : Prop where
  few : s.hires.length ≤ Config.hirePlaces
  numbers : (s.hires.map Hire.number).Nodup
  accounts : Accounts s.hires s.cards

theorem booked_iff (s : State) : Booked s ↔ cardLaw s = true ∧ s.hires.length ≤ 96 ∧ (s.hires.map Hire.number).Nodup ∧
    ∀ r ∈ s.hires, (findCard r.card s).isSome := by
  rw [cardLaw_iff]
  constructor
  · rintro ⟨hfew, hnumbers, ha⟩
    exact ⟨⟨ha.few, ha.ids, fun c hc => ⟨ha.balance c hc, ha.count c hc, ha.held c hc⟩⟩, hfew, hnumbers,
      fun r hr => findCard_isSome_iff.mpr (ha.carded r hr)⟩
  · rintro ⟨⟨hcards, hids, hall⟩, hfew, hnumbers, hcarded⟩
    exact ⟨hfew, hnumbers, hcards, hids, fun c hc => (hall c hc).1, fun c hc => (hall c hc).2.1,
      fun c hc => (hall c hc).2.2, fun r hr => findCard_isSome_iff.mp (hcarded r hr)⟩

namespace Booked

theorem like (h : Booked s) (hs : SameBooks s t) : Booked t := by
  obtain ⟨hcards, hhires⟩ := hs
  exact ⟨hhires ▸ h.few, hhires ▸ h.numbers, hcards ▸ hhires ▸ h.accounts⟩

/-- The cards change beside the same hires. -/
theorem withCards (h : Booked s) (ha : Accounts s.hires t.cards) (hh : t.hires = s.hires := by rfl) : Booked t :=
  ⟨hh ▸ h.few, hh ▸ h.numbers, hh ▸ ha⟩

theorem turn (h : Booked s) (n : Nat) {f : Hire → Hire}
    (hf : ∀ r, (f r).number = r.number ∧ (f r).card = r.card ∧ (f r).holdAmount = r.holdAmount) :
    Booked (modHire n f s) := by
  have hsame (r : Hire) : ∀ g : Hire, g = (if r.number == n then f r else r) →
      g.number = r.number ∧ g.card = r.card ∧ g.holdAmount = r.holdAmount := by
    rintro _ rfl
    split
    · exact hf r
    · exact ⟨rfl, rfl, rfl⟩
  have hnumbers : (modHire n f s).hires.map Hire.number = s.hires.map Hire.number := by
    rw [modHire, List.map_map]
    exact List.map_congr_left fun r _ => (hsame r _ rfl).1
  have haccounts : Accounts (modHire n f s).hires s.cards :=
    h.accounts.mapHires (fun r => (hsame r _ rfl).2.1) fun r => (hsame r _ rfl).2.2
  exact ⟨by simpa [modHire] using h.few, hnumbers ▸ h.numbers, haccounts⟩

theorem enter (h : Booked s) (n : Nat) (hfree : r.number ∉ s.hires.map Hire.number)
    (hroom : s.hires.length < Config.hirePlaces) (hcard : ∃ c ∈ s.cards, c.id = r.card) :
    Booked (placeHold r.card r.holdAmount { s with hires := s.hires ++ [r], lastHire := n }) := by
  have hperm : (r :: s.hires).Perm (s.hires ++ [r]) := List.perm_append_comm (l₁ := [r])
  refine ⟨?_, ?_, Accounts.perm ?_ hperm⟩
  · simp only [placeHold, modCard_hires, List.length_append, List.length_singleton]
    omega
  · exact (hperm.map _).nodup_iff.mp (List.nodup_cons.mpr ⟨hfree, h.numbers⟩)
  · exact h.accounts.add (g := fun c => { c with
      held := c.held + r.holdAmount, openCount := c.openCount + 1, lastUse := s.now })
      (fun _ => rfl) (fun _ => rfl) (fun _ => rfl) (fun _ => rfl) hcard

/-- A hire leaves, and its card's hold with it (R73, R74). -/
theorem leave (h : Booked s) (hr : r ∈ s.hires) {g : Card → Card} (hid : ∀ c, (g c).id = c.id)
    (hb : ∀ c ∈ s.cards, Config.balanceLow ≤ (g c).balance ∧ (g c).balance ≤ Config.balanceHigh)
    (ho : ∀ c, (g c).openCount = c.openCount - 1) (hh : ∀ c, (g c).held = c.held - r.holdAmount) :
    Booked (dropHire r.number (modCard r.card g s)) :=
  ⟨(List.length_filter_le _ _).trans h.few, h.numbers.sublist (List.filter_sublist.map _),
    (h.accounts.perm (hires_perm h.numbers hr)).drop hid hb ho hh⟩

theorem blockIfNegative (h : Booked s) (i : Nat) : Booked (blockIfNegative i s) := by
  unfold Machine.blockIfNegative
  split
  · split
    · have hblocked : Booked (modCard i (fun x => { x with standing := .blocked }) s) :=
        h.withCards (h.accounts.rewrite i (fun _ => rfl) h.accounts.balance (fun _ => rfl) fun _ => rfl)
      exact hblocked.like (enterRecord_books _ _)
    · exact h
  · exact h

theorem close (h : Booked s) (hr : r ∈ s.hires) (e : Nat) (p : Place) : Booked (closeHire r e p s) := by
  have hsettled : Booked (dropHire r.number (settle r.card r.holdAmount (hireCharge r e) s)) :=
    h.leave hr (fun _ => rfl) (fun c hc => settledBalance_range (h.accounts.balance c hc) _) (fun _ => rfl) fun _ => rfl
  exact (hsettled.like (enterRecord_books _ _)).blockIfNegative _

/-- A card is written, into its entry or a new one (R64). -/
theorem write (h : Booked s) (c : CardSetting) {w : List Nat} (hw : w.length ≤ 8) : Booked (writeCard w c s).1 := by
  unfold Machine.writeCard
  split
  · exact h.withCards (h.accounts.rewrite c.card (fun _ => rfl) (fun _ _ => clampBalance_range _) (fun _ => rfl)
      fun _ => rfl)
  · rename_i hnone
    dsimp only
    rw [makeCardRoom_eq]
    obtain ⟨hroom, hlen, hsub⟩ := h.accounts.makeRoom h.few hw
    exact h.withCards (hroom.insert hlen (fun hm => findCard_none hnone (hsub hm)) (clampBalance_range _) rfl rfl)

end Booked

/-- Every deal in the cards and the hires keeps them in agreement. -/
theorem booked_bookLaw : BookLaw Booked where
  same hs h := h.like hs
  blank {s} hcards hhires := by
    refine ⟨?_, ?_, ⟨?_, ?_, ?_, ?_, ?_, ?_⟩⟩ <;> simp [hcards, hhires]
  turn n _ hf h := h.turn n hf
  enter n _ hfree hroom hcard h := h.enter n hfree hroom hcard
  cancel hr h := h.leave hr (fun _ => rfl) h.accounts.balance (fun _ => rfl) fun _ => rfl
  close e p hr h := h.close hr e p
  write c hw h := h.write c hw
  remove hc ho h := h.withCards (h.accounts.remove hc ho)

end Sys2Proof.Machine

namespace Sys2Proof.Settled

open Sys2Proof.Machine

/-- Settles O33: `Booked` is a law of the books, and such a law holds at power-on and is kept by every step. -/
theorem cardTableLawKept : Obligations.CardTableLawKept :=
  ⟨(booked_iff _).mp (booked_bookLaw.blank rfl rfl), fun s t h hs =>
    (booked_iff t).mp (booked_bookLaw.step ((booked_iff s).mpr h) hs)⟩

end Sys2Proof.Settled
end

section
/-! PROOFS. The requests on cards, policies and authorizations that read a table or replace one entry of it: CARD_READ,
AUTH_LIST, POLICY_SET, TARIFF_SET (R67, R69, R82, R91). -/

namespace Sys2Proof.Machine

variable {s : State} {p : Port} {tag : Byte} {fields : List Byte} {checks : List Bool}

/-! ## Codes in a reply -/

theorem standing_code (x : Standing) : x.code = if x = .blocked then 1 else 0 := by cases x <;> rfl

theorem bikeKind_code (k : BikeKind) : k.code = if k = .electric then 1 else 0 := by cases k <;> rfl

/-- The fields of an Auth Queue entry in their widths (R82, R170). -/
theorem authFields_eq : authFields = fun e => [.num 1 e.tag, .num 7 e.card, .num 1 e.dock,
    .num 1 (if e.wanted = .electric then 1 else 0), .num 1 e.remaining] := by
  funext e
  rw [← bikeKind_code]
  rfl

/-! ## Range checks -/

theorem firstBad_none (h : ∀ b ∈ checks, b = true) : firstBad checks = none := by
  simpa [firstBad, List.findIdx?_eq_none_iff] using h

theorem firstBad_some (h : ¬ ∀ b ∈ checks, b = true) : ∃ i, firstBad checks = some i := by
  refine Option.isSome_iff_exists.mp ?_
  simpa [firstBad] using h

theorem policyChecks_iff (index electric : Nat) (e : Policy) : (∀ b ∈ policyChecks index electric e, b = true) ↔
    index ≤ 7 ∧ e.tariff ≤ 3 ∧ e.holdAmount ≤ 20000 ∧ e.maxHires ≤ 4 ∧ electric ≤ 1 ∧ e.discount ≤ 90 ∧
      30 ≤ e.maxDuration ∧ e.maxDuration ≤ 2880 := by
  simp [policyChecks]

theorem tariffChecks_iff (number : Nat) (e : Tariff) : (∀ b ∈ tariffChecks number e, b = true) ↔
    number ≤ 3 ∧ e.a ≤ 240 ∧ 1 ≤ e.b ∧ e.b ≤ 120 ∧ e.p ≤ 2000 ∧ e.q ≤ 1000 ∧ e.c ≤ 50000 := by
  simp [tariffChecks, and_assoc]

/-! ## The rules -/

theorem policySet_good (h : ∀ b ∈ policyChecks (numAt fields 0 1) (numAt fields 5 1) (policyFields fields), b = true) :
    policySet fields p s =
      ({ s with policies := s.policies.setIfInBounds (numAt fields 0 1) (policyFields fields) }, .ok, []) := by
  unfold policySet
  simp only [firstBad_none h]

theorem policySet_bad (h : ¬ ∀ b ∈ policyChecks (numAt fields 0 1) (numAt fields 5 1) (policyFields fields), b = true) :
    ∃ i, ∀ s, policySet fields p s = (s, .refusedRange, [.num 1 i]) := by
  obtain ⟨i, hi⟩ := firstBad_some h
  refine ⟨i, fun s => ?_⟩
  unfold policySet
  simp only [hi]
  rfl

theorem tariffSet_good (h : ∀ b ∈ tariffChecks (numAt fields 0 1) (tariffFields fields), b = true) :
    tariffSet fields p s =
      ({ s with tariffs := s.tariffs.setIfInBounds (numAt fields 0 1) (tariffFields fields) }, .ok, []) := by
  unfold tariffSet
  simp only [firstBad_none h]

theorem tariffSet_bad (h : ¬ ∀ b ∈ tariffChecks (numAt fields 0 1) (tariffFields fields), b = true) :
    ∃ i, ∀ s, tariffSet fields p s = (s, .refusedRange, [.num 1 i]) := by
  obtain ⟨i, hi⟩ := firstBad_some h
  refine ⟨i, fun s => ?_⟩
  unfold tariffSet
  simp only [hi]
  rfl

/-! ## The UPLINK while the station starts -/

/-- A request of the UPLINK that only a READY station takes, with fields of its size (R169). -/
theorem frameArrives_starting {code : Byte} {row : RequestRow} (hf : Free p s) (hp : p = .uplink)
    (hc : replyCode code = code + 0x80#8) (hrow : requestRow code = some row) (hports : row.uplink = true)
    (hready : row.starting = false) (hsize : row.size.agrees fields = true) (hs : s.station = .starting) :
    frameArrives p code tag fields s = Reads code tag p .starting [] s := by
  subst hp
  refine frameArrives_refused hf hc ?_
  simp [portChecks, hrow, RequestRow.takenOn, hports, hsize, hs, hready]

end Sys2Proof.Machine

namespace Sys2Proof.Settled

open Sys2Proof.Machine

/-- Settles O28: the entry's fields in their widths, from the table alone. -/
theorem cardRead : Obligations.CardRead := by
  intro s p tag fields
  refine ⟨fun hf hp hlen hs => ?_, fun h hnone => ?_, fun c h hc => ?_⟩
  · exact congrArg Host.Outcome.next (frameArrives_starting hf hp rfl rfl rfl rfl (by simp [FieldSize.agrees, hlen]) hs)
  · refine congrArg Host.Outcome.next (frameArrives_reads h rfl rfl fun t ht => ?_)
    simp only [Machine.cardRead, ht, findCard_modPort, hnone]
    rfl
  · refine congrArg Host.Outcome.next (frameArrives_reads h rfl rfl fun t ht => ?_)
    simp only [Machine.cardRead, ht, findCard_modPort, hc, cardFields, standing_code]
    rfl

/-- Settles O32: the queue's entries one by one, in its order. -/
theorem authList : Obligations.AuthList := by
  intro s p tag fields
  refine ⟨fun hf hp hnil hs => ?_, fun h => ?_⟩
  · exact congrArg Host.Outcome.next (frameArrives_starting hf hp rfl rfl rfl rfl (by simp [FieldSize.agrees, hnil]) hs)
  · refine congrArg Host.Outcome.next (frameArrives_reads h rfl rfl fun t ht => ?_)
    have hqueue : t.authQueue = s.authQueue := ht ▸ modPort_authQueue p _ s
    simp only [Machine.authList, hqueue, authFields_eq]
    rfl

/-- Settles O29: the range checks of R68 and R90 stand or fall as a whole, and past them one entry is replaced. -/
theorem policyAndTariffSet : Obligations.PolicyAndTariffSet := by
  intro s p tag fields
  refine ⟨fun h => ?_, fun h => ?_⟩
  · intro e good
    have hchecks : (∀ b ∈ policyChecks (numAt fields 0 1) (numAt fields 5 1) e, b = true) ↔ good := policyChecks_iff _ _ e
    refine ⟨fun hgood => congrArg Host.Outcome.next (frameArrives_taken h rfl rfl ?_), fun hbad => ?_⟩
    · rw [policySet_good (hchecks.mpr hgood)]
      cases p <;> rfl
    · obtain ⟨i, hi⟩ := policySet_bad (p := p) (mt hchecks.mp hbad)
      exact ⟨i, congrArg Host.Outcome.next (frameArrives_reads h rfl rfl fun t _ => hi t)⟩
  · intro e good
    have hchecks : (∀ b ∈ tariffChecks (numAt fields 0 1) e, b = true) ↔ good := tariffChecks_iff _ e
    refine ⟨fun hgood => congrArg Host.Outcome.next (frameArrives_taken h rfl rfl ?_), fun hbad => ?_⟩
    · rw [tariffSet_good (hchecks.mpr hgood)]
      cases p <;> rfl
    · obtain ⟨i, hi⟩ := tariffSet_bad (p := p) (mt hchecks.mp hbad)
      exact ⟨i, congrArg Host.Outcome.next (frameArrives_reads h rfl rfl fun t _ => hi t)⟩

end Sys2Proof.Settled
end

section
/-! PROOFS. HIRE_RESTORE (R72, R100, R101). -/

namespace Sys2Proof.Machine

variable {s : State} {p : Port} {tag : Byte} {fields : List Byte} {f : Restore} {r : Result} {reply : List ReplyField}
  {c : Card} {policy : Nat}

/-- The partial frame that a completed request leaves behind is not heard by the journal, nor by a notice. -/
theorem unheard_received (p : Port) : Unheard (received p) := by
  refine ⟨fun s => modPort_journal p _ s, fun s => modPort_settings p _ s, fun s => modPort_clock p _ s, fun j s => ?_,
    fun n s => ?_⟩
  · cases p <;> rfl
  · unfold raise
    cases p <;> cases n.kind.port <;> rfl

/-! ## The checks, in their order (R100) -/

theorem restoreChecks_iff (f : Restore) : (∀ b ∈ restoreChecks f, b = true) ↔
    f.hire ≠ 0 ∧ f.card ≠ 0 ∧ f.bike ≠ 0 ∧ f.kind ≤ 1 ∧ f.hold ≤ 20000 ∧ f.terms.a ≤ 240 ∧ 1 ≤ f.terms.b ∧
      f.terms.b ≤ 120 ∧ f.terms.p ≤ 2000 ∧ f.terms.q ≤ 1000 ∧ f.terms.c ≤ 50000 ∧ f.terms.discount ≤ 90 ∧
      30 ≤ f.terms.maxDuration ∧ f.terms.maxDuration ≤ 2880 := by
  simp [restoreChecks, termChecks, and_assoc]

theorem findHire_isSome_iff {n : Nat} : (findHire n s).isSome = true ↔ ∃ r ∈ s.hires, r.number = n := by
  simp [findHire, List.find?_isSome]

theorem bikeDocked_iff {b : Nat} : bikeDocked b s = true ↔ ∃ d, d < s.installed ∧ (s.dock d).bike.bind Bike.id = some b := by
  simp [bikeDocked, State.installedDocks, recordedId]

theorem restoreRefusal_range (h : ¬ ∀ b ∈ restoreChecks f, b = true) :
    ∃ i, ∀ s, restoreRefusal f s = some (.refusedRange, [.num 1 1, .num 1 i]) := by
  obtain ⟨i, hi⟩ := firstBad_some h
  refine ⟨i, fun s => ?_⟩
  simp only [restoreRefusal, hi]
  rfl

theorem restoreRefusal_future (hr : ∀ b ∈ restoreChecks f, b = true) (h : s.now < f.start) :
    restoreRefusal f s = some (.refusedRange, [.num 1 2]) := by
  simp only [restoreRefusal, firstBad_none hr, if_pos h]
  rfl

/-- Every field lies in its range, and the hire does not start in the future: steps 1 and 2 of R100. -/
structure RestoreInRange (f : Restore) (s : State) : Prop where
  range : ∀ b ∈ restoreChecks f, b = true
  start : f.start ≤ s.now

theorem restoreRefusal_number (h : RestoreInRange f s) (hn : ∃ r ∈ s.hires, r.number = f.hire) :
    restoreRefusal f s = some (.refusedRange, [.num 1 3]) := by
  simp only [restoreRefusal, firstBad_none h.range, if_neg (Nat.not_lt.mpr h.start), if_pos (findHire_isSome_iff.mpr hn)]
  rfl

theorem restoreRefusal_bike (h : RestoreInRange f s) (hn : ∀ r ∈ s.hires, r.number ≠ f.hire)
    (hb : ∃ r ∈ s.hires, r.bike = f.bike) : restoreRefusal f s = some (.refusedRange, [.num 1 4]) := by
  have hfree : ¬ (findHire f.hire s).isSome = true := by simpa [findHire_isSome_iff] using hn
  simp only [restoreRefusal, firstBad_none h.range, if_neg (Nat.not_lt.mpr h.start), if_neg hfree]
  exact if_pos (by simpa using hb)

/-- No hire has the number, and none has the bike: steps 3 and 4 of R100. -/
structure RestoreFree (f : Restore) (s : State) : Prop extends RestoreInRange f s where
  number : ∀ r ∈ s.hires, r.number ≠ f.hire
  bike : ∀ r ∈ s.hires, r.bike ≠ f.bike

theorem RestoreFree.not_found (h : RestoreFree f s) : ¬ (findHire f.hire s).isSome = true := by
  simpa [findHire_isSome_iff] using h.number

theorem RestoreFree.not_hired (h : RestoreFree f s) : ¬ (s.hires.any fun r => r.bike == f.bike) = true := by
  simpa using h.bike

theorem restoreRefusal_absent (h : RestoreFree f s) (hc : findCard f.card s = none) :
    restoreRefusal f s = some (.notFound, []) := by
  simp only [restoreRefusal, firstBad_none h.range, if_neg (Nat.not_lt.mpr h.start), if_neg h.not_found, if_neg h.not_hired,
    hc]

/-- The last steps of R100 for a card in the table. -/
theorem restoreRefusal_card (h : RestoreFree f s) (hc : findCard f.card s = some c) : restoreRefusal f s =
    if bikeDocked f.bike s then some (.bikeDocked, [])
    else if Config.hirePlaces ≤ s.hires.length then some (.registerFull, [])
    else if 4 ≤ c.openCount then some (.cardLimit, [])
    else none := by
  simp only [restoreRefusal, firstBad_none h.range, if_neg (Nat.not_lt.mpr h.start), if_neg h.not_found, if_neg h.not_hired,
    hc]

theorem restoreRefusal_docked (h : RestoreFree f s) (hc : findCard f.card s = some c) (hd : bikeDocked f.bike s = true) :
    restoreRefusal f s = some (.bikeDocked, []) := (restoreRefusal_card h hc).trans (if_pos hd)

section
variable (h : RestoreFree f s) (hc : findCard f.card s = some c) (hd : bikeDocked f.bike s = false)
include h hc hd

theorem restoreRefusal_full (hfull : 96 ≤ s.hires.length) : restoreRefusal f s = some (.registerFull, []) := by
  rw [restoreRefusal_card h hc, if_neg (by simp [hd])]
  exact if_pos hfull

theorem restoreRefusal_limit (hroom : s.hires.length < 96) (hlimit : 4 ≤ c.openCount) :
    restoreRefusal f s = some (.cardLimit, []) := by
  rw [restoreRefusal_card h hc, if_neg (by simp [hd]), if_pos hlimit]
  exact if_neg (Nat.not_le.mpr hroom)

theorem restoreRefusal_passes (hroom : s.hires.length < 96) (hbelow : c.openCount < 4) : restoreRefusal f s = none := by
  rw [restoreRefusal_card h hc, if_neg (by simp [hd]), if_neg (Nat.not_le.mpr hbelow)]
  exact if_neg (Nat.not_le.mpr hroom)

end

/-! ## The record entered (R101) -/

/-- The station with a restored hire and its hold, before the overdue test. -/
def enterRestored (f : Restore) (policy : Nat) (s : State) : State :=
  { placeHold f.card f.hold s with
    hires := s.hires ++ [restoredHire f policy], lastHire := max s.lastHire f.hire }

theorem enterRestored_received (f : Restore) (policy : Nat) (p : Port) (s : State) :
    enterRestored f policy (received p s) = received p (enterRestored f policy s) := by cases p <;> rfl

theorem overdueNow_restored : overdueNow s (restoredHire f policy) = true ↔ f.terms.maxDuration ≤ s.now - f.start := by
  rw [overdueNow, Bool.and_eq_true, decide_eq_true_eq]
  exact and_iff_right rfl

theorem hireRestore_refused (h : restoreRefusal (restoreFields fields) s = some (r, reply)) :
    hireRestore fields p s = (s, r, reply) := by
  simp only [hireRestore, h]

theorem hireRestore_out (h : restoreRefusal (restoreFields fields) s = none)
    (hpolicy : policyIndexOf (restoreFields fields).card s = policy)
    (hnew : s.now - (restoreFields fields).start < (restoreFields fields).terms.maxDuration) :
    hireRestore fields p s =
      (enterRestored (restoreFields fields) policy s, .ok, [.num 2 (restoreFields fields).hire, .num 1 1]) := by
  subst hpolicy
  simp only [hireRestore, h]
  exact if_neg (mt overdueNow_restored.mp (Nat.not_le.mpr hnew))

theorem hireRestore_overdue (h : restoreRefusal (restoreFields fields) s = none)
    (hpolicy : policyIndexOf (restoreFields fields).card s = policy)
    (hold : (restoreFields fields).terms.maxDuration ≤ s.now - (restoreFields fields).start) :
    hireRestore fields p s = (makeOverdue (restoredHire (restoreFields fields) policy)
        (enterRestored (restoreFields fields) policy s), .ok, [.num 2 (restoreFields fields).hire, .num 1 2]) := by
  subst hpolicy
  simp only [hireRestore, h]
  exact if_pos (overdueNow_restored.mpr hold)

/-- Only the hire just entered has its number, so only that one becomes OVERDUE (R96). -/
theorem modHire_enterRestored (hfree : ∀ r ∈ s.hires, r.number ≠ f.hire) (g : Hire → Hire) :
    modHire f.hire g (enterRestored f policy s) =
      { enterRestored f policy s with hires := s.hires ++ [g (restoredHire f policy)] } := by
  have hrest : s.hires.map (fun r => if r.number == f.hire then g r else r) = s.hires := by
    refine (List.map_congr_left fun r hr => ?_).trans (List.map_id s.hires)
    exact if_neg (by simpa using hfree r hr)
  simp only [modHire, enterRestored, List.map_append, hrest, List.map_singleton, restoredHire, beq_self_eq_true, if_true]

theorem makeOverdue_received (r : Hire) (p : Port) (s : State) :
    makeOverdue r (received p s) = received p (makeOverdue r s) := by
  have hturned : modHire r.number (fun x => { x with state := .overdue }) (received p s) =
      received p (modHire r.number (fun x => { x with state := .overdue }) s) := by cases p <;> rfl
  unfold makeOverdue
  rw [hturned, (unheard_received p).raised, (unheard_received p).entered]

/-! ## The frame -/

theorem exec_hireRestore_refused (h : Taken 0x2D#8 p fields s)
    (hr : restoreRefusal (restoreFields fields) s = some (r, reply)) :
    exec (.hireRestore p tag fields) s = .next (Reads 0x2D#8 tag p r reply s) :=
  congrArg Host.Outcome.next (frameArrives_reads h rfl rfl fun _ ht =>
    hireRestore_refused (by rw [ht, restoreRefusal_modPort, hr]))

end Sys2Proof.Machine

namespace Sys2Proof.Settled

open Sys2Proof.Machine

/-- Settles O37: the checks of R100 in their order, then the record entered, and made OVERDUE where it already is. -/
theorem hireRestore : Obligations.HireRestore := by
  intro s p tag fields htaken f inRange free undocked no
  have hrange : (∀ b ∈ restoreChecks f, b = true) ↔ inRange := restoreChecks_iff f
  have hundocked : bikeDocked f.bike s = false ↔ undocked := by
    rw [← Bool.not_eq_true, bikeDocked_iff]
    simp [undocked]
  have hno {r : Result} {reply : List ReplyField} (h : restoreRefusal f s = some (r, reply)) : no r reply :=
    exec_hireRestore_refused htaken h
  refine ⟨fun hbad => ?_, fun hin hfuture => hno (restoreRefusal_future (hrange.mpr hin) hfuture),
    fun hin hstart hn => hno (restoreRefusal_number ⟨hrange.mpr hin, hstart⟩ hn),
    fun hin hstart hn hb => hno (restoreRefusal_bike ⟨hrange.mpr hin, hstart⟩ hn hb), fun hin hstart hfree hc => ?_,
    fun c hc hin hstart hfree => ?_⟩
  · obtain ⟨i, hi⟩ := restoreRefusal_range (mt hrange.mp hbad)
    exact ⟨i, hno (hi s)⟩
  · exact hno (restoreRefusal_absent ⟨⟨hrange.mpr hin, hstart⟩, hfree.1, hfree.2⟩ hc)
  · have hpasses : RestoreFree f s := ⟨⟨hrange.mpr hin, hstart⟩, hfree.1, hfree.2⟩
    refine ⟨fun hd => hno (restoreRefusal_docked hpasses hc (by simpa using mt hundocked.mp hd)),
      fun hd hlen => hno (restoreRefusal_full hpasses hc (hundocked.mpr hd) hlen),
      fun hd hlen ho => hno (restoreRefusal_limit hpasses hc (hundocked.mpr hd) hlen ho), ?_⟩
    intro hd hlen ho r entered
    have hnone : restoreRefusal f (received p s) = none :=
      (restoreRefusal_modPort p _ s f).trans (restoreRefusal_passes hpasses hc (hundocked.mpr hd) hlen ho)
    have hpolicy : policyIndexOf f.card (received p s) = c.policyIndex := by
      rw [policyIndexOf_modPort, policyIndexOf, hc]
    have hentered : enterRestored f c.policyIndex s = entered .out := by
      simp only [enterRestored, placeHold, modCard, beq_iff_eq]
      rfl
    refine ⟨fun hnew => ?_, fun hold => ?_⟩
    · refine congrArg Host.Outcome.next (frameArrives_taken htaken rfl rfl ?_)
      rw [hireRestore_out hnone hpolicy (by rw [modPort_now]; exact hnew), enterRestored_received, hentered]
    · refine congrArg Host.Outcome.next (frameArrives_taken htaken rfl rfl ?_)
      rw [hireRestore_overdue hnone hpolicy (by rw [modPort_now]; exact hold), enterRestored_received,
        makeOverdue_received, makeOverdue, show (restoredHire f c.policyIndex).number = f.hire from rfl, modHire_enterRestored hfree.1, hentered]
      rfl

end Sys2Proof.Settled
end

section
/-! PROOFS. Cards written and removed: CARD_SET and CARD_REMOVE (R64, R65, R66). -/

namespace Sys2Proof.Machine

variable {s : State} {p : Port} {fields : List Byte} {c v : Card} {x : CardSetting} {w : List Nat}

/-! ## One setting applied (R64) -/

/-- An entry with its flags, standing and balance replaced. -/
def CardSetting.written (x : CardSetting) (c : Card) : Card :=
  { c with subscriber := fieldBool x.subscriber, concession := fieldBool x.concession, deposit := fieldBool x.deposit,
           standing := fieldStanding x.standing, balance := clampBalance x.balance }

/-- The entry made for a card that has none. -/
def CardSetting.made (x : CardSetting) (minute : Nat) : Card :=
  x.written { id := x.card, subscriber := false, concession := false, deposit := false, standing := .good, balance := 0,
              held := 0, openCount := 0, lastUse := minute }

theorem writeCard_present (h : (findCard x.card s).isSome) : writeCard w x s = (modCard x.card x.written s, false, none) := by
  obtain ⟨c, hc⟩ := Option.isSome_iff_exists.mp h
  unfold writeCard
  rw [hc]
  rfl

theorem writeCard_room (h : findCard x.card s = none) (hroom : s.cards.length < Config.cardPlaces) :
    writeCard w x s = ({ s with cards := s.cards ++ [x.made s.now] }, true, none) := by
  have hmade : makeCardRoom w s = (s, none) := if_neg (Nat.not_le.mpr hroom)
  unfold writeCard
  rw [h]
  dsimp only
  rw [hmade]
  rfl

theorem writeCard_evicts (h : findCard x.card s = none) (hfull : Config.cardPlaces ≤ s.cards.length)
    (hv : evictionChoice w s = some v) : writeCard w x s =
      ({ s with cards := (s.cards.filter fun c => c.id != v.id) ++ [x.made s.now] }, true, some v.id) := by
  have hmade : makeCardRoom w s = ({ s with cards := s.cards.filter fun c => c.id != v.id }, some v.id) := by
    unfold makeCardRoom
    rw [if_pos hfull, hv]
  unfold writeCard
  rw [h]
  dsimp only
  rw [hmade]
  rfl

/-- The card with no open hires that was used longest ago, the smaller id first, is evicted (R65). -/
theorem evictionChoice_eq (hv : v ∈ s.cards) (ho : v.openCount = 0)
    (h : ∀ c ∈ s.cards, c.openCount = 0 → c = v ∨ v.lastUse < c.lastUse ∨ (v.lastUse = c.lastUse ∧ v.id < c.id)) :
    evictionChoice [] s = some v := by
  refine bestBy_eq (List.mem_filter.mpr ⟨hv, by simp [ho]⟩) fun c hc hne => ?_
  obtain ⟨hc, hopen⟩ := List.mem_filter.mp hc
  have holder := (h c hc (by simpa using hopen)).resolve_left hne
  simp only [evictBefore, Bool.or_eq_true, Bool.or_eq_false_iff, Bool.and_eq_true, Bool.and_eq_false_iff, decide_eq_true_eq,
    decide_eq_false_iff_not, beq_iff_eq, beq_eq_false_iff_ne]
  omega

/-! ## A CARD_SET of one setting -/

/-- The first setting that a CARD_SET carries (R170). -/
def firstCardSetting (fields : List Byte) : CardSetting where
  card := numAt fields 1 7
  subscriber := numAt fields 8 1
  concession := numAt fields 9 1
  deposit := numAt fields 10 1
  standing := numAt fields 11 1
  balance := signed 4 (numAt fields 12 4)

theorem cardSettings_one (h : numAt fields 0 1 = 1) : cardSettings fields = [firstCardSetting fields] := by
  unfold cardSettings
  rw [h]
  rfl

theorem flagsGood_iff (x : CardSetting) :
    x.flagsGood = true ↔ x.subscriber ≤ 1 ∧ x.concession ≤ 1 ∧ x.deposit ≤ 1 ∧ x.standing ≤ 1 := by
  simp [CardSetting.flagsGood, and_assoc]

theorem badCardSetting_none (hid : x.card ≠ 0) (hflags : x.flagsGood = true) : badCardSetting [x] = none := by
  simp [badCardSetting, firstBad, List.findIdx?_cons, hid, hflags]

theorem badCardSetting_one (h : ¬ (x.card ≠ 0 ∧ x.flagsGood = true)) : badCardSetting [x] = some 1 := by
  have hbad : (x.card != 0 && x.flagsGood) = false := by
    rw [← Bool.not_eq_true, Bool.and_eq_true, bne_iff_ne]
    exact h
  simp [badCardSetting, firstBad, List.findIdx?_cons, hbad]

theorem cardSet_count (h : numAt fields 0 1 = 0 ∨ 8 < numAt fields 0 1) :
    cardSet fields p s = (s, .refusedRange, []) := if_pos h

theorem cardSet_bad (hone : numAt fields 0 1 = 1)
    (hbad : ¬ ((firstCardSetting fields).card ≠ 0 ∧ (firstCardSetting fields).flagsGood = true)) :
    cardSet fields p s = (s, .refusedRange, [.num 1 1]) := by
  unfold cardSet
  dsimp only
  rw [if_neg (by omega), cardSettings_one hone, badCardSetting_one hbad]
  rfl

/-- The reply's counts and evictions, from what the one setting did (R64, R170). -/
theorem cardSet_one {t : State} {new : Bool} {evicted : Option Nat} (hone : numAt fields 0 1 = 1)
    (hid : (firstCardSetting fields).card ≠ 0) (hflags : (firstCardSetting fields).flagsGood = true)
    (hw : writeCard [] (firstCardSetting fields) s = (t, new, evicted)) : cardSet fields p s =
      (t, .ok, [.num 1 new.toNat, .num 1 (!new).toNat, .num 1 evicted.toList.length] ++ evicted.toList.map (.num 7)) := by
  unfold cardSet
  dsimp only
  rw [if_neg (by omega), cardSettings_one hone, badCardSetting_none hid hflags]
  simp only [writeCards, hw, Nat.zero_add, List.nil_append]
  rfl

/-! ## CARD_REMOVE -/

theorem cardRemove_absent (h : findCard (numAt fields 0 7) s = none) : cardRemove fields p s = (s, .notFound, []) := by
  simp only [cardRemove, h]
  rfl

theorem cardRemove_inUse (h : findCard (numAt fields 0 7) s = some c) (ho : 0 < c.openCount) :
    cardRemove fields p s = (s, .cardInUse, []) := by
  simp only [cardRemove, h, if_pos ho]
  rfl

theorem cardRemove_removes (h : findCard (numAt fields 0 7) s = some c) (ho : c.openCount = 0) :
    cardRemove fields p s = ({ s with cards := s.cards.filter fun x => x.id != numAt fields 0 7 }, .ok, []) := by
  simp only [cardRemove, h, if_neg (Nat.not_lt.mpr (Nat.le_of_eq ho))]

end Sys2Proof.Machine

namespace Sys2Proof.Settled

open Sys2Proof.Machine

/-- Settles O27: the count and the setting's range, then the card's entry replaced, made or made in the place of the one
evicted; CARD_REMOVE by the entry it finds. -/
theorem cardSetAndRemove : Obligations.CardSetAndRemove := by
  refine ⟨?_, ?_⟩
  · intro s p tag fields h count id good balance written new older
    have hrange : (firstCardSetting fields).card ≠ 0 ∧ (firstCardSetting fields).flagsGood = true ↔ good :=
      and_congr_right fun _ => flagsGood_iff _
    have hwritten : (firstCardSetting fields).written = written := rfl
    have hmade : (firstCardSetting fields).made s.now = new := rfl
    refine ⟨fun hcount => ?_, fun hone hbad => ?_, fun hone hgood hc => ?_, fun hone hgood hc hroom => ?_,
      fun v hone hgood hc hfull hv ho hbest => ?_⟩
    · exact congrArg Host.Outcome.next (frameArrives_reads h rfl rfl fun t _ => cardSet_count hcount)
    · exact congrArg Host.Outcome.next (frameArrives_reads h rfl rfl fun t _ => cardSet_bad hone (mt hrange.mp hbad))
    all_goals
      obtain ⟨hid, hflags⟩ := hrange.mpr hgood
      refine congrArg Host.Outcome.next (frameArrives_taken h rfl rfl ?_)
    · rw [cardSet_one hone hid hflags (writeCard_present (by rw [findCard_modPort]; exact hc)), ← hwritten]
      simp only [modCard, beq_iff_eq]
      cases p <;> rfl
    · rw [cardSet_one hone hid hflags (writeCard_room ((findCard_modPort p _ s _).trans hc) (by simpa using hroom)),
        ← hmade]
      cases p <;> rfl
    · have hchoice : evictionChoice [] (received p s) = some v :=
        evictionChoice_eq (by simpa using hv) ho (by simpa using hbest)
      rw [cardSet_one hone hid hflags (writeCard_evicts ((findCard_modPort p _ s _).trans hc)
        (by simpa using hfull) hchoice), ← hmade]
      cases p <;> rfl
  · intro s p tag fields id
    refine ⟨fun hf hp hlen hs => ?_, fun h => ⟨fun hc => ?_, fun c hc ho => ?_, fun c hc ho => ?_⟩⟩
    · exact congrArg Host.Outcome.next (frameArrives_starting hf hp rfl rfl rfl rfl (by simp [FieldSize.agrees, hlen]) hs)
    · exact congrArg Host.Outcome.next (frameArrives_reads h rfl rfl fun t ht =>
        cardRemove_absent (by rw [ht, findCard_modPort, hc]))
    · exact congrArg Host.Outcome.next (frameArrives_reads h rfl rfl fun t ht =>
        cardRemove_inUse (by rw [ht, findCard_modPort, hc]) ho)
    · refine congrArg Host.Outcome.next (frameArrives_taken h rfl rfl ?_)
      rw [cardRemove_removes (by rw [findCard_modPort, hc]) ho]
      cases p <;> rfl

end Sys2Proof.Settled
end

section
/-! PROOFS. Authorizations that end: AUTH_TIMEOUT, AUTH_DENY, LINK_STATE (R77, R78, R80, R81). -/

namespace Sys2Proof.Machine

variable {s t u : State} {p : Port} {fields : List Byte} {e : AuthEntry} {r : Result} {l : List AuthEntry} {d : Nat}

/-! ## One authorization ends (R77) -/

/-- The entry removed and its dock HELD. -/
def withoutAuth (e : AuthEntry) (s : State) : State :=
  { setDock e.dock (heldRecord (s.dock e.dock)) s with authQueue := s.authQueue.filter fun x => x.tag != e.tag }

/-- The station after an authorization's end, with no batch open and no retirement pending at its dock. -/
def authEnded (r : Result) (s : State) (e : AuthEntry) : State := raise (.authDone e.tag r) (withoutAuth e s)

theorem endAuth_eq_authEnded (r : Result) (hp : (s.dock e.dock).retirePending = false) (hb : s.batch = none) :
    endAuth e r s = authEnded r s e := endAuth_plain r hp hb

theorem authEnded_received (r : Result) (p : Port) (s : State) (e : AuthEntry) :
    authEnded r (received p s) e = received p (authEnded r s e) := by
  have hwithout : withoutAuth e (received p s) = received p (withoutAuth e s) := by cases p <;> rfl
  unfold authEnded
  rw [hwithout, (unheard_received p).raised]

theorem authEnded_dock (hd : d < 64) : (authEnded r s e).dock d = if e.dock = d then heldRecord (s.dock d) else s.dock d := by
  have hset : (authEnded r s e).dock d = (setDock e.dock (heldRecord (s.dock e.dock)) s).dock d := raise_dock _ _ d
  rw [hset]
  by_cases hed : e.dock = d
  · rw [if_pos hed, hed, dock_setDock_self hd]
  · rw [if_neg hed, dock_setDock_other hed]

theorem authEnded_retirePending (d : Nat) : ((authEnded r s e).dock d).retirePending = (s.dock d).retirePending := by
  by_cases hd : d < 64
  · rw [authEnded_dock hd]
    split <;> rfl
  · have hset : (authEnded r s e).dock d = (setDock e.dock (heldRecord (s.dock e.dock)) s).dock d := raise_dock _ _ d
    by_cases hed : e.dock = d
    · rw [hset, setDock_out (hed ▸ Nat.le_of_not_lt hd)]
    · rw [hset, dock_setDock_other hed]

theorem mem_raiseIn_of_ne {m n : Notice} {pending : List Notice} (hm : m ∈ pending) (hk : m.kind ≠ n.kind) :
    m ∈ raiseIn n pending := by
  unfold raiseIn
  split
  · exact List.mem_map.mpr ⟨m, hm, if_neg (by simpa using hk)⟩
  · exact List.mem_append_left _ hm

/-! ## Every authorization of a list ends (R81) -/

/-- `u` is `s` after the end of every authorization of `l`, oldest first, with the result `r`. -/
structure AuthsEnded (r : Result) (l : List AuthEntry) (s u : State) : Prop where
  rest : u = { s with authQueue := u.authQueue, docks := u.docks
                      terminal := { s.terminal with pending := u.terminal.pending } }
  queue : ∀ x ∈ u.authQueue, x ∈ s.authQueue ∧ ∀ e ∈ l, x.tag ≠ e.tag
  dock : ∀ d, d < 64 → u.dock d = if l.any (fun e => e.dock == d) then heldRecord (s.dock d) else s.dock d
  told : ∀ e, l.getLast? = some e → Notice.authDone e.tag r ∈ u.terminal.pending
  kept : ∀ n ∈ s.terminal.pending, n.kind ≠ .authDone → n ∈ u.terminal.pending

theorem AuthsEnded.snoc (h : AuthsEnded r l s u) (e : AuthEntry) : AuthsEnded r (l ++ [e]) s (authEnded r u e) := by
  have hpending : (authEnded r u e).terminal.pending = raiseIn (.authDone e.tag r) u.terminal.pending := rfl
  refine ⟨?_, fun x hx => ?_, fun d hd => ?_, fun x hx => ?_, fun n hn hk => ?_⟩
  · unfold authEnded
    rw [h.rest]
    rfl
  · obtain ⟨hx, hne⟩ := List.mem_filter.mp (show x ∈ u.authQueue.filter fun x => x.tag != e.tag from hx)
    obtain ⟨hs, hl⟩ := h.queue x hx
    refine ⟨hs, fun a ha => ?_⟩
    rcases List.mem_append.mp ha with ha | ha
    · exact hl a ha
    · rw [List.mem_singleton.mp ha]
      simpa using hne
  · rw [authEnded_dock hd, h.dock d hd, List.any_append]
    by_cases hed : e.dock = d
    · simp only [hed, if_true, List.any_cons, beq_self_eq_true, Bool.true_or, Bool.or_true]
      split <;> rfl
    · simp [hed]
  · rw [List.getLast?_concat, Option.some.injEq] at hx
    rw [hpending, ← hx]
    exact mem_raiseIn _ _
  · rw [hpending]
    exact mem_raiseIn_of_ne (h.kept n hn hk) hk

theorem authsEnded_foldl (r : Result) (l : List AuthEntry) (s : State) : AuthsEnded r l s (l.foldl (authEnded r) s) := by
  induction l using List.reverseRecOn with
  | nil => exact ⟨rfl, fun x hx => ⟨hx, nofun⟩, fun _ _ => rfl, nofun, fun n hn _ => hn⟩
  | append_singleton l e ih =>
    rw [List.foldl_concat]
    exact ih.snoc e

theorem foldl_endAuth (hb : s.batch = none) (hp : ∀ e ∈ l, (s.dock e.dock).retirePending = false) :
    l.foldl (fun t e => endAuth e r t) s = l.foldl (authEnded r) s := by
  induction l generalizing s with
  | nil => rfl
  | cons e l ih =>
    rw [List.foldl_cons, List.foldl_cons, endAuth_eq_authEnded r (hp e List.mem_cons_self) hb]
    exact ih hb fun x hx => (authEnded_retirePending x.dock).trans (hp x (List.mem_cons_of_mem e hx))

theorem foldl_authEnded_received (r : Result) (p : Port) (l : List AuthEntry) (s : State) :
    l.foldl (authEnded r) (received p s) = received p (l.foldl (authEnded r) s) :=
  List.foldl_hom (received p) fun t e => authEnded_received r p t e

/-! ## The rows and the requests -/

theorem authDeny_absent (h : findAuth (numAt fields 0 1) s = none) : authDeny fields p s = (s, .notFound, []) := by
  simp only [authDeny, h]
  rfl

theorem authDeny_found (h : findAuth (numAt fields 0 1) s = some e) :
    authDeny fields p s = (endAuth e .cardBlocked s, .ok, []) := by
  simp only [authDeny, h]

/-- The oldest entry whose countdown has run out (R78). -/
theorem onAuthTimeout_oldest {before after : List AuthEntry} (hq : s.authQueue = before ++ e :: after)
    (hb : ∀ x ∈ before, x.timedOut = false) (he : e.timedOut = true) : onAuthTimeout s = endAuth e .authTimeout s := by
  have hfind : s.authQueue.find? (fun e => e.timedOut) = some e := by
    rw [hq, List.find?_append, List.find?_eq_none.mpr fun x hx => by simp [hb x hx]]
    simp [he]
  unfold onAuthTimeout
  rw [hfind]

theorem onAuthTimeout_none (h : ∀ e ∈ s.authQueue, e.timedOut = false) : onAuthTimeout s = s := by
  unfold onAuthTimeout
  rw [List.find?_eq_none.mpr fun x hx => by simp [h x hx]]

/-- The link OFFLINE, its authorizations not ended yet. -/
def linkLost (s : State) : State := { s with link := .offline }

theorem linkLost_received (p : Port) (s : State) : linkLost (received p s) = received p (linkLost s) := by cases p <;> rfl

theorem linkState_offline (hv : numAt fields 0 1 = 0) (hl : s.link = .online) (hb : s.batch = none)
    (hp : ∀ e ∈ s.authQueue, (s.dock e.dock).retirePending = false) :
    linkState fields p s = (s.authQueue.foldl (authEnded .offline) (linkLost s), .ok, []) := by
  unfold linkState
  dsimp only
  rw [if_neg (by omega), if_neg (by omega), if_pos hl]
  exact congrArg (·, _) (foldl_endAuth (s := linkLost s) hb hp)

end Sys2Proof.Machine

namespace Sys2Proof.Settled

open Sys2Proof.Machine

/-- Settles O31: each end is `authEnded`; the link's loss ends the queue entry by entry (`AuthsEnded`). -/
theorem authorizationsEnd : Obligations.AuthorizationsEnd := by
  refine ⟨?_, ?_⟩
  · intro s hb ended
    refine ⟨fun before e after hq hbefore he hp => ?_, fun hnone => ?_, fun p tag fields h =>
      ⟨fun hnone => ?_, fun e he hp => ?_⟩⟩
    · exact congrArg Host.Outcome.next ((onAuthTimeout_oldest hq hbefore he).trans (endAuth_plain _ hp hb))
    · exact congrArg Host.Outcome.next (onAuthTimeout_none hnone)
    · exact congrArg Host.Outcome.next (frameArrives_reads h rfl rfl fun t ht =>
        authDeny_absent (by rw [ht, findAuth_modPort, hnone]))
    · refine congrArg Host.Outcome.next (frameArrives_taken h rfl rfl ?_)
      rw [authDeny_found ((findAuth_modPort p _ s _).trans he),
        endAuth_eq_authEnded _ (by simpa using hp) (by simpa using hb)]
      exact congrArg (·, _) (authEnded_received .cardBlocked p s e)
  · intro s p tag fields h v
    refine ⟨fun hv => ?_, fun hv => ?_, fun hv hl => ?_, fun hv hl hb hp => ?_⟩
    · exact congrArg Host.Outcome.next (frameArrives_reads h rfl rfl fun t _ => if_pos hv)
    · refine congrArg Host.Outcome.next (frameArrives_taken h rfl rfl ?_)
      refine (if_neg (by omega)).trans ((if_pos hv).trans ?_)
      cases p <;> rfl
    · refine congrArg Host.Outcome.next (frameArrives_reads h rfl rfl fun t ht => ?_)
      have hlink : ¬ t.link = .online := by simp [ht, hl]
      exact (if_neg (by omega)).trans ((if_neg (by omega)).trans (if_neg hlink))
    · have hended := authsEnded_foldl .offline s.authQueue (linkLost s)
      generalize hu : s.authQueue.foldl (authEnded .offline) (linkLost s) = u at hended
      have hempty : u.authQueue = [] := List.eq_nil_iff_forall_not_mem.mpr fun x hx =>
        (hended.queue x hx).2 x (hended.queue x hx).1 rfl
      have hrest := hended.rest
      rw [hempty] at hrest
      refine ⟨u, congrArg Host.Outcome.next (frameArrives_taken h rfl rfl ?_), hrest, hended.dock, hended.told, hended.kept⟩
      rw [linkState_offline hv (by simpa using hl) (by simpa using hb) (by simpa using hp), modPort_authQueue,
        linkLost_received, foldl_authEnded_received, hu]

end Sys2Proof.Settled
end

section
/-! PROOFS. AUTH_GRANT and the hire that it resumes (R44, R79). -/

namespace Sys2Proof.Machine

variable {d i n card : Nat} {s t : State} {p : Port} {tag : Byte} {fields : List Byte} {k : BikeKind} {c : Card} {b : Bike}
  {r : Result} {e : AuthEntry} {x : CardSetting}

/-! ## The hire that a grant resumes (R44) -/

theorem namedDock_passes (hd : d < s.installed) (hv : verdict d s = .hireable) (hk : kindAt d k s = true) :
    namedDock d k s = none := by
  simp [namedDock, Nat.not_le.mpr hd, hv, hk]

theorem resumeHire_refused (hd : namedDock d k s = none) (hc : cardStep card k s = .refused r) :
    resumeHire card d k s = (s, r, 0) := by
  simp only [resumeHire, hd, hc]

theorem resumeHire_accepted (hd : namedDock d k s = none) (hc : cardStep card k s = .pass c) (hroom : s.hires.length < 96)
    (hs : startHire c d s = (t, some n)) : resumeHire card d k s = (t, .ok, n) := by
  have hroom' : ¬ Config.hirePlaces ≤ s.hires.length := Nat.not_le.mpr hroom
  simp only [resumeHire, hd, hc, if_neg hroom', hs]

/-- A hire started at a dock with nothing in hand, while the queue has room: the UNLATCH stands, and but for the bus the
acceptance is made on the station as it was (R43). -/
theorem startHire_handsFree (c : Card) (hb : (s.dock d).bike = some b) (hfree : HandsFree d s)
    (hroom : s.bus.queue.length < 16) : ∃ t, startHire c d s = (t, some (freeHireNumber s)) ∧
      Placed (releaseUnlatch d) t ∧ BusOnly (acceptHire c (b.id.getD 0) b.kind d s) t := by
  have hplaced : Placed (releaseUnlatch d) (kick (modBus (fun b => { b with queue := b.queue ++ [releaseUnlatch d] }) s)) :=
    placed_kick (.inl (List.mem_append_right _ List.mem_cons_self))
  have hbus := (modBus_busOnly (fun b => { b with queue := b.queue ++ [releaseUnlatch d] }) s).trans (kick_busOnly _)
  have hunlatch := placeUnlatch_handsFree hfree hroom
  generalize kick (modBus (fun b => { b with queue := b.queue ++ [releaseUnlatch d] }) s) = v at *
  refine ⟨acceptHire c (b.id.getD 0) b.kind d v, ?_, hplaced.of_bus rfl, busOnly_acceptHire hbus c _ _ d⟩
  have hnumber : freeHireNumber v = freeHireNumber s := busOnly_read hbus freeHireNumber fun _ _ _ => rfl
  unfold startHire
  rw [hb]
  dsimp only
  rw [hunlatch, ← hnumber]

/-! ## The grant installed (R79) -/

/-- The card that a grant makes has its entry, and the authorization is gone. -/
def granted (x : CardSetting) (e : AuthEntry) (s : State) : State :=
  { withoutAuth e s with cards := s.cards ++ [x.made s.now] }

theorem granted_received (x : CardSetting) (e : AuthEntry) (p : Port) (s : State) :
    granted x e (received p s) = received p (granted x e s) := by cases p <;> rfl

theorem installGrant_room (hc : findCard x.card s = none) (hroom : s.cards.length < Config.cardPlaces)
    (hp : (s.dock e.dock).retirePending = false) (hb : s.batch = none) : installGrant x e s = (granted x e s, none) := by
  unfold installGrant
  rw [writeCard_room hc hroom]
  exact congrArg (·, none) (becomeHeld_plain (s := dropAuth e.tag { s with cards := s.cards ++ [x.made s.now] }) hp hb)

theorem findCard_granted (hc : findCard x.card s = none) : findCard x.card (granted x e s) = some (x.made s.now) := by
  have hmade : [x.made s.now].find? (fun c => c.id == x.card) = some (x.made s.now) :=
    List.find?_cons_of_pos (beq_self_eq_true x.card)
  exact (List.find?_append (xs := s.cards)).trans ((congrArg (Option.or · _) hc).trans hmade)

theorem dock_granted (hd : e.dock < 64) : (granted x e s).dock e.dock = heldRecord (s.dock e.dock) :=
  dock_setDock_self hd _ s

theorem handsFree_granted (hd : e.dock < 64) (h : HandsFree e.dock s) : HandsFree e.dock (granted x e s) := by
  obtain ⟨howed, hqueue, hflight⟩ := h
  exact ⟨(congrArg Dock.owed (dock_granted hd)).trans howed, hqueue, hflight⟩

theorem namedDock_granted (hd : e.dock < s.installed) (h64 : e.dock < 64) (hb : (s.dock e.dock).bike = some b)
    (hk : b.kind = e.wanted) (hv : verdict e.dock (granted x e s) = .hireable) :
    namedDock e.dock e.wanted (granted x e s) = none :=
  namedDock_passes hd hv (kindAt_iff.mpr ⟨b, (congrArg Dock.bike (dock_granted h64)).trans hb, hk⟩)

/-- The hire of a card that passes, at the dock of its authorization with nothing in hand, is accepted (R44). -/
theorem resumeHire_granted (hc : findCard x.card s = none) (h64 : e.dock < 64)
    (hnamed : namedDock e.dock e.wanted (granted x e s) = none)
    (hpass : cardCheck (x.made s.now) e.wanted (granted x e s) = none) (hhires : s.hires.length < 96)
    (hb : (s.dock e.dock).bike = some b) (hfree : HandsFree e.dock s) (hqueue : s.bus.queue.length < 16) :
    ∃ t, resumeHire x.card e.dock e.wanted (granted x e s) = (t, .ok, freeHireNumber s) ∧
      Placed (releaseUnlatch e.dock) t ∧
      BusOnly (acceptHire (x.made s.now) (b.id.getD 0) b.kind e.dock (granted x e s)) t := by
  have hbike : ((granted x e s).dock e.dock).bike = some b := (congrArg Dock.bike (dock_granted h64)).trans hb
  obtain ⟨t, hstart, hstands⟩ := startHire_handsFree (x.made s.now) hbike (handsFree_granted h64 hfree) hqueue
  exact ⟨t, resumeHire_accepted hnamed (cardStep_passes (findCard_granted hc) hpass) hhires hstart, hstands⟩

theorem acceptHire_received (c : Card) (i : Nat) (k : BikeKind) (d : Nat) (p : Port) (s : State) :
    acceptHire c i k d (received p s) = received p (acceptHire c i k d s) := by cases p <;> rfl

/-- The hire accepted at the dock of a grant, table by table (R43, R72, R88). -/
theorem acceptHire_granted (hc : findCard x.card s = none) (hd : e.dock < 64) (hb : (s.dock e.dock).bike = some b)
    (hi : b.id = some i) : acceptHire (x.made s.now) (b.id.getD 0) b.kind e.dock (granted x e s) =
      { setDock e.dock { heldRecord (s.dock e.dock) with
          state := .releasing, owner := some (.hire (freeHireNumber s)), bike := some { b with sense := none }
          phase := some .unlatching } s with
        authQueue := s.authQueue.filter fun x => x.tag != e.tag
        lastHire := freeHireNumber s
        cards := s.cards ++ [{ x.made s.now with
          held := (s.policy (x.made s.now).policyIndex).holdAmount, openCount := 1 }]
        hires := s.hires ++ [acceptedHire (freeHireNumber s) (x.made s.now) i b.kind e.dock s] } := by
  have hbike : ((granted x e s).dock e.dock).bike = some b := (congrArg Dock.bike (dock_granted hd)).trans hb
  have hothers (g : Card → Card) : s.cards.map (fun c => if c.id = x.card then g c else c) = s.cards := by
    refine (List.map_congr_left fun c hm => if_neg fun hid => ?_).trans (List.map_id s.cards)
    exact findCard_none hc (List.mem_map.mpr ⟨c, hm, hid⟩)
  have hcards (g : Card → Card) : (granted x e s).cards.map (fun c => if c.id = (x.made s.now).id then g c else c) =
      s.cards ++ [g (x.made s.now)] := by
    refine List.map_append.trans ?_
    rw [List.map_singleton, if_pos rfl]
    exact congrArg (· ++ _) (hothers g)
  rw [acceptHire_written hbike hi, hcards, dock_granted hd]
  have hdocks (l : Dock) : setDock e.dock l (granted x e s) = { granted x e s with docks := (setDock e.dock l s).docks } :=
    congrArg (fun u : State => { granted x e s with docks := u.docks }) (setDock_setDock e.dock l _ s)
  rw [hdocks]
  simp only [CardSetting.made, CardSetting.written, Nat.zero_add]
  rfl

/-! ## The request -/

theorem authGrant_absent (hflags : (grantCard fields 0).flagsGood = true) (h : findAuth (numAt fields 0 1) s = none) :
    authGrant fields p s = (s, .notFound, []) := by
  simp only [authGrant, hflags, h]
  rfl

/-- AUTH_GRANT for a card that finds room, from what its resumed hire comes to (R79, R170). -/
theorem authGrant_granted (hflags : (grantCard fields 0).flagsGood = true) (h : findAuth (numAt fields 0 1) s = some e)
    (hinstall : installGrant (grantCard fields e.card) e s = (granted (grantCard fields e.card) e s, none))
    (hresume : resumeHire e.card e.dock e.wanted (granted (grantCard fields e.card) e s) = (t, r, n)) :
    authGrant fields p s = (raise (.authDone (numAt fields 0 1) r) t, .ok,
      [.num 1 (numAt fields 0 1), .num 1 r.code, .num 2 n, .num 1 0, .num 7 0]) := by
  simp only [authGrant, hflags, h, hinstall, hresume]
  rfl

theorem grantCard_flags : (grantCard fields card).flagsGood = true ↔
    numAt fields 1 1 ≤ 1 ∧ numAt fields 2 1 ≤ 1 ∧ numAt fields 3 1 ≤ 1 ∧ numAt fields 4 1 ≤ 1 := flagsGood_iff _

theorem fieldBool_toNat (h : n ≤ 1) : (fieldBool n).toNat = n := by
  interval_cases n <;> rfl

/-- The policy index of the card that a grant makes (R63). -/
theorem grantCard_policyIndex (h1 : numAt fields 1 1 ≤ 1) (h2 : numAt fields 2 1 ≤ 1) (h3 : numAt fields 3 1 ≤ 1) (m : Nat) :
    ((grantCard fields card).made m).policyIndex = 4 * numAt fields 1 1 + 2 * numAt fields 2 1 + numAt fields 3 1 := by
  change 4 * (fieldBool (numAt fields 1 1)).toNat + 2 * (fieldBool (numAt fields 2 1)).toNat +
    (fieldBool (numAt fields 3 1)).toNat = _
  rw [fieldBool_toNat h1, fieldBool_toNat h2, fieldBool_toNat h3]

/-- AUTH_GRANT whose resumed hire is refused: the reply and AUTH_DONE carry the result (R44, R79). -/
theorem exec_authGrant_refused (htaken : Taken 0x24#8 p fields s) (hflags : (grantCard fields 0).flagsGood = true)
    (hauth : findAuth (numAt fields 0 1) s = some e) (hcard : findCard e.card s = none) (hroom : s.cards.length < 512)
    (hp : (s.dock e.dock).retirePending = false) (hbatch : s.batch = none)
    (hnamed : namedDock e.dock e.wanted (granted (grantCard fields e.card) e s) = none)
    (hr : cardCheck ((grantCard fields e.card).made s.now) e.wanted (granted (grantCard fields e.card) e s) = some r) :
    exec (.authGrant p tag fields) s = .next (WithReply 0x24#8 tag p .ok
      [.num 1 (numAt fields 0 1), .num 1 r.code, .num 2 0, .num 1 0, .num 7 0]
      (raise (.authDone (numAt fields 0 1) r) (granted (grantCard fields e.card) e s))) := by
  refine congrArg Host.Outcome.next (frameArrives_taken htaken rfl rfl ?_)
  have hinstall := installGrant_room (x := grantCard fields e.card) (e := e) (s := received p s)
    ((findCard_modPort p _ s _).trans hcard) (by simpa using hroom) (by simpa using hp) (by simpa using hbatch)
  have hresume : resumeHire e.card e.dock e.wanted (granted (grantCard fields e.card) e (received p s)) =
      (received p (granted (grantCard fields e.card) e s), r, 0) := by
    rw [granted_received]
    exact resumeHire_refused ((namedDock_modPort p _ _ _ _).trans hnamed)
      ((cardStep_modPort p _ _ _ _).trans (cardStep_refused (findCard_granted (x := grantCard fields e.card) hcard) hr))
  rw [authGrant_granted hflags ((findAuth_modPort p _ s _).trans hauth) hinstall hresume, (unheard_received p).raised]

/-- AUTH_GRANT whose resumed hire is accepted: the UNLATCH stands, the reply and AUTH_DONE say OK (R43, R44, R79). -/
theorem exec_authGrant_accepted (htaken : Taken 0x24#8 p fields s) (hflags : (grantCard fields 0).flagsGood = true)
    (hauth : findAuth (numAt fields 0 1) s = some e) (hcard : findCard e.card s = none) (hroom : s.cards.length < 512)
    (hp : (s.dock e.dock).retirePending = false) (hbatch : s.batch = none) (h64 : e.dock < 64)
    (hnamed : namedDock e.dock e.wanted (granted (grantCard fields e.card) e s) = none)
    (hpass : cardCheck ((grantCard fields e.card).made s.now) e.wanted (granted (grantCard fields e.card) e s) = none)
    (hhires : s.hires.length < 96) (hb : (s.dock e.dock).bike = some b) (hfree : HandsFree e.dock s)
    (hqueue : s.bus.queue.length < 16) :
    ∃ t, exec (.authGrant p tag fields) s = .next t ∧ Placed (releaseUnlatch e.dock) t ∧
      BusOnly (WithReply 0x24#8 tag p .ok
        [.num 1 (numAt fields 0 1), .num 1 0, .num 2 (freeHireNumber s), .num 1 0, .num 7 0]
        (raise (.authDone (numAt fields 0 1) .ok) (acceptHire ((grantCard fields e.card).made s.now) (b.id.getD 0) b.kind
          e.dock (granted (grantCard fields e.card) e s)))) t := by
  have hcard' : findCard (grantCard fields e.card).card (received p s) = none := (findCard_modPort p _ s _).trans hcard
  have hinstall := installGrant_room (e := e) hcard' (by simpa using hroom) (by simpa using hp) (by simpa using hbatch)
  obtain ⟨t, hresume, hplaced, hbus⟩ := resumeHire_granted (e := e) (b := b) hcard' h64
    (by rw [granted_received, namedDock_modPort, hnamed]) (by rw [granted_received, cardCheck_modPort, modPort_now, hpass])
    (by simpa using hhires) (by simpa using hb) (by cases p <;> exact hfree) (by simpa using hqueue)
  rw [freeHireNumber_modPort] at hresume
  rw [granted_received, acceptHire_received, modPort_now] at hbus
  have hempty : received p t = t := received_of_empty
    ((busOnly_read hbus (fun u => (u.port p).partialFrame) fun _ _ _ => by cases p <;> rfl).trans
      (congrArg PortState.partialFrame (port_modPort_self p _ _)))
  have hanswer := authGrant_granted (p := p) hflags ((findAuth_modPort p _ s _).trans hauth) hinstall hresume
  have hraised : raise (.authDone (numAt fields 0 1) .ok) t = received p (raise (.authDone (numAt fields 0 1) .ok) t) := by
    rw [(unheard_received p).raised, hempty]
  rw [hraised] at hanswer
  refine ⟨_, congrArg Host.Outcome.next (frameArrives_taken htaken rfl rfl hanswer), ?_, ?_⟩
  · exact hplaced.of_bus (by cases p <;> rfl)
  · have hact := busOnly_withReply (hbus.map (raise (.authDone (numAt fields 0 1) .ok)) (raise_apart _)) 0x24#8 tag p .ok
      [.num 1 (numAt fields 0 1), .num 1 0, .num 2 (freeHireNumber s), .num 1 0, .num 7 0]
    rwa [← (unheard_received p).raised, withReply_received] at hact

end Sys2Proof.Machine

namespace Sys2Proof.Settled

open Sys2Proof.Machine

/-- Settles O30: the card installed and the authorization gone (`granted`), then the resumed hire by its card step. -/
theorem authGrant : Obligations.AuthGrant := by
  refine ⟨?_, ?_⟩
  · intro s p tag fields h h1 h2 h3 h4
    have hflags : (grantCard fields 0).flagsGood = true := grantCard_flags.mpr ⟨h1, h2, h3, h4⟩
    refine ⟨fun hnone => congrArg Host.Outcome.next (frameArrives_reads h rfl rfl fun t ht =>
      authGrant_absent hflags (by rw [ht, findAuth_modPort, hnone])), ?_⟩
    intro e b hauth hcard hroom hd h64 hp hbatch hb hk new after done hv
    have hrefused {r : Result}
        (hr : cardCheck ((grantCard fields e.card).made s.now) e.wanted (granted (grantCard fields e.card) e s) = some r) :
        done r := exec_authGrant_refused h hflags hauth hcard hroom hp hbatch (namedDock_granted hd h64 hb hk hv) hr
    obtain ⟨hblocked, hnot, -⟩ := cardCheck_refused ((grantCard fields e.card).made s.now) e.wanted
      (granted (grantCard fields e.card) e s)
    refine ⟨fun hstanding => hrefused (hblocked (if_pos hstanding)), fun hstanding hmax => hrefused (hnot ?_ ?_)⟩
    · change fieldStanding (numAt fields 4 1) = .good
      rw [hstanding]
      rfl
    · rw [grantCard_policyIndex h1 h2 h3]
      exact hmax
  · intro s p tag fields e b i h h1 h2 h3 h4 hauth hcard hroom hhires hd h64 hp hbatch hb hk hi hfree hqueue index pol tar n
      balance held hv hmax helectric hfunds
    have hflags : (grantCard fields 0).flagsGood = true := grantCard_flags.mpr ⟨h1, h2, h3, by omega⟩
    have hindex : ((grantCard fields e.card).made s.now).policyIndex = index := grantCard_policyIndex h1 h2 h3 _
    have hgood : ((grantCard fields e.card).made s.now).standing = .good := by
      change fieldStanding (numAt fields 4 1) = .good
      rw [h4]
      rfl
    have hpass : cardCheck ((grantCard fields e.card).made s.now) e.wanted (granted (grantCard fields e.card) e s) = none := by
      refine cardCheck_passes hgood ?_ (fun hw => ?_) ?_
      all_goals rw [hindex]
      · exact hmax
      · exact helectric (hk.trans hw)
      · exact hfunds.trans (Int.le_of_eq (Int.sub_zero balance).symm)
    obtain ⟨t, hrow, hplaced, hact⟩ := exec_authGrant_accepted (tag := tag) h hflags hauth hcard hroom hp hbatch h64
      (namedDock_granted hd h64 hb hk hv) hpass hhires hb hfree hqueue
    refine ⟨t, hrow, hplaced, ?_⟩
    rw [acceptHire_granted hcard h64 hb hi, acceptedHire, hindex] at hact
    simp only [CardSetting.made, CardSetting.written] at hact
    rw [show fieldStanding (grantCard fields e.card).standing = .good from hgood] at hact
    exact hact

end Sys2Proof.Settled
end

section
/-! PROOFS. The hire numbers are a law of the books: at most 96, distinct, none of them 0 (R83, R87). -/

namespace Sys2Proof.Machine

variable {s t : State} {l l' : List Nat} {n : Nat}

/-- At most 96 numbers, no two the same and none of them 0 (R83, R87). -/
structure HireNumbers (l : List Nat) : Prop where
  few : l.length ≤ Config.hirePlaces
  distinct : l.Nodup
  nonzero : 0 ∉ l

namespace HireNumbers

theorem sublist (h : HireNumbers l) (hl : l'.Sublist l) : HireNumbers l' :=
  ⟨hl.length_le.trans h.few, h.distinct.sublist hl, fun h0 => h.nonzero (hl.subset h0)⟩

theorem append (h : HireNumbers l) (h0 : n ≠ 0) (hfree : n ∉ l) (hroom : l.length < Config.hirePlaces) :
    HireNumbers (l ++ [n]) := by
  refine ⟨?_, ?_, ?_⟩
  · rw [List.length_append, List.length_singleton]
    omega
  · exact (List.perm_append_comm (l₁ := [n])).nodup_iff.mp (List.nodup_cons.mpr ⟨hfree, h.distinct⟩)
  · simpa using ⟨h.nonzero, Ne.symm h0⟩

end HireNumbers

/-- The numbers of the Hire Register keep their law (R83, R87). -/
def Numbered (s : State) : Prop := HireNumbers (s.hires.map Hire.number)

theorem numbered_iff (s : State) : Numbered s ↔
    s.hires.length ≤ 96 ∧ (s.hires.map Hire.number).Nodup ∧ ∀ r ∈ s.hires, r.number ≠ 0 := by
  constructor
  · rintro ⟨hfew, hdistinct, hnonzero⟩
    exact ⟨by simpa using hfew, hdistinct, fun r hr h0 => hnonzero (List.mem_map.mpr ⟨r, hr, h0⟩)⟩
  · rintro ⟨hfew, hdistinct, hnonzero⟩
    exact ⟨by simpa using hfew, hdistinct, by simpa using hnonzero⟩

/-- A hire that changes in other respects keeps its number. -/
theorem modHire_numbers (n : Nat) {f : Hire → Hire} (hf : ∀ r, (f r).number = r.number) (s : State) :
    (modHire n f s).hires.map Hire.number = s.hires.map Hire.number := by
  rw [modHire, List.map_map]
  refine List.map_congr_left fun r _ => ?_
  simp only [Function.comp_apply, apply_ite Hire.number, hf, ite_self]

theorem writeCard_hires (written : List Nat) (c : CardSetting) (s : State) :
    (writeCard written c s).1.hires = s.hires := by
  unfold writeCard
  split
  · rfl
  · dsimp only
    rw [makeCardRoom_eq]

/-- The law reads nothing but the numbers. -/
theorem Numbered.like (h : Numbered s) (ht : t.hires.map Hire.number = s.hires.map Hire.number) : Numbered t :=
  (congrArg HireNumbers ht).mpr h

/-- Every deal in the cards and the hires keeps the law of the numbers. -/
theorem numbered_bookLaw : BookLaw Numbered where
  same hs h := h.like (congrArg (List.map Hire.number) hs.2)
  blank _ hhires := (numbered_iff _).mpr (by simp [hhires])
  turn n _ hf h := h.like (modHire_numbers n (fun r => (hf r).1) _)
  enter n h0 hfree hroom _ h := by
    have happended := HireNumbers.append h h0 hfree (by simpa using hroom)
    simpa [Numbered, placeHold] using happended
  cancel _ h := HireNumbers.sublist h (List.filter_sublist.map _)
  close {s r} e p _ h := by
    rw [Numbered, closeHire_hires]
    exact HireNumbers.sublist h (List.filter_sublist.map _)
  write c _ h := h.like (congrArg (List.map Hire.number) (writeCard_hires _ c _))
  remove _ _ h := h

/-- Even a full register leaves a number free, and the allocation takes such a one (R87). -/
theorem freeHireNumber_unused (h : s.hires.length ≤ 96) :
    freeHireNumber s ∉ s.hires.map Hire.number ∧ 1 ≤ freeHireNumber s ∧ freeHireNumber s ≤ 65535 := by
  have hfree := firstFree_free (top := 65535) (used := s.hires.map Hire.number) (by simp; omega) s.lastHire
  rwa [List.length_map] at hfree

end Sys2Proof.Machine

namespace Sys2Proof.Settled

open Sys2Proof.Machine

/-- Settles O38: `Numbered` is a law of the books, and fewer than 65,535 numbers are ever in use. -/
theorem hireNumbersUnique : Obligations.HireNumbersUnique := by
  refine ⟨(numbered_iff _).mp (numbered_bookLaw.blank rfl rfl), fun s h => ?_, fun s t h hs =>
    (numbered_iff t).mp (numbered_bookLaw.step ((numbered_iff s).mpr h) hs)⟩
  obtain ⟨hfree, hpositive, htop⟩ := freeHireNumber_unused h.1
  exact ⟨Nat.one_le_iff_ne_zero.mp hpositive, htop, fun r hr he => hfree (List.mem_map.mpr ⟨r, hr, he⟩)⟩

end Sys2Proof.Settled
end

section
/-! PROOFS. The charge of a hire (R92), and the requests that answer from its record: HIRE_QUERY and HIRE_READ (R97,
R98). -/

namespace Sys2Proof.Machine

variable {s : State} {p : Port} {fields : List Byte} {r : Hire}

/-! ## The charge (R92) -/

/-- The started 24-hour periods, with the one that a duration of 0 counts as (R92, step 5). -/
theorem chargePeriods_eq (D : Nat) : chargePeriods D = if (D + 1439) / 1440 = 0 then 1 else (D + 1439) / 1440 := by
  unfold chargePeriods
  split <;> omega

/-- The raw charge under its day cap, the price of a unit written out (R92, steps 2 to 5). -/
theorem cappedCharge_eq (t : Terms) (kind : BikeKind) (D : Nat) : cappedCharge t kind D =
    if 0 < t.c then
      min (chargeUnits t D * if kind = .electric then t.p + t.q else t.p) (t.c * chargePeriods D)
    else chargeUnits t D * if kind = .electric then t.p + t.q else t.p := by
  cases kind <;> rfl

/-- Under a day cap the raw charge lies within it (R92, step 5). -/
theorem cappedCharge_le {t : Terms} (hc : t.c ≠ 0) (kind : BikeKind) (D : Nat) :
    cappedCharge t kind D ≤ t.c * chargePeriods D := by
  rw [cappedCharge_eq, if_pos (Nat.pos_of_ne_zero hc)]
  exact Nat.min_le_right _ _

/-- The discount and the saturation only lower the charge (R92, steps 6 and 7). -/
theorem charge_le_cappedCharge (t : Terms) (kind : BikeKind) (D : Nat) : charge t kind D ≤ cappedCharge t kind D :=
  calc charge t kind D
    _ ≤ cappedCharge t kind D * (100 - t.discount) / 100 := Nat.min_le_left _ _
    _ ≤ cappedCharge t kind D * 100 / 100 := Nat.div_le_div_right (Nat.mul_le_mul_left _ (Nat.sub_le _ _))
    _ = cappedCharge t kind D := Nat.mul_div_cancel _ (by decide)

/-! ## Reading a hire (R97, R98) -/

theorem origin_code (x : Origin) : x.code = if x = .restored then 1 else 0 := by cases x <;> rfl

theorem hireQuery_absent (h : findHire (numAt fields 0 2) s = none) : hireQuery fields p s = (s, .notFound, []) := by
  simp only [hireQuery, h]
  rfl

theorem hireQuery_starting (h : findHire (numAt fields 0 2) s = some r) (hs : r.state = .starting) :
    hireQuery fields p s = (s, .hireNotOut, []) := by
  simp only [hireQuery, h, if_pos hs]
  rfl

/-- The duration and the charge of a hire that is out run to now (R97). -/
theorem hireQuery_out {S : Nat} (h : findHire (numAt fields 0 2) s = some r) (hs : r.state ≠ .starting)
    (hstart : r.start = some S) : hireQuery fields p s = (s, .ok,
      [.num 2 r.number, .num 1 r.state.code, .num 4 S, .num 3 r.bike, .num 4 (s.now - S),
       .num 4 (twos 32 (hireCharge r s.now))]) := by
  simp only [hireQuery, h, if_neg hs, hireDuration_eq hstart, hstart]
  rfl

theorem hireRead_absent (h : findHire (numAt fields 0 2) s = none) : hireRead fields p s = (s, .notFound, []) := by
  simp only [hireRead, h]
  rfl

theorem hireRead_found (h : findHire (numAt fields 0 2) s = some r) : hireRead fields p s = (s, .ok, hireFields r) := by
  simp only [hireRead, h]

/-- The fields of a hire record in their widths (R83, R170). -/
theorem hireFields_eq (r : Hire) : hireFields r =
    [.num 2 r.number, .num 1 r.state.code, .num 7 r.card, .num 1 r.policyIndex, .num 3 r.bike,
     .num 1 (if r.kind = .electric then 1 else 0), .num 1 r.dockFrom.isSome.toNat, .num 1 (r.dockFrom.getD 0),
     .num 1 r.start.isSome.toNat, .num 4 (r.start.getD 0), .num 2 r.holdAmount,
     .num 1 (if r.origin = .restored then 1 else 0), .num 1 r.terms.a, .num 1 r.terms.b, .num 2 r.terms.p,
     .num 2 r.terms.q, .num 2 r.terms.c, .num 1 r.terms.discount, .num 2 r.terms.maxDuration] := by
  rw [← bikeKind_code, ← origin_code]
  rfl

/-- A request that only a READY station takes, on a port that it may come in on and with fields of its size (R169). -/
theorem frameArrives_notReady {code tag : Byte} {row : RequestRow} (hf : Free p s) (hc : replyCode code = code + 0x80#8)
    (hrow : requestRow code = some row) (hports : row.takenOn p = true) (hready : row.starting = false)
    (hsize : row.size.agrees fields = true) (hs : s.station = .starting) :
    frameArrives p code tag fields s = Reads code tag p .starting [] s :=
  frameArrives_refused hf hc (by simp [portChecks, hrow, hports, hsize, hs, hready])

end Sys2Proof.Machine

namespace Sys2Proof.Settled

open Sys2Proof.Machine

/-- Settles O34: the seven steps one by one; the discount and the saturation keep the charge under the cap. -/
theorem charge : Obligations.Charge := by
  intro r S E hstart t D U n R k K F
  have hD : hireDuration r E = D := (hireDuration_eq hstart E).trans (by dsimp only [D]; split <;> omega)
  have hk : chargePeriods D = k := chargePeriods_eq D
  have hK : cappedCharge t r.kind D = K := (cappedCharge_eq t r.kind D).trans (by rw [hk]; rfl)
  have hcharge : hireCharge r E = Machine.charge t r.kind D := congrArg (Machine.charge t r.kind) hD
  refine ⟨?_, hcharge ▸ charge_le t r.kind D, fun hc => ?_⟩
  · rw [hcharge, Machine.charge, hK]
    change min F 999999 = _
    split <;> omega
  · calc hireCharge r E
      _ ≤ cappedCharge t r.kind D := hcharge ▸ charge_le_cappedCharge t r.kind D
      _ ≤ t.c * chargePeriods D := cappedCharge_le hc r.kind D
      _ = t.c * k := by rw [hk]

/-- Settles O35: every answer comes from the record that the number finds, and leaves the state as it is. -/
theorem hireQueryAndRead : Obligations.HireQueryAndRead := by
  intro s p tag fields h code
  have found {t : State} (ht : t = received p s) : findHire h t = findHire h s := ht ▸ findHire_modPort p _ s h
  have hcode (r : Hire) : r.state.code = code r := by
    dsimp only [code]
    cases r.state <;> rfl
  refine ⟨fun hf hp hlen hs => ?_, fun hf hp hlen hs => ?_, fun ht => ⟨fun hnone => ?_, fun r hr hs => ?_,
    fun r S hr hs hstart => ?_⟩, fun ht => ⟨fun hnone => ?_, fun r hr => ?_⟩⟩ <;>
    refine congrArg Host.Outcome.next ?_
  · have hports : (RequestRow.mk 0x11#8 true true false false (.fixed 2)).takenOn p = true :=
      match p, hp with
      | .terminal, _ => rfl
      | .uplink, _ => rfl
      | .service, h => absurd rfl h
    exact frameArrives_notReady hf rfl rfl hports rfl (by simp [FieldSize.agrees, hlen]) hs
  · exact frameArrives_starting hf hp rfl rfl rfl rfl (by simp [FieldSize.agrees, hlen]) hs
  · exact frameArrives_reads ht rfl rfl fun t he => hireQuery_absent ((found he).trans hnone)
  · exact frameArrives_reads ht rfl rfl fun t he => hireQuery_starting ((found he).trans hr) hs
  · refine frameArrives_reads ht rfl rfl fun t he => ?_
    rw [hireQuery_out ((found he).trans hr) hs hstart, hcode, he, modPort_now]
    rfl
  · exact frameArrives_reads ht rfl rfl fun t he => hireRead_absent ((found he).trans hnone)
  · refine frameArrives_reads ht rfl rfl fun t he => ?_
    rw [hireRead_found ((found he).trans hr), hireFields_eq, hcode]

end Sys2Proof.Settled
end

section
/-! PROOFS. HIRE_CLOSE_REMOTE: a hire closed whatever the balance it leaves (R74, R75, R94, R99). -/

namespace Sys2Proof.Machine

variable {s : State} {p : Port} {fields : List Byte} {r : Hire} {c : Card} {id : Nat}

/-! ## The close (R94) -/

/-- The state in which a hire closed at charge `F` has left the register and its card is settled (R74, R94). -/
def settledAt (r : Hire) (F : Nat) (s : State) : State :=
  writeMoney (s.hires.filter fun x => x.number != r.number) (settledCards r F s) s

theorem dropHire_settle (r : Hire) (F : Nat) (s : State) :
    dropHire r.number (settle r.card r.holdAmount F s) = settledAt r F s := by
  simp only [settledAt, settledCards, dropHire, settle, modCard, beq_iff_eq]
  rfl

theorem findCard_settledAt (hc : findCard r.card s = some c) (F : Nat) :
    findCard r.card (settledAt r F s) = some { c with
      held := c.held - r.holdAmount, balance := max (c.balance - F) (-99999), openCount := c.openCount - 1
      lastUse := s.clock.minute } := by
  rw [← dropHire_settle]
  exact findCard_modCard r.card _ (fun _ => rfl) hc

theorem findCard_enterRecord (e : Entry) (s : State) : findCard id (enterRecord e s) = findCard id s := by
  unfold findCard
  rw [enterRecord_cards]

/-- A card is blocked only if it is GOOD and its balance lies below 0 (R75). -/
theorem blockIfNegative_stays (hc : findCard id s = some c) (h : 0 ≤ c.balance ∨ c.standing = .blocked) :
    blockIfNegative id s = s := by
  unfold blockIfNegative
  rw [hc]
  refine if_neg fun hlow => ?_
  rcases h with h | h
  · exact absurd hlow.1 (Int.not_lt.mpr h)
  · rw [h] at hlow
    exact absurd hlow.2 nofun

theorem blockIfNegative_blocks (hc : findCard id s = some c) (hlow : c.balance < 0) (hgood : c.standing = .good) :
    blockIfNegative id s =
      enterRecord (.cardBlocked id c.balance) (modCard id (fun x => { x with standing := .blocked }) s) := by
  unfold blockIfNegative
  rw [hc]
  exact if_pos ⟨hlow, hgood⟩

/-- The card changed, beside what an entry does. -/
theorem modCard_enterRecord (f : Card → Card) (e : Entry) (s : State) :
    modCard id f (enterRecord e s) = enterRecord e (modCard id f s) := by
  have hwrite := (unheard_writeMoney s.hires (s.cards.map fun c => if c.id == id then f c else c)).entered e s
  refine Eq.trans ?_ hwrite
  simp only [modCard, writeMoney, enterRecord_cards, enterRecord_hires]

section
variable (m : Nat) (place : Place) (hc : findCard r.card s = some c)
include hc

/-- A hire closed: settled, journaled, and its card blocked if need be (R94). -/
theorem closeHire_eq : closeHire r m place s =
    blockIfNegative r.card (enterRecord (.hireClose r.number r.card r.bike place (hireDuration r m) (hireCharge r m)
      (max (c.balance - hireCharge r m) (-99999))) (settledAt r (hireCharge r m) s)) := by
  unfold closeHire
  dsimp only
  rw [dropHire_settle, balanceOf, findCard_settledAt hc]

theorem closeHire_keepsStanding (h : 0 ≤ max (c.balance - hireCharge r m) (-99999) ∨ c.standing = .blocked) :
    closeHire r m place s = enterRecord (.hireClose r.number r.card r.bike place (hireDuration r m) (hireCharge r m)
      (max (c.balance - hireCharge r m) (-99999))) (settledAt r (hireCharge r m) s) := by
  rw [closeHire_eq m place hc]
  exact blockIfNegative_stays ((findCard_enterRecord _ _).trans (findCard_settledAt hc _)) h

theorem closeHire_blocks (hlow : max (c.balance - hireCharge r m) (-99999) < 0) (hgood : c.standing = .good) :
    closeHire r m place s = enterRecord (.cardBlocked r.card (max (c.balance - hireCharge r m) (-99999)))
      (enterRecord (.hireClose r.number r.card r.bike place (hireDuration r m) (hireCharge r m)
        (max (c.balance - hireCharge r m) (-99999)))
        (modCard r.card (fun x => { x with standing := .blocked }) (settledAt r (hireCharge r m) s))) := by
  rw [closeHire_eq m place hc,
    blockIfNegative_blocks ((findCard_enterRecord _ _).trans (findCard_settledAt hc _)) hlow hgood, modCard_enterRecord]

/-- The card of a closed hire has the balance that the settlement left (R74). -/
theorem balanceOf_closeHire :
    balanceOf r.card (closeHire r m place s) = max (c.balance - hireCharge r m) (-99999) := by
  have hsettled := findCard_settledAt hc (hireCharge r m)
  by_cases hstays : 0 ≤ max (c.balance - hireCharge r m) (-99999) ∨ c.standing = .blocked
  · rw [closeHire_keepsStanding m place hc hstays, balanceOf, findCard_enterRecord, hsettled]
  · obtain ⟨hlow, hstanding⟩ := not_or.mp hstays
    have hgood : c.standing = .good := by
      cases h : c.standing
      · rfl
      · exact absurd h hstanding
    rw [closeHire_blocks m place hc (Int.not_le.mp hlow) hgood, balanceOf, findCard_enterRecord, findCard_enterRecord,
      findCard_modCard r.card (fun x => { x with standing := .blocked }) (fun _ => rfl) hsettled]

end

theorem blockIfNegative_received (id : Nat) (p : Port) (s : State) :
    blockIfNegative id (received p s) = received p (blockIfNegative id s) := by
  unfold blockIfNegative
  rw [findCard_modPort]
  split
  · rw [apply_ite (received p), (unheard_received p).entered]
    cases p <;> rfl
  · rfl

/-- A close does not read the frames of a port. -/
theorem closeHire_received (m : Nat) (place : Place) (hc : findCard r.card s = some c) :
    closeHire r m place (received p s) = received p (closeHire r m place s) := by
  have hsettled : settledAt r (hireCharge r m) (received p s) = received p (settledAt r (hireCharge r m) s) := by
    cases p <;> rfl
  rw [closeHire_eq m place hc, closeHire_eq m place ((findCard_modPort p _ s _).trans hc), hsettled,
    ← (unheard_received p).entered, blockIfNegative_received]

/-! ## The request (R99) -/

theorem hireCloseRemote_noStation (h : numAt fields 6 2 = 0) : hireCloseRemote fields p s = (s, .refusedRange, []) :=
  if_pos h

theorem hireCloseRemote_absent (h : numAt fields 6 2 ≠ 0) (hr : findHire (numAt fields 0 2) s = none) :
    hireCloseRemote fields p s = (s, .notFound, []) := by
  simp only [hireCloseRemote, if_neg h, hr]
  rfl

theorem hireCloseRemote_starting (h : numAt fields 6 2 ≠ 0) (hr : findHire (numAt fields 0 2) s = some r)
    (hs : r.state = .starting) : hireCloseRemote fields p s = (s, .hireNotOut, []) := by
  simp only [hireCloseRemote, if_neg h, hr, if_pos hs]
  rfl

theorem hireCloseRemote_closes (h : numAt fields 6 2 ≠ 0) (hr : findHire (numAt fields 0 2) s = some r)
    (hs : r.state ≠ .starting) (hc : findCard r.card s = some c) {E : Nat}
    (hE : clampEnd r (numAt fields 2 4) s.now = E) :
    hireCloseRemote fields p s = (closeHire r E (.remote (numAt fields 6 2)) s, .ok,
      [.num 2 r.number, .num 4 (hireDuration r E), .num 4 (twos 32 (hireCharge r E)),
       .num 4 (twos 32 (max (c.balance - hireCharge r E) (-99999)))]) := by
  subst hE
  simp only [hireCloseRemote, if_neg h, hr, if_neg hs, balanceOf_closeHire _ _ hc]
  rfl

end Sys2Proof.Machine

namespace Sys2Proof.Settled

open Sys2Proof.Machine

/-- Settles O36: the checks of R99 in their order, then the close, which blocks a GOOD card that falls below 0. -/
theorem hireCloseRemote : Obligations.HireCloseRemote := by
  intro s p tag fields htaken h station
  have found : findHire h (received p s) = findHire h s := findHire_modPort p _ s h
  have refused {r : Result} {reply : List ReplyField}
      (hr : ∀ t : State, findHire h t = findHire h s → Machine.hireCloseRemote fields p t = (t, r, reply)) :
      exec (.hireCloseRemote p tag fields) s = .next (Reads 0x2C#8 tag p r reply s) :=
    congrArg Host.Outcome.next (frameArrives_reads htaken rfl rfl fun t ht => hr t (ht ▸ found))
  refine ⟨fun h0 => refused fun t _ => hireCloseRemote_noStation h0,
    fun h0 hnone => refused fun t ht => hireCloseRemote_absent h0 (ht.trans hnone),
    fun r hr h0 hs => refused fun t ht => hireCloseRemote_starting h0 (ht.trans hr) hs, ?_⟩
  intro r S c hr hstart hc h0 hs E F after settled close reply
  have hnumber : r.number = h := findHire_number hr
  have hE : clampEnd r (numAt fields 2 4) (received p s).now = E := by
    rw [modPort_now, clampEnd, hstart]
    rfl
  have hclosed {t : State} (ht : closeHire r E (.remote station) s = t) :
      exec (.hireCloseRemote p tag fields) s = .next (WithReply 0x2C#8 tag p .ok reply t) := by
    refine congrArg Host.Outcome.next (frameArrives_taken htaken rfl rfl ?_)
    rw [hireCloseRemote_closes h0 (found.trans hr) hs ((findCard_modPort p _ s _).trans hc) hE,
      closeHire_received _ _ hc, ht, hireDuration_eq hstart, hnumber]
  have hjournaled : Entry.hireClose r.number r.card r.bike (.remote station) (hireDuration r E) (hireCharge r E) after =
      close := by rw [hireDuration_eq hstart, hnumber]
  refine ⟨fun hstays => hclosed ?_, fun hlow hgood => hclosed ?_⟩
  · have hsettled : settledAt r F s = settled false := by
      rw [settledAt, hnumber]
      rfl
    rw [closeHire_keepsStanding E (.remote station) hc hstays, hjournaled, hsettled]
  · have hsettled : modCard r.card (fun x => { x with standing := .blocked }) (settledAt r F s) = settled true := by
      simp only [settledAt, hnumber, modCard, writeMoney, settledCards, settled, List.map_map]
      congr 1
      refine List.map_congr_left fun x _ => ?_
      simp only [Function.comp_apply, beq_iff_eq]
      by_cases hx : x.id = r.card
      · simp only [hx, if_true]
      · simp only [hx, if_false]
    rw [closeHire_blocks E (.remote station) hc hlow hgood, hjournaled, hsettled]

end Sys2Proof.Settled
end

section
/-! PROOFS. The overdue check (R96), and the two acts that advance the minute beside the tick: STATION_MINUTE_INCREASE
(R183) and TIME_SET (R184). -/

namespace Sys2Proof.Machine

variable {s t u : State} {α : Type} {before : α → α → Bool}

/-! ## The order of the check -/

theorem insertBy_eq (x : α) (l : List α) :
    insertBy before x l = l.orderedInsert (fun a b => before a b = true) x := by
  induction l with
  | nil => rfl
  | cons y l ih =>
    rw [insertBy, List.orderedInsert_cons, ih]

theorem sortBy_eq (l : List α) : sortBy before l = l.insertionSort (fun a b => before a b = true) := by
  induction l with
  | nil => rfl
  | cons x l ih => rw [sortBy, ih, insertBy_eq, List.insertionSort_cons]

theorem overdueBefore_iff (a b : Hire) : overdueBefore a b = true ↔
    a.start.getD 0 < b.start.getD 0 ∨ (a.start.getD 0 = b.start.getD 0 ∧ a.number ≤ b.number) := by
  simp [overdueBefore]

/-- The hires that become OVERDUE, in the order of the check (R96). -/
def overdueHires (s : State) : List Hire := sortBy overdueBefore (s.hires.filter (overdueNow s))

theorem overdueHires_perm (s : State) : (overdueHires s).Perm (s.hires.filter (overdueNow s)) := by
  rw [overdueHires, sortBy_eq]
  exact List.perm_insertionSort _ _

/-- Start minute and hire number order the hires totally (R96). -/
theorem overdueHires_pairwise (s : State) : (overdueHires s).Pairwise fun a b =>
    a.start.getD 0 < b.start.getD 0 ∨ (a.start.getD 0 = b.start.getD 0 ∧ a.number ≤ b.number) := by
  have htotal : Std.Total fun a b : Hire => overdueBefore a b = true :=
    ⟨fun a b => by simp only [overdueBefore_iff]; omega⟩
  have htrans : IsTrans Hire fun a b => overdueBefore a b = true :=
    ⟨fun a b c => by simp only [overdueBefore_iff]; omega⟩
  rw [overdueHires, sortBy_eq]
  exact (List.pairwise_insertionSort _ _).imp fun h => (overdueBefore_iff _ _).mp h

theorem overdueNow_iff (s : State) (r : Hire) : overdueNow s r = true ↔
    r.state = .out ∧ r.terms.maxDuration ≤ s.clock.minute - r.start.getD s.clock.minute := by
  rw [overdueNow, Bool.and_eq_true, beq_iff_eq, decide_eq_true_eq]
  rfl

/-! ## What the check writes -/

/-- `t` is `s` but for the hires, the journal and what is pending on the UPLINK. -/
def Chased (s t : State) : Prop :=
  t = { s with hires := t.hires, journal := t.journal, uplink := { s.uplink with pending := t.uplink.pending } }

theorem Chased.refl (s : State) : Chased s s := rfl

theorem Chased.trans (h : Chased s t) (k : Chased t u) : Chased s u := by
  unfold Chased at *
  rw [k, h]

theorem Chased.foldl {f : State → α → State} (hf : ∀ t a, Chased t (f t a)) (l : List α) (s : State) :
    Chased s (l.foldl f s) := by
  induction l generalizing s with
  | nil => exact .refl s
  | cons a l ih => exact (hf s a).trans (ih _)

theorem chased_raise {n : Notice} (hn : n.kind.port = .uplink) (s : State) : Chased s (raise n s) := by
  unfold raise
  rw [hn]
  rfl

theorem chased_writeJournal (j : Journal) (s : State) : Chased s (writeJournal j s) := rfl

theorem chased_evalHeld (s : State) : Chased s (evalHeld s) := by
  rw [evalHeld_eq]
  split
  · split
    · exact chased_writeJournal _ s
    · exact .refl s
  · split
    · exact (chased_writeJournal _ s).trans (chased_raise rfl _)
    · exact .refl s

theorem chased_appendRecord (e : Entry) (s : State) : Chased s (appendRecord e s) := by
  rw [appendRecord_eq]
  split
  · exact chased_writeJournal _ s
  · refine Chased.trans ?_ (chased_evalHeld _)
    split
    · exact (chased_writeJournal _ s).trans (chased_raise rfl _)
    · exact chased_writeJournal _ s

/-- The journal tells the UPLINK alone (R155, R159). -/
theorem chased_enterRecord (e : Entry) (s : State) : Chased s (enterRecord e s) := by
  refine Chased.trans ?_ (chased_appendRecord e _)
  rw [frontOverrun_eq]
  split
  · exact (chased_appendRecord _ s).trans (chased_writeJournal _ _)
  · exact .refl s

theorem chased_makeOverdue (r : Hire) (s : State) : Chased s (makeOverdue r s) :=
  (show Chased s (modHire r.number (fun x => { x with state := .overdue }) s) from rfl).trans
    ((chased_enterRecord _ _).trans (chased_raise rfl _))

theorem chased_overdueCheck (s : State) : Chased s (overdueCheck s) :=
  Chased.foldl (fun t r => chased_makeOverdue r t) _ s

/-! ## The journal of the check -/

/-- Two states with the same journal, and with the settings and the clock that an entry reads. -/
structure SameLedger (s t : State) : Prop where
  journal : t.journal = s.journal
  settings : t.settings = s.settings
  clock : t.clock = s.clock

theorem SameLedger.symm (h : SameLedger s t) : SameLedger t s := ⟨h.journal.symm, h.settings.symm, h.clock.symm⟩

theorem SameLedger.told (h : SameLedger s t) (n : Notice) : SameLedger s (raise n t) :=
  ⟨(raise_journal n t).trans h.journal, (raise_tells n t).settings.trans h.settings,
    (raise_tells n t).clock.trans h.clock⟩

theorem SameLedger.raise (h : SameLedger s t) (n : Notice) : SameLedger (raise n s) (raise n t) :=
  ((h.told n).symm.told n).symm

theorem SameLedger.write (h : SameLedger s t) (j : Journal) : SameLedger (writeJournal j s) (writeJournal j t) :=
  ⟨rfl, h.settings, h.clock⟩

theorem SameLedger.ite {p : Prop} [Decidable p] {s' t' : State} (h : SameLedger s t) (h' : SameLedger s' t') :
    SameLedger (if p then s else s') (if p then t else t') := by
  split
  · exact h
  · exact h'

theorem SameLedger.evaluated (h : SameLedger s t) : SameLedger (evalHeld s) (evalHeld t) := by
  rw [evalHeld_eq, evalHeld_eq, h.journal, h.settings]
  exact .ite (.ite (h.write _) h) (.ite ((h.write _).raise _) h)

theorem SameLedger.appended (h : SameLedger s t) (e : Entry) : SameLedger (appendRecord e s) (appendRecord e t) := by
  rw [appendRecord_eq, appendRecord_eq, h.journal, h.settings, h.clock]
  exact .ite (h.write _) (.evaluated (.ite ((h.write _).raise _) (h.write _)))

/-- What an entry writes comes from the journal, the settings and the clock alone (R154, R160). -/
theorem SameLedger.entered (h : SameLedger s t) (e : Entry) : SameLedger (enterRecord e s) (enterRecord e t) := by
  refine SameLedger.appended ?_ e
  have hover := h.appended (.overrun s.journal.lost)
  rw [frontOverrun_eq, frontOverrun_eq, h.journal, hover.journal]
  exact .ite (hover.write _) h

/-- A hire that becomes OVERDUE leaves in the ledger what its record alone would. -/
theorem SameLedger.makeOverdue (h : SameLedger s t) (r : Hire) :
    SameLedger (enterRecord (.hireOverdue r.number r.card r.bike) s) (makeOverdue r t) := by
  have hturned : SameLedger s (modHire r.number (fun x => { x with state := .overdue }) t) :=
    ⟨h.journal, h.settings, h.clock⟩
  exact (hturned.entered _).told _

theorem sameLedger_overdue (l : List Hire) (h : SameLedger s t) :
    SameLedger (l.foldl (fun u r => enterRecord (.hireOverdue r.number r.card r.bike) u) s)
      (l.foldl (fun u r => makeOverdue r u) t) := by
  induction l generalizing s t with
  | nil => exact h
  | cons r l ih => exact ih (h.makeOverdue r)

/-! ## The hires and the notice of the check -/

theorem foldl_makeOverdue_hires (l : List Hire) (s : State) : (l.foldl (fun u r => makeOverdue r u) s).hires =
    s.hires.map fun a => if a.number ∈ l.map Hire.number then { a with state := .overdue } else a := by
  induction l generalizing s with
  | nil => simp
  | cons r l ih =>
    rw [List.foldl_cons, ih, makeOverdue_hires, List.map_map]
    refine List.map_congr_left fun a _ => ?_
    by_cases har : a.number = r.number
    · simp [har]
    · simp [har]

/-- With distinct numbers the check turns just the hires that it has found (R83, R96). -/
theorem overdueCheck_hires (h : (s.hires.map Hire.number).Nodup) : (overdueCheck s).hires =
    s.hires.map fun r => if overdueNow s r = true then { r with state := .overdue } else r := by
  refine (foldl_makeOverdue_hires _ s).trans (List.map_congr_left fun a ha => ?_)
  refine if_congr ?_ rfl rfl
  refine ((overdueHires_perm s).map Hire.number).mem_iff.trans ?_
  constructor
  · intro hm
    obtain ⟨b, hb, hab⟩ := List.mem_map.mp hm
    obtain ⟨hb, hover⟩ := List.mem_filter.mp hb
    rwa [List.inj_on_of_nodup_map h ha hb hab.symm]
  · exact fun hover => List.mem_map_of_mem (List.mem_filter.mpr ⟨ha, hover⟩)

/-- The notice raised last is pending (R173). -/
theorem overdueCheck_tells {r : Hire} (h : (overdueHires s).getLast? = some r) :
    Notice.hireOverdue r.number ∈ (overdueCheck s).uplink.pending := by
  obtain ⟨l, hl⟩ := List.getLast?_eq_some_iff.mp h
  have hcheck : overdueCheck s = makeOverdue r (l.foldl (fun u r => makeOverdue r u) s) := by
    refine (congrArg (List.foldl (fun u r => makeOverdue r u) s) hl).trans ?_
    rw [List.foldl_append]
    rfl
  rw [hcheck]
  exact mem_raiseIn _ _

/-- The overdue check, as the statements give it (R96). -/
theorem overdueChecked (h : (s.hires.map Hire.number).Nodup) : OverdueChecked s (overdueCheck s) := by
  have hhires : (overdueCheck s).hires = s.hires.map fun r =>
      if r.state = .out ∧ r.terms.maxDuration ≤ s.clock.minute - r.start.getD s.clock.minute
      then { r with state := .overdue } else r := by
    simp only [overdueCheck_hires h, overdueNow_iff]
  have hfound : (fun r : Hire => r.state == .out && decide (r.terms.maxDuration ≤
      s.clock.minute - r.start.getD s.clock.minute)) = overdueNow s := rfl
  refine ⟨?_, overdueHires s, ?_, overdueHires_pairwise s, (sameLedger_overdue _ ⟨rfl, rfl, rfl⟩).journal,
    fun r hr => overdueCheck_tells hr⟩
  · rw [← hhires]
    exact chased_overdueCheck s
  · rw [hfound]
    exact overdueHires_perm s

/-! ## Acts beside the check -/

/-- What neither reads nor writes the clock, the hires, the journal or the notices may be done before the check or after
it. -/
theorem overdueCheck_comm {g : State → State} (hg : Unheard g) (hhires : ∀ s, (g s).hires = s.hires)
    (hturn : ∀ n f s, g (modHire n f s) = modHire n f (g s)) (s : State) :
    overdueCheck (g s) = g (overdueCheck s) := by
  have hmake (r : Hire) (t : State) : makeOverdue r (g t) = g (makeOverdue r t) := by
    rw [makeOverdue, makeOverdue, hg.raised, hg.entered, hturn]
  have hfold (l : List Hire) : ∀ t,
      l.foldl (fun u r => makeOverdue r u) (g t) = g (l.foldl (fun u r => makeOverdue r u) t) := by
    induction l with
    | nil => exact fun _ => rfl
    | cons r l ih =>
      intro t
      rw [List.foldl_cons, hmake, ih, List.foldl_cons]
  have hsame : overdueNow (g s) = overdueNow s := by
    funext r
    rw [overdueNow, overdueNow, State.now, State.now, hg.clock]
  unfold overdueCheck
  rw [hsame, hhires, hfold]

theorem unheard_modDue (f : Due → Due) : Unheard (modDue f) :=
  ⟨fun _ => rfl, fun _ => rfl, fun _ => rfl, fun _ _ => rfl, fun n s => by
    unfold raise
    cases n.kind.port <;> rfl⟩

theorem overdueCheck_modDue (f : Due → Due) (s : State) : overdueCheck (modDue f s) = modDue f (overdueCheck s) :=
  overdueCheck_comm (unheard_modDue f) (fun _ => rfl) (fun _ _ _ => rfl) s

theorem overdueCheck_received (p : Port) (s : State) : overdueCheck (received p s) = received p (overdueCheck s) :=
  overdueCheck_comm (unheard_received p) (fun s => modPort_hires p _ s) (fun _ _ _ => by cases p <;> rfl) s

/-! ## The rows -/

theorem minuteEnds_iff (s : State) : minuteEnds s = true ↔ 59 ≤ s.clock.second ∧ s.clock.minute < 4294967295 := by
  simp [minuteEnds, Config.lastMinute]

/-- The act of the tick to come, taken before it (R183). -/
theorem onStationMinuteIncrease_ends (h : minuteEnds s = true) : onStationMinuteIncrease s = overdueCheck { s with
    clock := { minute := s.clock.minute + 1, second := 0 }, due := { s.due with minuteTaken := true } } :=
  (if_pos h).trans (overdueCheck_modDue (fun d => { d with minuteTaken := true }) _).symm

theorem timeSet_back {p : Port} {fields : List Byte} (h : numAt fields 0 4 < s.clock.minute) :
    timeSet fields p s = (s, .refusedRange, []) := if_pos h

theorem timeSet_on {p : Port} {fields : List Byte} (h : ¬ numAt fields 0 4 < s.clock.minute) : timeSet fields p s =
    (overdueCheck { s with clock := { minute := numAt fields 0 4, second := 0 } }, .ok,
      [.num 4 s.clock.minute, .num 4 (numAt fields 0 4)]) := if_neg h

end Sys2Proof.Machine

namespace Sys2Proof.Settled

open Sys2Proof.Machine

/-- Settles O6: both acts are the overdue check at the new minute, beside the mark or the reply. -/
theorem minutesAdvance : Obligations.MinutesAdvance := by
  refine ⟨fun s => ⟨fun hsecond hminute hnodup => ?_, fun hnot => ?_⟩, fun s p tag fields hnodup htaken => ?_⟩
  · have hends : minuteEnds s = true := (minuteEnds_iff s).mpr ⟨hsecond.ge, hminute⟩
    exact ⟨_, congrArg Host.Outcome.next (onStationMinuteIncrease_ends hends), overdueChecked hnodup⟩
  · have hends : ¬ minuteEnds s = true := by
      rw [minuteEnds_iff]
      omega
    exact congrArg Host.Outcome.next (if_neg hends)
  · intro v
    have hclock : (received p s).clock = s.clock := modPort_clock p _ s
    split
    · rename_i hback
      exact congrArg Host.Outcome.next (frameArrives_reads htaken rfl rfl fun t ht =>
        timeSet_back (by rw [ht, hclock]; exact hback))
    · rename_i hon
      refine ⟨_, overdueChecked (s := { s with clock := { minute := v, second := 0 } }) hnodup,
        congrArg Host.Outcome.next (frameArrives_taken htaken rfl rfl ?_)⟩
      have hset : { received p s with clock := { minute := v, second := 0 } } =
          received p { s with clock := { minute := v, second := 0 } } := by cases p <;> rfl
      rw [timeSet_on (by rw [hclock]; exact hon), hclock, hset, overdueCheck_received]

end Sys2Proof.Settled
end

section
/-! PROOFS. The second tick (R183): with nothing left of an earlier tick, it counts the clock and every timer once. -/

namespace Sys2Proof.Machine

variable {s u : State}

/-! ## Nothing of an earlier tick to serve -/

theorem foldl_same {α : Type} {f : State → α → State} {l : List α} (h : ∀ a ∈ l, f s a = s) : l.foldl f s = s := by
  induction l with
  | nil => rfl
  | cons a l ih =>
    rw [List.foldl_cons, h a List.mem_cons_self]
    exact ih fun b hb => h b (List.mem_cons_of_mem a hb)

/-- The window and sense expiries of the installed docks, none of which has come (R47, R57, R151). -/
theorem dockExpiries_none (h : NothingWaits { s with due := { s.due with minuteTaken := false } }) :
    s.installedDocks.foldl (fun t d => onReleaseWindowExpiry d t) s = s ∧
      s.installedDocks.foldl (fun t d => onEjectWindowExpiry d t) s = s ∧
      s.installedDocks.foldl (fun t d => onSenseTimerExpiry d t) s = s := by
  obtain ⟨-, -, hdocks, -⟩ := h
  have hdock {d : Nat} (hd : d ∈ s.installedDocks) : windowDue .opened (s.dock d) = false ∧
      windowDue .ejectOpen (s.dock d) = false ∧ senseDue (s.dock d) = false := hdocks d (List.mem_range.mp hd)
  refine ⟨foldl_same fun d hd => if_neg ?_, foldl_same fun d hd => if_neg ?_, foldl_same fun d hd => if_neg ?_⟩
  · simp [(hdock hd).1]
  · simp [(hdock hd).2.1]
  · simp [(hdock hd).2.2]

/-- The rows of the periodic timers do nothing while no mark of theirs stands (assumption log 1). -/
theorem periodicExpiries_none (h : { s.due with minuteTaken := false } = Due.nothing) (low : Bool) :
    onBatchIdleExpiry s = s ∧ onPatrolIntervalExpiry s = s ∧ onPatrolPostscalerExpiry s = s ∧ onLeak s = s ∧
      onPollHoldoffClear low s = s ∧ onIdentRereadRetry s = s ∧ onAuditPass s = s := by
  have hidle : s.due.idle = false := congrArg Due.idle h
  have hpatrol : s.due.patrol = false := congrArg Due.patrol h
  have hpostscaler : s.due.postscaler = false := congrArg Due.postscaler h
  have hleak : s.due.leak = false := congrArg Due.leak h
  have hholdoff : s.due.holdoff = false := congrArg Due.holdoff h
  have hreread : s.due.reread = false := congrArg Due.reread h
  have haudit : s.due.auditPass = false := congrArg Due.auditPass h
  exact ⟨if_neg (by simp [hidle]), if_neg (by simp [hpatrol]), if_neg (by simp [hpostscaler]),
    if_neg (by simp [hleak]), if_neg (by simp [hholdoff]), if_neg (by simp [hreread]), if_neg (by simp [haudit])⟩

theorem authTimeouts_none (h : ∀ e ∈ s.authQueue, e.timedOut = false) : authTimeouts s = s := by
  unfold authTimeouts
  rw [List.filter_eq_nil_iff.mpr fun e he => by simp [h e he], List.foldl_nil]

theorem onDockResponseTimeout_none (h : ∀ f, s.bus.inFlight = some f → responseDue f = false) :
    onDockResponseTimeout s = s := by
  cases hf : s.bus.inFlight with
  | none => exact onDockResponseTimeout_idle hf
  | some f => exact onDockResponseTimeout_early hf (h f hf)

/-- A tick that finds nothing waiting serves nothing (assumption log 1). -/
theorem serveDue_none (h : NothingWaits { s with due := { s.due with minuteTaken := false } }) : serveDue s = s := by
  obtain ⟨hrelease, heject, hsense⟩ := dockExpiries_none h
  obtain ⟨hdue, hauths, -, hresponse⟩ := h
  have hauth : authTimeouts s = s := authTimeouts_none hauths
  have htimeout : onDockResponseTimeout s = s := onDockResponseTimeout_none hresponse
  obtain ⟨hidle, hpatrol, hpostscaler, hleak, hholdoff, hreread, haudit⟩ :=
    periodicExpiries_none hdue s.bus.attentionLow
  unfold serveDue
  simp only [hrelease, heject, hauth, hidle, hsense, hpatrol, hpostscaler, hleak, hholdoff, hreread, haudit, htimeout]

/-! ## The clock (R183) -/

theorem tickClock_taken (h : s.due.minuteTaken = true) : tickClock s = s := if_pos h

theorem tickClock_ends (h : s.due.minuteTaken = false) (hends : minuteEnds s = true) :
    tickClock s = overdueCheck { s with clock := { minute := s.clock.minute + 1, second := 0 } } :=
  (if_neg (by simp [h])).trans (if_pos hends)

theorem tickClock_counts (h : s.due.minuteTaken = false) (hends : ¬ minuteEnds s = true) : tickClock s =
    { s with clock := { s.clock with second := if s.clock.second < 59 then s.clock.second + 1 else 0 } } :=
  (if_neg (by simp [h])).trans (if_neg hends)

/-! ## The timers (R183) -/

/-- `u` after the timers of `s` have counted a tick. -/
def countedFrom (s u : State) : State :=
  { u with
    due := tickDue s
    docks := s.docks.map tickDock
    bus := { s.bus with inFlight := s.bus.inFlight.map tickInFlight }
    authQueue := s.authQueue.map tickAuth
    batch := s.batch.map tickBatch
    leakTimer := s.leakTimer + 1
    patrol := tickPatrol (intervalRuns s) s.patrol }

/-- No timer reads the clock, nor what the overdue check writes. -/
theorem countTick_eq {clock : Clock} (h : Chased { s with clock := clock } u) : countTick u = countedFrom s u := by
  unfold Chased at h
  generalize u.hires = hires, u.journal = journal, u.uplink.pending = pending at h
  subst h
  rfl

theorem exec_secondTick (h : NothingWaits { s with due := { s.due with minuteTaken := false } }) {clock : Clock}
    (hu : tickClock s = u) (hc : Chased { s with clock := clock } u) : exec .secondTick s = .next (countedFrom s u) := by
  have hrow : onSecondTick s = countTick (tickClock s) := congrArg (fun t => countTick (tickClock t)) (serveDue_none h)
  exact congrArg Host.Outcome.next (hrow.trans ((congrArg countTick hu).trans (countTick_eq hc)))

theorem intervalRuns_iff (s : State) : intervalRuns s = true ↔
    s.settings.patrolEnable = 1 ∧ s.station = .ready ∧ s.audit.kind = .idle := by
  simp [intervalRuns, and_assoc]

theorem idleExpires_eq (s : State) : idleExpires s = s.batch.any fun b => !b.expiryWaiting && b.idle == 0 := by
  unfold idleExpires
  cases s.batch <;> rfl

/-- The marks that a tick makes where none has been left (R25, R59, R117, R127, R139, R145). -/
theorem tickDue_eq (h : s.due.postscaler = false) : tickDue s = {
    minuteTaken := false
    idle := s.batch.any fun b => !b.expiryWaiting && b.idle == 0
    patrol := decide ((s.settings.patrolEnable = 1 ∧ s.station = .ready ∧ s.audit.kind = .idle) ∧
      s.settings.patrolInterval ≤ s.patrol.interval + 1)
    postscaler := false
    leak := decide (3600 * s.settings.leakPeriod ≤ s.leakTimer + 1)
    holdoff := s.bus.holdoff
    reread := s.installedDocks.any fun d => (s.dock d).state == .latching
    auditPass := s.audit.kind != .idle } := by
  simp only [← intervalRuns_iff, ← idleExpires_eq, Bool.decide_and, Bool.decide_eq_true]
  rw [tickDue, h]

theorem tickPatrol_eq (s : State) : tickPatrol (intervalRuns s) s.patrol =
    if s.settings.patrolEnable = 1 ∧ s.station = .ready ∧ s.audit.kind = .idle then
      { s.patrol with interval := s.patrol.interval + 1 }
    else s.patrol := if_congr (intervalRuns_iff s) rfl rfl

end Sys2Proof.Machine

namespace Sys2Proof.Settled

open Sys2Proof.Machine

/-- Settles O5: with nothing to serve, the clock by its four cases, and then the timers, which read nothing of it. -/
theorem secondTickCounts : Obligations.SecondTickCounts := by
  intro s hwaits hsecond runs counted
  have hpostscaler : s.due.postscaler = false := congrArg Due.postscaler hwaits.1
  have hcounted (u : State) : countedFrom s u = counted u := by
    rw [countedFrom, tickDue_eq hpostscaler, tickPatrol_eq]
    rfl
  have ticked {u : State} {clock : Clock} (hu : tickClock s = u) (hc : Chased { s with clock := clock } u) :
      exec .secondTick s = .next (counted u) := (exec_secondTick hwaits hu hc).trans (congrArg _ (hcounted u))
  have counts (hfree : s.due.minuteTaken = false) (hends : ¬ (59 ≤ s.clock.second ∧ s.clock.minute < 4294967295)) :=
    tickClock_counts hfree (mt (minuteEnds_iff s).mp hends)
  refine ⟨fun htaken => ?_, fun hfree hbelow => ?_, fun hfree h59 htop => ?_, fun hfree h59 hminute hnodup => ?_⟩
  · exact ticked (clock := s.clock) (tickClock_taken htaken) (.refl s)
  · have hclock := counts hfree (by omega)
    rw [if_pos hbelow] at hclock
    exact ticked hclock (.refl _)
  · have hclock := counts hfree (by omega)
    rw [if_neg (by omega)] at hclock
    exact ticked hclock (.refl _)
  · have hends : minuteEnds s = true := (minuteEnds_iff s).mpr ⟨h59.ge, hminute⟩
    exact ⟨_, overdueChecked hnodup, ticked (tickClock_ends hfree hends) (chased_overdueCheck _)⟩

end Sys2Proof.Settled
end
